-- ==== Sys2Proof/Word.lean ====
section
/-! DEFINITION. The byte of the trunk and of the lines, and the wider parameter fields (12_formats_and_signals.md R196). -/

namespace Sys2Proof

/-- One byte on the trunk, or one character of a line with all 8 bits. -/
abbrev Byte := BitVec 8

/-- A 2-byte field, high byte first on the trunk (R196). -/
abbrev Half := BitVec 16

/-- A 3-byte field, high byte first on the trunk (R196). -/
abbrev Triple := BitVec 24

end Sys2Proof
end

