-- ==== Sys2Proof/Syntax.lean ====
section
/-! DEFINITION. The commands of the part: one constructor for each row of spec/opcode_table.json, in the table's order.
A line is L0..L31. A channel is written 0..23 here and stands for the manual's channel 1..24 (channel k is `k - 1`); a channel that a management command names is the byte the wire carries.
A management command carries its tag and then its parameter fields in the order and width of R196 and R200, so that a field outside its range can be written down and is refused by the part. -/

namespace Sys2Proof

/-- The levels of the inputs that a command may read at the moment it is taken: KEYSW_N asserted (R60) and the ring indicators (R23). DESIGN CHOICE (log 5): the sender states the levels with the command that reads them; safe. -/
structure InputLevels where
  /-- KEYSW_N is asserted (the key stands in the unlocked position). -/
  key : Bool
  /-- Bit n is the level of RI of line n. -/
  ring : BitVec 32
deriving DecidableEq, Repr

/-- The commands: one constructor for each row of the opcode table. -/
inductive Instr
  /-- POWER_ON. Bit k of `written` says whether entry k of an interrupted page commit, or flag k of an interrupted protection write, holds its new value (R48; DESIGN CHOICE, log 7). -/
  | powerOn (written : Byte)
  /-- RESET_N asserted; `written` as for POWER_ON. -/
  | resetN (written : Byte)
  /-- RESET_N released, or power-on complete (R159, R173). -/
  | resetNRelease
  | ringBurst (line : Fin 32)
  | dcdUp (line : Fin 32)
  | dcdDown (line : Fin 32)
  | characterReceived (line : Fin 32) (char : Byte)
  | lineBreak (line : Fin 32)
  | characterSent (line : Fin 32)
  | noticeBegin (line : Fin 32)
  | noticeEnd (line : Fin 32)
  | prompt (line : Fin 32)
  | lineDrainEnd (line : Fin 32)
  | ringGapExpiry (line : Fin 32)
  | answerTimerExpiry (line : Fin 32)
  | signOnTimerExpiry (line : Fin 32)
  | carrierLoss (line : Fin 32)
  | drainTimerExpiry (line : Fin 32)
  | guardTimerExpiry (line : Fin 32)
  | idleTimerExpiry (line : Fin 32)
  | lookupCompletion (line : Fin 32)
  | grant
  | noticeTimerExpiry (line : Fin 32)
  | waitExpiry (line : Fin 32)
  | offerTimeout (channel : Fin 24)
  | closeTimeout (channel : Fin 24)
  | graceExpiry (channel : Fin 24)
  | expelExpiry (channel : Fin 24)
  | stageExpiry
  | writeCompletion
  | protectionWriteCompletion
  /-- SECOND_BOUNDARY. `order` names the meters whose reports are taken first, in their order; the others follow in channel order (R78 leaves the order open; DESIGN CHOICE, log 6). -/
  | secondBoundary (order : List (Fin 24))
  | sampleExpiry
  | trunkLoss
  /-- DOWNWARD_BLOCK. The bytes that arrived between this DNSYNC and the next (R169). -/
  | downwardBlock (bytes : List Byte) (levels : InputLevels)
  | dataSegment (channel : Fin 24) (chars : List Byte)
  | accept (channel : Fin 24)
  | reject (channel : Fin 24) (reason : Byte)
  | close (channel : Fin 24)
  | closed (channel : Fin 24)
  /-- FLOW; `go` is true for GO and false for STOP (R199). -/
  | flow (channel : Fin 24) (go : Bool)
  | upwardBlock
  | serviceBlock
  | unknownCommand (tag code : Byte)
  /-- CONTINUATION. A whole command block as it follows a partial command: tag, code, parameter length and the parameter bytes carried (R184, R200). -/
  | continuation (tag code length : Byte) (bytes : List Byte) (levels : InputLevels)
  | loadGroup (tag group enabled firstLine size ringCount answerTimeout carrierLoss signOnLimit attempts idleWarn idleClear activity factor answerMask : Byte)
  | loadMessage (tag slot length : Byte) (text : List Byte)
  | broadcast (tag length : Byte) (text : List Byte)
  | lineOutOfService (tag line : Byte)
  | lineReturn (tag line : Byte)
  | forceClear (tag line : Byte)
  /-- READ LINE; `ring` is the level of RI of the line at this moment (log 5). -/
  | readLine (tag line : Byte) (ring : Bool)
  | stageEntry (tag : Byte) (index : Half) (code : List Byte) (keep : Byte) (password : List Byte) (account cls enabled : Byte)
  | commitPage (tag : Byte)
  | discardStage (tag : Byte)
  | readEntry (tag : Byte) (index : Half)
  | findUser (tag : Byte) (code : List Byte)
  | unlockUser (tag : Byte) (index : Half)
  | protectBlock (tag block : Byte)
  | protectTariffs (tag : Byte)
  /-- UNPROTECT ALL; `key` says whether KEYSW_N is asserted at this moment (R60, log 5). -/
  | unprotectAll (tag : Byte) (key : Bool)
  /-- READ PROTECTION; `key` as for UNPROTECT ALL. -/
  | readProtection (tag : Byte) (key : Bool)
  | setAccount (tag account state : Byte) (balance overdraft warn : Triple) (limit : Byte)
  | setAccountState (tag account state : Byte)
  | creditAccount (tag account : Byte) (amount : Triple)
  | readAccount (tag account : Byte)
  | setClock (tag seconds minutes hours weekday day month year : Byte)
  | readClock (tag : Byte)
  | loadHoliday (tag entry month day : Byte)
  | readHoliday (tag entry : Byte)
  | loadSchedule (tag entry enabled weekdays hour minute period : Byte)
  | readSchedule (tag entry : Byte)
  | loadDaystart (tag weekday period : Byte)
  | readDaystart (tag : Byte)
  | loadRate (tag period cls : Byte) (rate : Half)
  | readRate (tag period : Byte)
  | loadPermit (tag period cls permit : Byte)
  | readPermit (tag period : Byte)
  | loadClass (tag cls setup : Byte) (maximum : Half) (grace priority essential : Byte)
  | readClass (tag cls : Byte)
  | readPeriod (tag : Byte)
  | setChannelPriority (tag channel flag : Byte)
  | clearChannel (tag channel : Byte)
  | readChannel (tag channel : Byte)
  | readQueue (tag : Byte)
  | fetchTicket (tag : Byte)
  | releaseTicket (tag : Byte) (serial : Half)
  | readTicketCounts (tag : Byte)
  | loadWatch (tag watch enabled mode upper lower critical hysteresis : Byte)
  | readWatch (tag watch : Byte)
  | ackAlert (tag watch : Byte)
  | openService (tag : Byte)
  | drainService (tag : Byte)
  | closeService (tag : Byte)
  | restart (tag : Byte)
  | loadParameters (tag lockout queueWait queueNotice offer close expelGrace holidayWeekday nd selector1 selector2 shedSource polarity : Byte)
  | readParameters (tag : Byte)
  | readCounters (tag : Byte)
deriving DecidableEq, Repr

end Sys2Proof
end

