-- ==== Sys2Proof/Decode.lean ====
section
/-! DEFINITION. The command a word spells by the table's bits, and the command index of the manual.
spec/opcode_table.json gives no row any bits, so no word spells a command. The command codes that the host sends in a COMMAND block (R200) are bytes of a block's payload; they are decoded in Machine/Trunk.lean. -/

namespace Sys2Proof

/-- The command that an opcode-table word spells: none, since the table gives no row any bits. -/
def decodeTableWord (_nbits _w : Nat) : Option Instr := none

/-- R200: the codes of the command index (section 11.9). -/
def commandCodes : List Byte :=
  [0x10, 0x11, 0x12, 0x13, 0x14, 0x15, 0x16] ++
  [0x20, 0x21, 0x22, 0x23, 0x24, 0x25, 0x26, 0x27, 0x28, 0x29] ++
  [0x30, 0x31, 0x32, 0x33] ++
  [0x40, 0x41, 0x42, 0x43, 0x44, 0x45, 0x46, 0x47, 0x48, 0x49, 0x4A, 0x4B, 0x4C, 0x4D, 0x4E, 0x4F] ++
  [0x50, 0x51, 0x52, 0x53] ++ [0x60, 0x61, 0x62] ++ [0x70, 0x71, 0x72] ++
  [0x80, 0x81, 0x82, 0x83, 0x84, 0x85]

end Sys2Proof
end

