-- ==== Sys2Proof/Config.lean ====
section
/-! DEFINITION. What the part fixes: the sizes of its tables and queues, the lengths of its fixed timers, the control characters, and the message slots by their names.
The manual leaves no value for an installation to fix and no result undefined, so there is no free value here: the orders it leaves open are operands of the commands concerned (Syntax.lean). -/

namespace Sys2Proof.Config

/-- Time is counted in tenths of a second, the smallest unit in which the manual gives a timer's length (R4, carrier-loss time). DESIGN CHOICE (log 2): safe, the expiries are commands of their own. -/
abbrev second : Nat := 10

/-- A minute in tenths of a second. -/
abbrev minute : Nat := 600

/-- R2: the receive FIFO's capacity. -/
abbrev rxCapacity : Nat := 64
/-- R3: the transmit buffer's capacity. -/
abbrev txCapacity : Nat := 128
/-- R18: the notice queue's capacity. -/
abbrev noticeCapacity : Nat := 4
/-- R20: the longest message text. -/
abbrev textLimit : Nat := 64
/-- R22, R181: the value at which a counter stays. -/
abbrev counterLimit : Nat := 65535
/-- R6: the value at which a ring count stays. -/
abbrev ringLimit : Nat := 255
/-- R125: the waiting queue's capacity. -/
abbrev queueCapacity : Nat := 16
/-- R185: the reply FIFO's capacity, reservations included. -/
abbrev replyCapacity : Nat := 16
/-- R183: the most parameter bytes one command block carries. -/
abbrev blockParams : Nat := 58
/-- R183: the most parameter bytes a command may state. -/
abbrev longestParams : Nat := 116
/-- R197: the payload of a trunk block. -/
abbrev payload : Nat := 61
/-- R178: the fill at which FLOW STOP is handed up. -/
abbrev flowStopFill : Nat := 112
/-- R178: the fill at which FLOW GO is handed up. -/
abbrev flowGoFill : Nat := 32
/-- R176: the most characters of one data segment. -/
abbrev segmentChars : Nat := 59

/-- R7, R8: the ring-gap timer, 8 s. -/
abbrev ringGap : Nat := 8 * second
/-- R11: the drain timer, 10 s. -/
abbrev drain : Nat := 10 * second
/-- R12: the guard timer, 2 s. -/
abbrev guard : Nat := 2 * second
/-- R19: how long the head notice is held for a line end, 2 s. -/
abbrev noticeHold : Nat := 2 * second
/-- R55: the stage timer, 30 s. -/
abbrev stage : Nat := 30 * second
/-- R171: the trunk-loss timer, 3 s. -/
abbrev trunkLoss : Nat := 3 * second

/-- R111: the greatest effective rate. -/
abbrev rateLimit : Nat := 65535
/-- R112: the units of 1/3600 in one charge unit. -/
abbrev unitParts : Nat := 3600
/-- R69: the greatest balance. -/
abbrev balanceLimit : Int := 8388607
/-- R115: seconds before the maximum at which the time warning is given. -/
abbrev timeWarning : Nat := 300
/-- R108: the period code of a MIXED segment. -/
abbrev mixed : Nat := 15

/-- Carriage return. -/
abbrev cr : Byte := 0x0D
/-- Line feed. -/
abbrev lf : Byte := 0x0A
/-- Backspace. -/
abbrev bs : Byte := 0x08
/-- Delete. -/
abbrev del : Byte := 0x7F
/-- Space. -/
abbrev space : Byte := 0x20

/-! The message slots (R20). -/

/-- M0, banner. -/
abbrev mBanner : Fin 24 := 0
/-- M1, user prompt. -/
abbrev mUser : Fin 24 := 1
/-- M2, password prompt. -/
abbrev mPassword : Fin 24 := 2
/-- M3, invalid sign-on. -/
abbrev mInvalid : Fin 24 := 3
/-- M4, user locked. -/
abbrev mLocked : Fin 24 := 4
/-- M5, account unavailable. -/
abbrev mAccount : Fin 24 := 5
/-- M6, not permitted now. -/
abbrev mNotNow : Fin 24 := 6
/-- M7, system busy. -/
abbrev mBusy : Fin 24 := 7
/-- M8, session limit. -/
abbrev mLimit : Fin 24 := 8
/-- M9, queue full. -/
abbrev mQueueFull : Fin 24 := 9
/-- M10, queue position. -/
abbrev mPosition : Fin 24 := 10
/-- M11, no port. -/
abbrev mNoPort : Fin 24 := 11
/-- M12, host refused. -/
abbrev mHostRefused : Fin 24 := 12
/-- M13, connected. -/
abbrev mConnected : Fin 24 := 13
/-- M14, idle warning. -/
abbrev mIdle : Fin 24 := 14
/-- M15, time warning. -/
abbrev mTime : Fin 24 := 15
/-- M16, balance low. -/
abbrev mBalance : Fin 24 := 16
/-- M17, budget exhausted. -/
abbrev mExhausted : Fin 24 := 17
/-- M18, expel notice. -/
abbrev mExpel : Fin 24 := 18
/-- M19, session ended. -/
abbrev mEnded : Fin 24 := 19
/-- M20, system down. -/
abbrev mDown : Fin 24 := 20
/-- M21, service closing. -/
abbrev mClosing : Fin 24 := 21
/-- M22, sign-on timeout. -/
abbrev mTimeout : Fin 24 := 22
/-- M23, broadcast text. -/
abbrev mBroadcast : Fin 24 := 23

end Sys2Proof.Config
end

