-- ==== Sys2Proof/Machine/State.lean ====
section
/-! DEFINITION. The state of the part as plain data, and its value after reset.
Every record below is one the manual names; INVENTORY.md lists each field with its rule. -/

namespace Sys2Proof.Machine

/-- A timer: stopped, or running toward a deadline on the model's time line (log 2, log 3). -/
abbrev Timer := Option Nat

/-! ## Line ports, line supervisor and sign-on unit (chapters 1 and 2) -/

/-- R6: the eleven line states. -/
inductive LineState
  | idle | ringing | answering | signon | checking | waiting | offered | connected | draining | clearing | blocked
deriving DecidableEq, Repr

/-- R4: a line-group descriptor. Times are in the units of R4. -/
structure Group where
  enabled : Bool
  firstLine : Nat
  size : Nat
  ringCount : Nat
  answerTimeout : Nat
  carrierLoss : Nat
  signOnLimit : Nat
  attempts : Nat
  idleWarn : Nat
  idleClear : Nat
  /-- Bit 0 input characters, bit 1 output characters, bit 2 breaks (R196). -/
  activity : BitVec 3
  factor : Nat
  /-- Bit p for period p (R196). -/
  answerMask : Byte
deriving DecidableEq, Repr

/-- R46: the admission record. -/
structure Admission where
  user : List Byte
  account : Fin 256
  cls : Fin 8
  priority : Bool
deriving DecidableEq, Repr

/-- R18: a pending notice. -/
structure Notice where
  msg : Fin 24
  value : Int
  joined : Nat
deriving DecidableEq, Repr

/-- R19: a notice being sent, its text read whole and its value put in. -/
structure Sending where
  msg : Fin 24
  text : List Byte
deriving DecidableEq, Repr

/-- R22: the four counters of a call record. -/
structure LineCounters where
  overruns : Nat
  discards : Nat
  drops : Nat
  failures : Nat
deriving DecidableEq, Repr

/-- R6: the seven timers of a call record. -/
structure LineTimers where
  ringGap : Timer
  answer : Timer
  signOn : Timer
  carrier : Timer
  idle : Timer
  drain : Timer
  guard : Timer
deriving DecidableEq, Repr

/-- R26: the phase of a sign-on dialogue. -/
inductive Phase
  | none | announce | userPrompt | user | passwordPrompt | password | lookup
deriving DecidableEq, Repr

/-- R26: the lookup field of a dialogue record. -/
inductive Lookup
  | none | inFlight | discarded
deriving DecidableEq, Repr

/-- R26: the dialogue record, with the directory's side of the lookup (R50, R51): the code looked up and whether a commit defers it. -/
structure Dialogue where
  phase : Phase
  user : List Byte
  password : List Byte
  lookup : Lookup
  code : List Byte
  deferred : Bool
deriving DecidableEq, Repr

/-- R6: the call record of a line, with its port (R1 to R3) and its dialogue (R26). -/
structure Line where
  state : LineState
  group : Option (Fin 4)
  rings : Nat
  attempts : Nat
  admission : Option Admission
  channel : Option (Fin 24)
  outOfService : Bool
  idleWarned : Bool
  notices : List Notice
  counters : LineCounters
  timers : LineTimers
  rx : List Byte
  tx : List Byte
  sending : Option Sending
  /-- The last character sent from the transmit buffer (R19). -/
  lastSent : Option Byte
  /-- The present level of RI (R23). -/
  ri : Bool
  /-- The present level of DCD (R9, R23). -/
  dcd : Bool
  dialogue : Dialogue
deriving DecidableEq, Repr

/-! ## User directory (chapter 3) -/

/-- R47: a directory entry. -/
structure Entry where
  code : List Byte
  password : List Byte
  account : Fin 256
  cls : Fin 8
  enabled : Bool
deriving DecidableEq, Repr

/-- R49: the failure and lock shadow of an entry. -/
structure Shadow where
  failures : Nat
  locked : Bool
deriving DecidableEq, Repr

/-- R52: a staged entry; no password means keep-password. -/
structure Staged where
  index : Fin 1024
  code : List Byte
  password : Option (List Byte)
  account : Fin 256
  cls : Fin 8
  enabled : Bool
deriving DecidableEq, Repr

/-- R52: the state of the stage buffer. -/
inductive StageState
  | empty | staging | committing
deriving DecidableEq, Repr

/-- R52, R61, R64: the write in progress. -/
inductive Write
  | none | page | protectBlock (block : Fin 8) | unprotectAll
deriving DecidableEq, Repr

/-- R52: the stage buffer; `expired` is an expiry held through a protection write (R56). -/
structure Stage where
  state : StageState
  page : Option (Fin 128)
  staged : List Staged
  write : Write
  timer : Timer
  expired : Bool
deriving DecidableEq, Repr

/-- The user directory. The store and the shadow are lists of (index, record) in canonical form: indices strictly rising, no record equal to what an unlisted index reads as (the empty entry, R47; the clear shadow, R49). -/
structure Directory where
  store : List (Nat × Entry)
  shadow : List (Nat × Shadow)
  /-- R48: bit b is the protection flag of block b. Nonvolatile. -/
  protect : Byte
  /-- R62: the tariff protection flag. -/
  tariffs : Bool
  stage : Stage
deriving DecidableEq, Repr

/-! ## Account table (chapter 4) -/

/-- R69: the state of an account. -/
inductive AccountState
  | closed | active | suspended
deriving DecidableEq, Repr

/-- R69: an account record: B, O, W, L, N and warned. -/
structure Account where
  state : AccountState
  balance : Int
  overdraft : Nat
  warn : Int
  limit : Nat
  openCount : Nat
  warned : Bool
deriving DecidableEq, Repr

/-! ## Calendar and tariff unit (chapter 5) -/

/-- R149: a start or end stamp. -/
structure Stamp where
  year : Nat
  month : Nat
  day : Nat
  hours : Nat
  minutes : Nat
  seconds : Nat
deriving DecidableEq, Repr

/-- R89: the time of the calendar clock. -/
structure Clock where
  seconds : Nat
  minutes : Nat
  hours : Nat
  weekday : Nat
  day : Nat
  month : Nat
  year : Nat
deriving DecidableEq, Repr

/-- R98: a schedule entry; bit w of `weekdays` is weekday w. -/
structure ScheduleEntry where
  enabled : Bool
  weekdays : BitVec 7
  hour : Nat
  minute : Nat
  period : Fin 8
deriving DecidableEq, Repr

/-- R104: a permit. -/
inductive Permit
  | closed | opened | expel
deriving DecidableEq, Repr

/-- R106: a class table record. -/
structure ClassRecord where
  setup : Nat
  maximum : Nat
  grace : Nat
  priority : Bool
  essential : Bool
deriving DecidableEq, Repr

/-- The calendar and tariff unit: clock record (R89), tables (R96 to R106), the minute last evaluated (R102) and the moment of the next second boundary (R90). -/
structure Calendar where
  clock : Clock
  valid : Bool
  holiday : Bool
  weekday : Nat
  period : Fin 8
  minute : Nat
  boundary : Timer
  holidays : Vector (Option (Nat × Nat)) 16
  schedule : Vector ScheduleEntry 16
  dayStart : Vector (Fin 8) 7
  rates : Vector (Vector Nat 8) 8
  permits : Vector (Vector Permit 8) 8
  classes : Vector ClassRecord 8
deriving DecidableEq, Repr

/-! ## Meter bank (chapter 6) -/

/-- R108: a segment; period 15 is MIXED. -/
structure Segment where
  period : Nat
  seconds : Nat
  units : Nat
deriving DecidableEq, Repr

/-- R108: the record of a running meter. -/
structure Meter where
  line : Fin 32
  account : Fin 256
  cls : Fin 8
  row : Fin 64
  factor : Nat
  maximum : Nat
  accumulator : Nat
  charge : Nat
  debited : Nat
  excess : Nat
  elapsed : Nat
  segments : List Segment
  exhausted : Bool
  grace : Timer
  expel : Timer
  expelNoticed : Bool
  timeWarned : Bool
  clockChanged : Bool
deriving DecidableEq, Repr

/-- Section 6.8: the nine close reasons. -/
inductive CloseReason
  | carrierLost | hostLogoff | idle | timeLimit | budget | expelled | operator | hostLost | restart
deriving DecidableEq, Repr

/-! ## Channel allocator (chapter 7) -/

/-- R125: a waiter. -/
structure Waiter where
  line : Fin 32
  priority : Bool
  entered : Nat
  wait : Nat
  notice : Timer
deriving DecidableEq, Repr

/-- R130: the state of a channel. -/
inductive ChannelState
  | free | offered | connected | closing | quarantined
deriving DecidableEq, Repr

/-- R138, R178: a flow state. -/
inductive Flow
  | go | stop
deriving DecidableEq, Repr

/-- R130: a channel record. -/
structure Channel where
  state : ChannelState
  line : Option (Fin 32)
  row : Option (Fin 64)
  priorityOnly : Bool
  hostFlow : Flow
  timer : Timer
  lastReject : Byte
  lastClose : Nat
deriving DecidableEq, Repr

/-! ## Ticket table (chapter 8) -/

/-- R147: a RESERVED row. -/
structure Reservation where
  channel : Fin 24
  line : Fin 32
  user : List Byte
  account : Fin 256
  cls : Fin 8
  start : Option Stamp
deriving DecidableEq, Repr

/-- R122, R147: the flags of a ticket. -/
structure TicketFlags where
  clockChanged : Bool
  timeWarned : Bool
  expelNoticed : Bool
  exhausted : Bool
  idleWarned : Bool
deriving DecidableEq, Repr

/-- R147: a CLOSED row. -/
structure Ticket where
  line : Fin 32
  user : List Byte
  account : Fin 256
  cls : Fin 8
  start : Option Stamp
  serial : Nat
  stop : Stamp
  elapsed : Nat
  charge : Nat
  debited : Nat
  excess : Nat
  reason : CloseReason
  flags : TicketFlags
  segments : List Segment
deriving DecidableEq, Repr

/-- R147: a ticket row. -/
inductive Row
  | free
  | reserved (r : Reservation)
  | closed (t : Ticket)
deriving DecidableEq, Repr

/-- R147: the ticket table. -/
structure Tickets where
  rows : Vector Row 64
  closeList : List (Fin 64)
  serial : Nat
deriving DecidableEq, Repr

/-! ## Load monitor (chapter 9) -/

/-- R159: the mode of a watch. -/
inductive WatchMode
  | comparator | latched | criticalOnly
deriving DecidableEq, Repr

/-- R159: a watch record. -/
structure Watch where
  enabled : Bool
  mode : WatchMode
  upper : Nat
  lower : Nat
  critical : Nat
  hysteresis : Nat
  value : Nat
  high : Bool
  low : Bool
  crit : Bool
  event : Bool
deriving DecidableEq, Repr

/-! ## Trunk framer (chapter 10) -/

/-- R174, R175: what an uplink control says. -/
inductive ControlKind
  | opened (line : Fin 32) (user : List Byte) (account : Fin 256) (cls : Fin 8)
  | close (reason : CloseReason)
  | closed
  | flow (f : Flow)
  | lineBreak
deriving DecidableEq, Repr

/-- R175: a pending uplink control. -/
structure Control where
  channel : Fin 24
  kind : ControlKind
deriving DecidableEq, Repr

/-- R181: the four trunk counters. -/
structure TrunkCounters where
  crc : Nat
  kind : Nat
  protocol : Nat
  discarded : Nat
deriving DecidableEq, Repr

/-- The trunk framer (R171 to R182); `sent` is the upward block last sent on UPDATA, empty when none has been (log 25). -/
structure Trunk where
  up : Bool
  lossTimer : Timer
  counter : Nat
  nd : Nat
  controls : List Control
  pointer : Fin 24
  announced : Vector Flow 24
  counters : TrunkCounters
  sent : List Byte
deriving DecidableEq, Repr

/-! ## Management unit (chapter 11) -/

/-- R190: the service state. -/
inductive Service
  | closed | opened | draining
deriving DecidableEq, Repr

/-- Section 11.1: the results of a command. -/
inductive Result
  | done | empty | busy | isProtected | noKey | badValue | badState | duplicate | notFound | unknown
deriving DecidableEq, Repr

/-- Section 11.1: a reply. -/
structure Reply where
  tag : Byte
  code : Byte
  result : Result
  data : List Byte
deriving DecidableEq, Repr

/-- R184: a partial command. -/
structure PartialCommand where
  tag : Byte
  code : Byte
  length : Nat
  bytes : List Byte
deriving DecidableEq, Repr

/-- R188: the sticky flags. -/
structure Sticky where
  overflow : Bool
  warning : Bool
  restarted : Bool
  stageExpired : Bool
deriving DecidableEq, Repr

/-- R189: the service parameter table. -/
structure Params where
  lockout : Nat
  queueWait : Nat
  queueNotice : Nat
  offer : Nat
  close : Nat
  expelGrace : Nat
  holidayWeekday : Nat
  nd : Nat
  selector1 : Fin 8
  selector2 : Fin 8
  shedSource : Option (Fin 4)
  alertHigh : Bool
deriving DecidableEq, Repr

/-- The management unit; `writing` is the tag and code of the command whose write is in progress, for which a reply place is reserved (R185). -/
structure Management where
  service : Service
  replies : List Reply
  held : Option PartialCommand
  writing : Option (Byte × Byte)
  sticky : Sticky
deriving DecidableEq, Repr

/-! ## The whole part -/

/-- The state of the part, with the queue of commands that wait to be taken. -/
@[ext]
structure State where
  /-- The commands waiting, first in, first out. -/
  pending : List Instr
  /-- RESET_N is asserted, or power-on is not complete. -/
  inReset : Bool
  /-- The model's time, in tenths of a second (log 2). -/
  now : Nat
  /-- KEYSW_N is asserted, as last read (R60, log 5). -/
  key : Bool
  groups : Vector Group 4
  messages : Vector (List Byte) 24
  lines : Vector Line 32
  dir : Directory
  accounts : Vector Account 256
  cal : Calendar
  meters : Vector (Option Meter) 24
  queue : List Waiter
  channels : Vector Channel 24
  tickets : Tickets
  watches : Vector Watch 4
  sample : Timer
  trunk : Trunk
  mgt : Management
  params : Params
deriving DecidableEq, Repr

/-- Why a step could stop with a fault. The manual names no condition that stops the part (INVENTORY.md, Faults), so no meaning raises one. -/
inductive Fault
  /-- Raised by nobody; it stands here because the host's interface asks for a fault type. Safe: it stops nothing. -/
  | unused
deriving DecidableEq, Repr

/-- Why a step could be refused. -/
inductive Refusal
  /-- Raised by an arm of `exec` whose command has no meaning yet; there is none. Safe: it stops the run. -/
  | notModelled (mnemonic : String)
deriving DecidableEq, Repr

/-! ## Values after power-on and reset -/

/-- R4: the power-on descriptor of a group. -/
def Group.powerOn (enabled : Bool) : Group where
  enabled := enabled
  firstLine := 0
  size := 32
  ringCount := 2
  answerTimeout := 30
  carrierLoss := 5
  signOnLimit := 90
  attempts := 3
  idleWarn := 0
  idleClear := 5
  activity := 1
  factor := 16
  answerMask := 0xFF

/-- R4: G0 is on and G1..G3 are off. -/
def groupsPowerOn : Vector Group 4 :=
  #v[Group.powerOn true, Group.powerOn false, Group.powerOn false, Group.powerOn false]

/-- R12, R24: every timer of a line stopped. -/
def LineTimers.stopped : LineTimers := ⟨none, none, none, none, none, none, none⟩

/-- R22: every counter of a line 0. -/
def LineCounters.zero : LineCounters := ⟨0, 0, 0, 0⟩

/-- R26: an idle dialogue record with lookup none. -/
def Dialogue.idle : Dialogue := ⟨.none, [], [], .none, [], false⟩

/-- R6, R24: a line at its power-on values, with its input levels. -/
def Line.powerOn (ri dcd : Bool) : Line where
  state := .idle
  group := none
  rings := 0
  attempts := 0
  admission := none
  channel := none
  outOfService := false
  idleWarned := false
  notices := []
  counters := .zero
  timers := .stopped
  rx := []
  tx := []
  sending := none
  lastSent := none
  ri := ri
  dcd := dcd
  dialogue := .idle

/-- R52: the stage buffer after power-on. -/
def Stage.powerOn : Stage := ⟨.empty, none, [], .none, none, false⟩

/-- R69: an account record at its power-on values. -/
def Account.powerOn : Account := ⟨.closed, 0, 0, 0, 0, 0, false⟩

/-- R106: a class record at its power-on values. -/
def ClassRecord.powerOn : ClassRecord := ⟨0, 60, 60, false, false⟩

/-- R89, R96, R98, R99, R103, R104, R106: the calendar and tariff unit after power-on. -/
def Calendar.powerOn : Calendar where
  clock := ⟨0, 0, 0, 0, 0, 0, 0⟩
  valid := false
  holiday := false
  weekday := 0
  period := 0
  minute := 0
  boundary := none
  holidays := Vector.replicate 16 none
  schedule := Vector.replicate 16 ⟨false, 0, 0, 0, 0⟩
  dayStart := Vector.replicate 7 0
  rates := Vector.replicate 8 (Vector.replicate 8 0)
  permits := Vector.replicate 8 (Vector.replicate 8 .closed)
  classes := Vector.replicate 8 .powerOn

/-- R130: a channel record at its power-on values. -/
def Channel.powerOn : Channel := ⟨.free, none, none, false, .go, none, 0, 0⟩

/-- R147: the ticket table after power-on. -/
def Tickets.powerOn : Tickets := ⟨Vector.replicate 64 .free, [], 1⟩

/-- R159: a watch at its power-on values. -/
def Watch.powerOn : Watch := ⟨false, .comparator, 255, 0, 255, 0, 0, false, false, false, false⟩

/-- R181: every trunk counter 0. -/
def TrunkCounters.zero : TrunkCounters := ⟨0, 0, 0, 0⟩

/-- R171, R173, R176, R178, R182: the trunk framer after power-on. -/
def Trunk.powerOn : Trunk :=
  ⟨false, none, 0, 15, [], 23, Vector.replicate 24 .go, .zero, []⟩

/-- R188: every sticky flag clear. -/
def Sticky.clear : Sticky := ⟨false, false, false, false⟩

/-- R195: the management unit after power-on. -/
def Management.powerOn : Management := ⟨.closed, [], none, none, .clear⟩

/-- R189: the service parameter table after power-on. -/
def Params.powerOn : Params := ⟨5, 10, 60, 10, 10, 5, 0, 15, 0, 1, none, false⟩

/-- The part right after RESET_N is released (log 1): every block at its power-on values (R24, R88, R89, R124, R146, R147, R159, R182, R195), the store empty as shipped (R48), the upward stream begun with counter 0 and ND 15 (R173) and the sample timer running toward its first expiry (R159). -/
def State.reset : State where
  pending := []
  inReset := false
  now := 0
  key := false
  groups := groupsPowerOn
  messages := Vector.replicate 24 []
  lines := Vector.replicate 32 (Line.powerOn false false)
  dir := ⟨[], [], 0, false, .powerOn⟩
  accounts := Vector.replicate 256 .powerOn
  cal := .powerOn
  meters := Vector.replicate 24 none
  queue := []
  channels := Vector.replicate 24 .powerOn
  tickets := .powerOn
  watches := Vector.replicate 4 .powerOn
  sample := some Config.second
  trunk := .powerOn
  mgt := .powerOn
  params := .powerOn

end Sys2Proof.Machine
end

