-- ==== Sys2Proof/Machine/Ops.lean ====
section
/-! DEFINITION. The shared operations over the state: timers, records, the canonical store, transmit buffers and notices, the line requests of R16, the end of an admission, the uplink control queue and the reply FIFO. -/

namespace Sys2Proof.Machine

open Sys2Proof

/-! ## Running, counting and timers -/

/-- A command while RESET_N holds the part has no effect (09 R159, 10 R173: every block is held at its power-on values). -/
def whenRunning (s : State) (f : State → State) : Host.Outcome State Fault Refusal :=
  .next (if s.inReset then s else f s)

/-- R22, R181: a counter raised by 1, staying at 65535. -/
def raise (n : Nat) : Nat := if n < Config.counterLimit then n + 1 else n

/-- A timer started now for `d` tenths of a second. -/
def State.after (s : State) (d : Nat) : Timer := some (s.now + d)

/-- An expiry: nothing for a stopped timer; for a running one its deadline has come, and the rest of the event follows (log 3). -/
def whenDue (t : Timer) (s : State) (f : State → State) : State :=
  match t with
  | none => s
  | some d => f { s with now := max s.now d }

/-- R144: the whole seconds a running timer has left; 0 when stopped (log 10). -/
def State.secondsLeft (s : State) (t : Timer) : Nat :=
  match t with
  | none => 0
  | some d => (d - s.now) / Config.second

/-! ## Records -/

/-- Lines in the order of their numbers. -/
def allLines : List (Fin 32) := List.finRange 32
/-- Channels in the order of their numbers. -/
def allChannels : List (Fin 24) := List.finRange 24
/-- Ticket rows in the order of their numbers. -/
def allRows : List (Fin 64) := List.finRange 64
/-- Classes in the order of their numbers. -/
def allClasses : List (Fin 8) := List.finRange 8

def State.line (s : State) (l : Fin 32) : Line := s.lines[l]
def State.setLine (s : State) (l : Fin 32) (x : Line) : State := { s with lines := s.lines.set l x }
def State.updLine (s : State) (l : Fin 32) (f : Line → Line) : State := s.setLine l (f (s.line l))

def State.channel (s : State) (c : Fin 24) : Channel := s.channels[c]
def State.setChannel (s : State) (c : Fin 24) (x : Channel) : State := { s with channels := s.channels.set c x }
def State.updChannel (s : State) (c : Fin 24) (f : Channel → Channel) : State := s.setChannel c (f (s.channel c))

def State.meter (s : State) (c : Fin 24) : Option Meter := s.meters[c]
def State.setMeter (s : State) (c : Fin 24) (x : Option Meter) : State := { s with meters := s.meters.set c x }
def State.updMeter (s : State) (c : Fin 24) (f : Meter → Meter) : State := s.setMeter c ((s.meter c).map f)

def State.account (s : State) (a : Fin 256) : Account := s.accounts[a]
def State.setAccount (s : State) (a : Fin 256) (x : Account) : State := { s with accounts := s.accounts.set a x }
def State.updAccount (s : State) (a : Fin 256) (f : Account → Account) : State := s.setAccount a (f (s.account a))

def State.row (s : State) (r : Fin 64) : Row := s.tickets.rows[r]
def State.setRow (s : State) (r : Fin 64) (x : Row) : State :=
  { s with tickets := { s.tickets with rows := s.tickets.rows.set r x } }

def State.updMgt (s : State) (f : Management → Management) : State := { s with mgt := f s.mgt }
def State.updTrunk (s : State) (f : Trunk → Trunk) : State := { s with trunk := f s.trunk }
def State.updCal (s : State) (f : Calendar → Calendar) : State := { s with cal := f s.cal }
def State.updDir (s : State) (f : Directory → Directory) : State := { s with dir := f s.dir }
def State.updStage (s : State) (f : Stage → Stage) : State := s.updDir fun d => { d with stage := f d.stage }

/-- The line's captured group as its descriptor now stands (R5). A line with no captured group reads none of these parameters in any state a run reaches; the power-on descriptor stands there (log 19). -/
def State.groupOf (s : State) (ln : Line) : Group :=
  match ln.group with
  | some g => s.groups[g]
  | none => Group.powerOn true

/-- The text of a message slot as it now stands (R20). -/
def State.message (s : State) (m : Fin 24) : List Byte := s.messages[m]

/-! ## The canonical store (R47, R49) -/

/-- What index `k` reads as; an unlisted index reads as `d`. -/
def sparseGet {α : Type} (d : α) : List (Nat × α) → Nat → α
  | [], _ => d
  | (j, w) :: t, k => if j = k then w else sparseGet d t k

/-- The list after index `k` is written with `v`, kept in canonical form. -/
def sparsePut {α : Type} [DecidableEq α] (d : α) : List (Nat × α) → Nat → α → List (Nat × α)
  | [], k, v => if v = d then [] else [(k, v)]
  | (j, w) :: t, k, v =>
    if k < j then (if v = d then (j, w) :: t else (k, v) :: (j, w) :: t)
    else if k = j then (if v = d then t else (k, v) :: t)
    else (j, w) :: sparsePut d t k v

/-- The canonical form: indices strictly rising, no record equal to `d`. -/
def sparseWf {α : Type} [DecidableEq α] (d : α) (l : List (Nat × α)) : Bool :=
  decide (l.Pairwise fun a b => a.1 < b.1) && l.all fun e => decide (e.2 ≠ d)

/-- R47: a user code or a password of nothing but spaces. -/
def spaces (n : Nat) : List Byte := List.replicate n Config.space

/-- R47: the empty form of an entry. -/
def Entry.empty : Entry := ⟨spaces 6, spaces 8, 0, 0, false⟩

/-- R49: the shadow of an entry against which nothing is recorded. -/
def Shadow.clear : Shadow := ⟨0, false⟩

def Directory.entry (d : Directory) (k : Nat) : Entry := sparseGet Entry.empty d.store k
def Directory.setEntry (d : Directory) (k : Nat) (e : Entry) : Directory :=
  { d with store := sparsePut Entry.empty d.store k e }
def Directory.shadowOf (d : Directory) (k : Nat) : Shadow := sparseGet Shadow.clear d.shadow k
def Directory.setShadow (d : Directory) (k : Nat) (x : Shadow) : Directory :=
  { d with shadow := sparsePut Shadow.clear d.shadow k x }

/-- The canonical form of the store and of the shadow, with every index below 1024. -/
def Directory.wf (d : Directory) : Bool :=
  sparseWf Entry.empty d.store && sparseWf Shadow.clear d.shadow &&
    d.store.all (fun e => decide (e.1 < 1024)) && d.shadow.all (fun e => decide (e.1 < 1024))

/-- R47: an entry is empty exactly when its user code is all spaces. -/
def Entry.isEmpty (e : Entry) : Bool := decide (e.code = spaces 6)

/-- R50: the non-empty entry that carries the code, the lowest-numbered of them. -/
def Directory.find (d : Directory) (code : List Byte) : Option (Nat × Entry) :=
  d.store.find? fun e => !e.2.isEmpty && decide (e.2.code = code)

/-! ## The line states' own facts -/

/-- Section 1.4: DTR is high from ANSWERING to DRAINING. -/
def LineState.dtr : LineState → Bool
  | .idle | .ringing | .clearing | .blocked => false
  | .answering | .signon | .checking | .waiting | .offered | .connected | .draining => true

/-- R10: the states in which carrier loss is watched. -/
def LineState.watched : LineState → Bool
  | .signon | .checking | .waiting | .offered | .connected | .draining => true
  | .idle | .ringing | .answering | .clearing | .blocked => false

/-- R18: the states in which a notice request is taken. -/
def LineState.takesNotices : LineState → Bool
  | .signon | .checking | .waiting | .offered | .connected | .draining => true
  | .idle | .ringing | .answering | .clearing | .blocked => false

/-- R33: the states in which a dialogue stands. -/
def LineState.inDialogue : LineState → Bool
  | .signon | .checking => true
  | .idle | .ringing | .answering | .waiting | .offered | .connected | .draining | .clearing | .blocked => false

/-! ## Transmit buffer and dialogue output -/

/-- R3: one character for the transmit buffer; a full buffer discards and counts it. -/
def Line.place (ln : Line) (c : Byte) : Line :=
  if ln.tx.length < Config.txCapacity then { ln with tx := ln.tx ++ [c] }
  else { ln with counters := { ln.counters with discards := raise ln.counters.discards } }

/-- R27: characters placed one after another. -/
def Line.placeAll (ln : Line) (cs : List Byte) : Line := cs.foldl Line.place ln

/-- R27: a banner or refusal line: CR LF, text, CR LF; an empty text contributes nothing. -/
def framedText (text : List Byte) : List Byte :=
  if text = [] then [] else [Config.cr, Config.lf] ++ text ++ [Config.cr, Config.lf]

/-- R27: a prompt: CR LF, text; an empty text contributes nothing. -/
def promptText (text : List Byte) : List Byte :=
  if text = [] then [] else [Config.cr, Config.lf] ++ text

/-- R27: a banner or refusal line for message `m` placed at once. -/
def placeMessage (l : Fin 32) (m : Fin 24) (s : State) : State :=
  s.updLine l fun ln => ln.placeAll (framedText (s.message m))

/-- R28: the waiting prompt is placed and the phase advances, when the buffer is empty and no notice is being sent. -/
def tryPrompt (l : Fin 32) (s : State) : State :=
  let ln := s.line l
  if ln.tx = [] ∧ ln.sending = none then
    match ln.dialogue.phase with
    | .announce | .userPrompt =>
      s.setLine l { ln.placeAll (promptText (s.message Config.mUser)) with dialogue := { ln.dialogue with phase := .user } }
    | .passwordPrompt =>
      s.setLine l { ln.placeAll (promptText (s.message Config.mPassword)) with dialogue := { ln.dialogue with phase := .password } }
    | .none | .user | .password | .lookup => s
  else s

/-! ## Notices -/

/-- R18: the queue after a request that finds it holding `q`, and how many notices were dropped. -/
def joinNotices (q : List Notice) (n : Notice) : List Notice × Bool :=
  if q.any (fun x => decide (x.msg = n.msg)) then
    (q.map fun x => if x.msg = n.msg then { x with value := n.value } else x, false)
  else if Config.noticeCapacity ≤ q.length then (q.drop 1 ++ [n], true)
  else (q ++ [n], false)

/-- R18: a notice request at one line at time `now`. -/
def Line.request (now : Nat) (m : Fin 24) (v : Int) (ln : Line) : Line :=
  if ln.state.takesNotices then
    let r := joinNotices ln.notices ⟨m, v, now⟩
    { ln with
      notices := r.1
      counters := if r.2 then { ln.counters with drops := raise ln.counters.drops } else ln.counters }
  else ln

/-- R18: a notice request for line `l`. -/
def notify (l : Fin 32) (m : Fin 24) (v : Int) (s : State) : State :=
  s.updLine l (Line.request s.now m v)

/-- R18: a notice request, if a message is named: the M6, M11, M12, M20 or M21 of a waiter's removal or of an offer's end. No rule states its value; 0 is the model's choice (log 39). -/
def notifyIf (l : Fin 32) (m : Option (Fin 24)) (s : State) : State :=
  match m with
  | some m => notify l m 0 s
  | none => s

/-- R19: up to `fuel` decimal digits of `n`, with no leading zeros. -/
def decimalDigits : Nat → Nat → List Byte
  | 0, _ => []
  | fuel + 1, n => (if n < 10 then [] else decimalDigits fuel (n / 10)) ++ [BitVec.ofNat 8 (0x30 + n % 10)]

/-- R19: a value in decimal, '-' before a negative one; a notice's value has at most 7 digits (R18). -/
def decimalText (v : Int) : List Byte :=
  if v < 0 then 0x2D :: decimalDigits 7 v.natAbs else decimalDigits 7 v.natAbs

/-- R19: what is sent for a notice: CR LF, the text with each '#' replaced by the value, CR LF. -/
def noticeText (text : List Byte) (v : Int) : List Byte :=
  [Config.cr, Config.lf] ++ text.flatMap (fun c => if c = 0x23 then decimalText v else [c]) ++ [Config.cr, Config.lf]

/-! ## Entering DRAINING and CLEARING -/

/-- R11: a line enters DRAINING. R2: the receive FIFO is emptied when the line leaves CONNECTED. -/
def Line.enterDraining (now : Nat) (ln : Line) : Line :=
  { ln with
    state := .draining
    rx := if ln.state = .connected then [] else ln.rx
    timers := { ln.timers with signOn := none, idle := none, drain := some (now + Config.drain) } }

/-- R12: a line enters CLEARING. -/
def Line.enterClearing (now : Nat) (ln : Line) : Line :=
  { ln with
    state := .clearing
    rx := []
    tx := []
    notices := []
    sending := none
    idleWarned := false
    timers := { LineTimers.stopped with guard := some (now + Config.guard) } }

/-- A line enters DRAINING. -/
def toDraining (l : Fin 32) (s : State) : State := s.updLine l (Line.enterDraining s.now)

/-- A line enters CLEARING. -/
def toClearing (l : Fin 32) (s : State) : State := s.updLine l (Line.enterClearing s.now)

/-! ## The end of a drain, and the end of an admission -/

/-- R191: no line holds an admission and no line is in SIGNON or CHECKING. -/
def State.drained (s : State) : Bool :=
  allLines.all fun l => (s.line l).admission.isNone && !(s.line l).state.inDialogue

/-- R191: while DRAINING, the service becomes CLOSED when nothing remains to drain. It is applied where an admission ends and where a line leaves SIGNON or CHECKING. -/
def drainEnd (s : State) : State :=
  if s.mgt.service = .draining ∧ s.drained = true then s.updMgt fun m => { m with service := .closed } else s

/-- R84 to R86: an admission of account `a` held by line `l` ends: the record is removed and the open count falls by 1. -/
def endAdmission (l : Fin 32) (a : Fin 256) (s : State) : State :=
  drainEnd ((s.updLine l fun ln => { ln with admission := none }).updAccount a fun x => { x with openCount := x.openCount - 1 })

/-- The admission that line `l` holds ends, if it holds one. -/
def endLineAdmission (l : Fin 32) (s : State) : State :=
  match (s.line l).admission with
  | some a => endAdmission l a.account s
  | none => s

/-! ## Line requests (R16) -/

/-- R16 refuse: a line in SIGNON or CHECKING enters DRAINING. -/
def refuseRequest (l : Fin 32) (s : State) : State :=
  if (s.line l).state.inDialogue then drainEnd (toDraining l s) else s

/-- R16 retry: a line in CHECKING returns to SIGNON. -/
def retryRequest (l : Fin 32) (s : State) : State :=
  if (s.line l).state = .checking then s.updLine l fun ln => { ln with state := .signon } else s

/-- R16, admission: a line in CHECKING enters WAITING and its sign-on timer stops. -/
def admitRequest (l : Fin 32) (s : State) : State :=
  if (s.line l).state = .checking then
    s.updLine l fun ln => { ln with state := .waiting, timers := { ln.timers with signOn := none } }
  else s

/-- R16 grant: a line in WAITING gets its channel field and enters OFFERED. -/
def grantRequest (l : Fin 32) (c : Fin 24) (s : State) : State :=
  if (s.line l).state = .waiting then s.updLine l fun ln => { ln with state := .offered, channel := some c } else s

/-- R16 remove: a line in WAITING or OFFERED loses its channel field and enters DRAINING. -/
def removeRequest (l : Fin 32) (s : State) : State :=
  if (s.line l).state = .waiting ∨ (s.line l).state = .offered then
    toDraining l (s.updLine l fun ln => { ln with channel := none })
  else s

/-- R16 connect, R17: a line in OFFERED enters CONNECTED and its idle supervision starts. -/
def connectRequest (l : Fin 32) (s : State) : State :=
  if (s.line l).state = .offered then
    s.updLine l fun ln =>
      { ln with
        state := .connected
        idleWarned := false
        timers := { ln.timers with
          idle := if (s.groupOf ln).idleWarn = 0 then none else s.after ((s.groupOf ln).idleWarn * Config.minute) } }
  else s

/-- Section 6.8: the code of a close reason. -/
def CloseReason.code : CloseReason → Nat
  | .carrierLost => 1
  | .hostLogoff => 2
  | .idle => 3
  | .timeLimit => 4
  | .budget => 5
  | .expelled => 6
  | .operator => 7
  | .hostLost => 8
  | .restart => 9

/-- R16 session closed: a line in CONNECTED loses its channel field. M19 is queued first, except for HOST LOGOFF and CARRIER LOST, and the line enters DRAINING, except for CARRIER LOST, where the line supervisor clears it (R10). -/
def sessionClosed (l : Fin 32) (why : CloseReason) (s : State) : State :=
  if (s.line l).state = .connected then
    match why with
    | .carrierLost => s.updLine l fun ln => { ln with channel := none }
    | .hostLogoff => toDraining l (s.updLine l fun ln => { ln with channel := none })
    | .idle | .timeLimit | .budget | .expelled | .operator | .hostLost | .restart =>
      toDraining l ((notify l Config.mEnded why.code s).updLine l fun ln => { ln with channel := none })
  else s

/-! ## Ending a dialogue -/

/-- R26: the dialogue ends; a lookup in flight becomes discarded. -/
def Dialogue.ended (d : Dialogue) : Dialogue :=
  { d with
    phase := .none
    user := []
    password := []
    lookup := if d.lookup = .inFlight then .discarded else d.lookup }

/-- R26: the dialogue of line `l` ends. -/
def endDialogue (l : Fin 32) (s : State) : State :=
  s.updLine l fun ln => { ln with dialogue := ln.dialogue.ended }

/-- R33: an abandonment request other than at carrier loss: the message if one is named, the end of the dialogue, the refuse request. -/
def abandon (l : Fin 32) (m : Option (Fin 24)) (s : State) : State :=
  if (s.line l).state.inDialogue then
    refuseRequest l (endDialogue l (match m with | some m => placeMessage l m s | none => s))
  else s

/-- Section 2.6: a refusal that ends the call's dialogue. -/
def refuseCall (l : Fin 32) (m : Fin 24) (s : State) : State :=
  refuseRequest l (endDialogue l (placeMessage l m s))

/-! ## Waiting queue -/

/-- The waiter of line `l`, if it is in the queue. -/
def State.waiter (s : State) (l : Fin 32) : Option Waiter := s.queue.find? fun w => decide (w.line = l)

/-- R125: the position of line `l`: the waiters ahead of it plus 1. -/
def State.position (s : State) (l : Fin 32) : Nat := s.queue.findIdx (fun w => decide (w.line = l)) + 1

/-- The queue closes up behind line `l`. -/
def leaveQueue (l : Fin 32) (s : State) : State :=
  { s with queue := s.queue.filter fun w => !decide (w.line = l) }

/-- R128, R129: a waiter leaves without a grant: out of the queue, its message, the end of its admission, and DRAINING unless the line supervisor clears the line itself (`drains` false, carrier loss). -/
def removeWaiter (l : Fin 32) (m : Option (Fin 24)) (drains : Bool) (s : State) : State :=
  match s.waiter l with
  | none => s
  | some _ =>
    let s := endLineAdmission l (notifyIf l m (leaveQueue l s))
    if drains then removeRequest l s else s

/-! ## Uplink control queue (R175) -/

/-- R175: the slot of a control: 0 exchange, 1 flow, 2 break. -/
def ControlKind.slot : ControlKind → Nat
  | .opened _ _ _ _ | .close _ | .closed => 0
  | .flow _ => 1
  | .lineBreak => 2

/-- R175: two controls of one channel and one slot. -/
def Control.sameSlot (a b : Control) : Bool := decide (a.channel = b.channel) && decide (a.kind.slot = b.kind.slot)

/-- R175: a control replaces the pending one of its slot in its place (a break merges, which is the same), or joins at the tail. -/
def joinControls (q : List Control) (c : Control) : List Control :=
  if q.any c.sameSlot then q.map fun x => if c.sameSlot x then c else x else q ++ [c]

/-- R175: a control is handed to the framer. -/
def handControl (c : Fin 24) (k : ControlKind) (s : State) : State :=
  s.updTrunk fun t => { t with controls := joinControls t.controls ⟨c, k⟩ }

/-- R175: the pending FLOW and BREAK of a channel that leaves CONNECTED are removed. -/
def dropSessionControls (c : Fin 24) (s : State) : State :=
  s.updTrunk fun t => { t with controls := t.controls.filter fun x => decide (x.channel ≠ c) || decide (x.kind.slot = 0) }

/-- R131: a pending OPEN, CLOSE or CLOSED of channel `c`. -/
def State.exchangePending (s : State) (c : Fin 24) : Bool :=
  s.trunk.controls.any fun x => decide (x.channel = c) && decide (x.kind.slot = 0)

/-- R178: the announced flow of a channel. -/
def setAnnounced (c : Fin 24) (f : Flow) (s : State) : State :=
  s.updTrunk fun t => { t with announced := t.announced.set c f }

/-! ## Ticket rows -/

/-- R150: the reserved row of an offer that ended becomes FREE. -/
def freeRow (r : Fin 64) (c : Fin 24) (s : State) : State :=
  match s.row r with
  | .reserved x => if x.channel = c then s.setRow r .free else s
  | .free | .closed _ => s

/-! ## Sticky flags, counters, replies -/

/-- R141, R177, R178: a protocol error is counted and sets the protocol warning flag. -/
def protocolError (s : State) : State :=
  (s.updTrunk fun t => { t with counters := { t.counters with protocol := raise t.counters.protocol } }).updMgt
    fun m => { m with sticky := { m.sticky with warning := true } }

/-- R185: replies plus reservations. -/
def Management.load (m : Management) : Nat :=
  m.replies.length + (if m.held.isSome then 1 else 0) + (if m.writing.isSome then 1 else 0)

/-- R185: a reply enters the FIFO at the tail. -/
def queueReply (tag code : Byte) (r : Result) (data : List Byte) (s : State) : State :=
  s.updMgt fun m => { m with replies := m.replies ++ [⟨tag, code, r, data⟩] }

/-- R58, R61: the write in progress completes and its DONE is queued in its reserved place. -/
def finishWrite (data : List Byte) (s : State) : State :=
  match s.mgt.writing with
  | some (tag, code) => queueReply tag code .done data (s.updMgt fun m => { m with writing := none })
  | none => s

end Sys2Proof.Machine
end

