-- ==== Sys2Proof/Machine/Operands.lean ====
section
/-! DEFINITION. The encoding of every kind of field (12_formats_and_signals.md R196), of the enumerations, of segments and blocks (R197, R199), and the CRC (R198). -/

namespace Sys2Proof.Machine

open Sys2Proof

/-! ## Fields that the part receives -/

/-- R196: a single flag is 0 or 1. -/
def flagOf (b : Byte) : Option Bool := if b = 0 then some false else if b = 1 then some true else none

/-- A small number below `n`. -/
def finOf (n : Nat) (b : Byte) : Option (Fin n) := if h : b.toNat < n then some ⟨b.toNat, h⟩ else none

/-- A channel number 1..24. -/
def channelOf (b : Byte) : Option (Fin 24) :=
  if h : b.toNat - 1 < 24 then (if b = 0 then none else some ⟨b.toNat - 1, h⟩) else none

/-- An account number, which one byte always holds. -/
def accountOf (b : Byte) : Fin 256 := ⟨b.toNat, b.isLt⟩

/-- An entry index 0..1023. -/
def indexOf (h : Half) : Option (Fin 1024) := if p : h.toNat < 1024 then some ⟨h.toNat, p⟩ else none

/-- Keeps a value that passes its range check. -/
def keepIf {α : Type} (ok : Bool) (a : α) : Option α := if ok then some a else none

/-- R196: account state. -/
def accountStateOf (b : Byte) : Option AccountState :=
  if b = 0 then some .closed else if b = 1 then some .active else if b = 2 then some .suspended else none

/-- R196: permit. -/
def permitOf (b : Byte) : Option Permit :=
  if b = 0 then some .closed else if b = 1 then some .opened else if b = 2 then some .expel else none

/-- R196: watch mode. -/
def watchModeOf (b : Byte) : Option WatchMode :=
  if b = 0 then some .comparator else if b = 1 then some .latched else if b = 2 then some .criticalOnly else none

/-- R196: shed source. -/
def shedSourceOf (b : Byte) : Option (Option (Fin 4)) :=
  if b = 0 then some none else if h : b.toNat - 1 < 4 then some (some ⟨b.toNat - 1, h⟩) else none

/-- R29: A–Z or 0–9. -/
def isCodeChar (c : Byte) : Bool :=
  decide (0x41 ≤ c.toNat ∧ c.toNat ≤ 0x5A) || decide (0x30 ≤ c.toNat ∧ c.toNat ≤ 0x39)

/-- R30: a password character. -/
def isPasswordChar (c : Byte) : Bool := decide (0x21 ≤ c.toNat ∧ c.toNat ≤ 0x7E)

/-- The characters that pass `ok` fill the field of `n` from the left and spaces pad it on the right. -/
def leftJustified (ok : Byte → Bool) (n : Nat) (cs : List Byte) : Bool :=
  decide (cs.length = n) && (cs.dropWhile ok).all fun c => decide (c = Config.space)

/-- R47, R53: a well-formed user code, all spaces included. -/
def validCode (cs : List Byte) : Bool := leftJustified isCodeChar 6 cs

/-- R47, R53: a well-formed password. -/
def validPassword (cs : List Byte) : Bool := leftJustified isPasswordChar 8 cs

/-- R29, R30: a field padded on the right with spaces. -/
def padTo (n : Nat) (cs : List Byte) : List Byte := (cs ++ spaces n).take n

/-- Exactly `n` bytes: what lacks is 0 (R196, R197). -/
def zeroTo (n : Nat) (cs : List Byte) : List Byte := (cs ++ List.replicate n 0).take n

/-! ## Fields that the part sends -/

/-- A one-byte field. -/
def byteOf (n : Nat) : Byte := BitVec.ofNat 8 n

/-- R196: 2 bytes, high byte first. -/
def be16 (n : Nat) : List Byte := [byteOf (n / 256), byteOf n]

/-- R196: 3 bytes, high byte first. -/
def be24 (n : Nat) : List Byte := [byteOf (n / 65536), byteOf (n / 256), byteOf n]

/-- R196: 3 bytes, two's complement, high byte first. -/
def beInt24 (v : Int) : List Byte := be24 (BitVec.ofInt 24 v).toNat

/-- R196: a flag. -/
def flagByte (b : Bool) : Byte := if b then 1 else 0

/-- R196: an absent number is returned as 0. -/
def optByte {n : Nat} (o : Option (Fin n)) : Byte :=
  match o with
  | some x => byteOf x.val
  | none => 0

/-- R196: line state. -/
def LineState.code : LineState → Byte
  | .idle => 0 | .ringing => 1 | .answering => 2 | .signon => 3 | .checking => 4 | .waiting => 5
  | .offered => 6 | .connected => 7 | .draining => 8 | .clearing => 9 | .blocked => 10

/-- R196: channel state. -/
def ChannelState.code : ChannelState → Byte
  | .free => 0 | .offered => 1 | .connected => 2 | .closing => 3 | .quarantined => 4

/-- R196: service state. -/
def Service.code : Service → Byte
  | .closed => 0 | .opened => 1 | .draining => 2

/-- R196: account state. -/
def AccountState.code : AccountState → Byte
  | .closed => 0 | .active => 1 | .suspended => 2

/-- R196: permit. -/
def Permit.code : Permit → Byte
  | .closed => 0 | .opened => 1 | .expel => 2

/-- R196: watch mode. -/
def WatchMode.code : WatchMode → Byte
  | .comparator => 0 | .latched => 1 | .criticalOnly => 2

/-- R196: stage state. -/
def StageState.code : StageState → Byte
  | .empty => 0 | .staging => 1 | .committing => 2

/-- R196: shed source. -/
def shedSourceCode (o : Option (Fin 4)) : Byte :=
  match o with
  | none => 0
  | some w => byteOf (w.val + 1)

/-- R196: result. -/
def Result.code : Result → Byte
  | .done => 0 | .empty => 1 | .busy => 2 | .isProtected => 3 | .noKey => 4 | .badValue => 5
  | .badState => 6 | .duplicate => 7 | .notFound => 8 | .unknown => 9

/-- R196: flow, GO is 1. -/
def Flow.code : Flow → Byte
  | .stop => 0 | .go => 1

/-- R202: a stamp; year, month, day, hours, minutes, seconds. An absent stamp, which no CLOSED row of a run carries (R149), reads as zeros. -/
def stampBytes (o : Option Stamp) : List Byte :=
  match o with
  | some t => [byteOf t.year, byteOf t.month, byteOf t.day, byteOf t.hours, byteOf t.minutes, byteOf t.seconds]
  | none => List.replicate 6 0

/-- A set of flags, bit 0 first (R196). -/
def flagSet (bs : List Bool) : Nat := bs.foldr (fun b n => (if b then 1 else 0) + 2 * n) 0

/-! ## Segments, blocks and the CRC -/

/-- R199: the header byte of a control segment. -/
def controlHeader (c : Fin 24) : Byte := byteOf (0x40 + c.val + 1)

/-- R174, R199: the bytes of an upward control segment. -/
def Control.bytes (c : Control) : List Byte :=
  match c.kind with
  | .opened l user account cls =>
    [controlHeader c.channel, 0x01, byteOf l.val] ++ padTo 6 user ++ [byteOf account.val, byteOf cls.val]
  | .close why => [controlHeader c.channel, 0x04, byteOf why.code]
  | .closed => [controlHeader c.channel, 0x05]
  | .flow f => [controlHeader c.channel, 0x06, f.code]
  | .lineBreak => [controlHeader c.channel, 0x07]

/-- R199: the bytes of an upward data segment. -/
def dataSegmentBytes (c : Fin 24) (cs : List Byte) : List Byte :=
  [byteOf (c.val + 1), byteOf cs.length] ++ cs

/-- R198: one shift of the CRC register. -/
def crcShift (r : BitVec 16) : BitVec 16 := if r.msb then (r <<< 1) ^^^ 0x1021#16 else r <<< 1

/-- R198: one byte taken into the CRC register. -/
def crcByte (r : BitVec 16) (b : Byte) : BitVec 16 :=
  let r := r ^^^ ((b.setWidth 16) <<< 8)
  crcShift (crcShift (crcShift (crcShift (crcShift (crcShift (crcShift (crcShift r)))))))

/-- R198: the CRC of a list of bytes. -/
def crc (bs : List Byte) : BitVec 16 := bs.foldl crcByte 0xFFFF#16

/-- R197, R198: a whole block of 64 bytes from its kind and payload. -/
def blockBytes (kind : Byte) (pay : List Byte) : List Byte :=
  let body := kind :: zeroTo Config.payload pay
  body ++ be16 (crc body).toNat

/-- R169, R198: the block is good: the CRC over bytes 0..61 equals bytes 62 and 63. -/
def crcGood (bs : List Byte) : Bool := decide ((bs.drop 62).take 2 = be16 (crc (bs.take 62)).toNat)

end Sys2Proof.Machine
end

