-- ==== Sys2Proof/Machine/Flags.lean ====
section
/-! DEFINITION. Every flag computation: the watches' HIGH, LOW, CRIT and event (R161, R162), ALERT and its pin (R164), the shed state (R165), the sampled quantities (R160), the status byte and the auto-report items (R186, R187, R201). -/

namespace Sys2Proof.Machine

open Sys2Proof

/-! ## Watches -/

/-- R161: the flags of an enabled watch against the value `v`; the clearing limits are signed. -/
def Watch.flags (w : Watch) (v : Nat) : Watch :=
  { w with
    high := if w.high then !decide ((v : Int) ≤ (w.upper : Int) - w.hysteresis) else decide (v > w.upper)
    low := if w.low then !decide (v ≥ w.lower + w.hysteresis) else decide (v < w.lower)
    crit := if w.crit then !decide ((v : Int) < (w.critical : Int) - w.hysteresis) else decide (v ≥ w.critical) }

/-- R162: the event of an enabled watch after its flags. -/
def Watch.decideEvent (w : Watch) : Watch :=
  { w with
    event := match w.mode with
      | .comparator => w.high || w.low || w.crit
      | .criticalOnly => w.crit
      | .latched => w.high || w.low || w.crit || w.event }

/-- R160: one sample of value `v`. -/
def Watch.sample (w : Watch) (v : Nat) : Watch :=
  let w := { w with value := v }
  if w.enabled then (w.flags v).decideEvent else w

/-- R159: ALERT is asserted while the event of an enabled watch is asserted. -/
def State.alert (s : State) : Bool := (List.finRange 4).any fun i => s.watches[i].enabled && s.watches[i].event

/-- R164: the level of the ALERT pin, true for high. -/
def State.alertPin (s : State) : Bool := if s.params.alertHigh then s.alert else !s.alert

/-- R165: shedding is active while the shed source names an enabled watch whose CRIT is set. -/
def State.shedding (s : State) : Bool :=
  match s.params.shedSource with
  | some w => s.watches[w].enabled && s.watches[w].crit
  | none => false

/-- R160 W0: a line in a state other than IDLE, RINGING and BLOCKED. -/
def LineState.active : LineState → Bool
  | .idle | .ringing | .blocked => false
  | .answering | .signon | .checking | .waiting | .offered | .connected | .draining | .clearing => true

/-- R156: the number of FREE rows. -/
def State.freeRows (s : State) : Nat :=
  (allRows.filter fun r => match s.row r with | .free => true | .reserved _ | .closed _ => false).length

/-- R156: the number of RESERVED rows. -/
def State.reservedRows (s : State) : Nat :=
  (allRows.filter fun r => match s.row r with | .reserved _ => true | .free | .closed _ => false).length

/-- R156: the number of CLOSED rows. -/
def State.closedRows (s : State) : Nat :=
  (allRows.filter fun r => match s.row r with | .closed _ => true | .free | .reserved _ => false).length

/-- R187: the number of FREE channels. -/
def State.freeChannels (s : State) : Nat := (allChannels.filter fun c => decide ((s.channel c).state = .free)).length

/-- R160: the quantity a watch samples. W2 is RESERVED plus CLOSED rows, so a close leaves it as it was, against the remark of R168 that it usually rises at a trunk loss (DEDUCED, log 38). -/
def State.quantity (s : State) (w : Fin 4) : Nat :=
  match w with
  | 0 => (allLines.filter fun l => (s.line l).state.active).length
  | 1 => s.queue.length
  | 2 => s.reservedRows + s.closedRows
  | 3 => 24 - s.freeChannels

/-- R160: one sample of all four watches. -/
def State.sampleAll (s : State) : State :=
  { s with watches := Vector.ofFn fun w => s.watches[w].sample (s.quantity w) }

/-- R196: one watch's flags as a set: HIGH, LOW, CRIT, event. -/
def Watch.flagBits (w : Watch) : Nat := flagSet [w.high, w.low, w.crit, w.event]

/-! ## Service blocks -/

/-- R186, R201: the status byte. -/
def State.statusByte (s : State) : Byte :=
  byteOf (s.mgt.service.code.toNat + 4 * flagSet
    [s.alert, s.cal.valid, s.mgt.sticky.overflow, s.mgt.sticky.warning, s.mgt.sticky.restarted, s.mgt.sticky.stageExpired])

/-- R187, R201: an auto-report item in 2 bytes. -/
def State.item (s : State) (sel : Fin 8) : List Byte :=
  match sel with
  | 0 => [s.mgt.service.code, 0]
  | 1 => [byteOf s.queue.length, 0]
  | 2 => [byteOf s.freeChannels, 0]
  | 3 => [byteOf s.closedRows, 0]
  | 4 => [byteOf s.freeRows, 0]
  | 5 => [byteOf (s.watches[0].flagBits + 16 * s.watches[1].flagBits), byteOf (s.watches[2].flagBits + 16 * s.watches[3].flagBits)]
  | 6 => [byteOf s.cal.clock.hours, byteOf s.cal.clock.minutes]
  | 7 => [s.dir.stage.state.code, byteOf s.dir.stage.staged.length]

/-- R201: the payload of a service block. -/
def State.servicePayload (s : State) : List Byte :=
  match s.mgt.replies with
  | r :: _ => [s.statusByte, 0x00, r.tag, r.code, r.result.code] ++ r.data
  | [] =>
    [s.statusByte, 0x01, byteOf s.params.selector1.val] ++ s.item s.params.selector1 ++
      [byteOf s.params.selector2.val] ++ s.item s.params.selector2

end Sys2Proof.Machine
end

