-- ==== Sys2Proof/Machine/Metering.lean ====
section
/-! DEFINITION. Connect-time metering (chapter 6) with the debit rule (R76 to R79), the closing arithmetic (R121), the ticket it closes (R151, R152) and the channel's side of a close (R138, R139); the meter's own timer expiries. -/

namespace Sys2Proof.Machine

open Sys2Proof

/-! ## Debits (R76 to R79) -/

/-- R69: the floor is −O. -/
def Account.floor (a : Account) : Int := -(a.overdraft : Int)

/-- R69: the available amount B + O. -/
def Account.available (a : Account) : Nat := (a.balance + a.overdraft).toNat

/-- R76: the account after a debit of `n`, the units debited and the units in excess. -/
def Account.debit (a : Account) (n : Nat) : Account × Nat × Nat :=
  if n ≤ a.available then ({ a with balance := a.balance - n }, n, 0)
  else ({ a with balance := a.floor }, a.available, n - a.available)

/-- R79: M16 with value `v` to the line of every running meter that charges account `a`. -/
def warnLines (a : Fin 256) (v : Int) (s : State) : State :=
  allChannels.foldl (fun s c =>
    match s.meter c with
    | some m => if m.account = a then notify m.line Config.mBalance v s else s
    | none => s) s

/-- R79: after a debit with n > 0, the low-balance warning. -/
def checkWarning (a : Fin 256) (s : State) : State :=
  if (s.account a).balance < (s.account a).warn ∧ (s.account a).warned = false then
    warnLines a (s.account a).balance (s.updAccount a fun x => { x with warned := true })
  else s

/-- R76, R79: a debit request of `n` units; the units debited and in excess. A debit of 0 changes nothing. -/
def debitAccount (a : Fin 256) (n : Nat) (s : State) : State × Nat × Nat :=
  if n = 0 then (s, 0, 0)
  else
    let r := (s.account a).debit n
    (checkWarning a (s.setAccount a r.1), r.2.1, r.2.2)

/-- The last segment changed by `f`. -/
def onLast (f : Segment → Segment) : List Segment → List Segment
  | [] => []
  | [x] => [f x]
  | x :: y :: t => x :: onLast f (y :: t)

/-- R108, R112: `n` units charged by meter `c`: C and the last segment rise, the debit is sent, and its reply adds to D and X. The excess figure is returned. -/
def chargeUnits (c : Fin 24) (n : Nat) (s : State) : State × Nat :=
  match s.meter c with
  | none => (s, 0)
  | some m =>
    let s := s.setMeter c (some { m with
      charge := m.charge + n
      segments := onLast (fun g => { g with units := g.units + n }) m.segments })
    let r := debitAccount m.account n s
    (r.1.updMeter c fun m => { m with debited := m.debited + r.2.1, excess := m.excess + r.2.2 }, r.2.2)

/-! ## Tickets at a close (R151, R152) -/

/-- R152: the serial after `n`. -/
def nextSerial (n : Nat) : Nat := if n < 65535 then n + 1 else 1

/-- R152: the first value from `n` on that no CLOSED row carries, tried `fuel` times. -/
def skipHeld (held : List Nat) : Nat → Nat → Nat
  | 0, n => n
  | fuel + 1, n => if held.contains n then skipHeld held fuel (nextSerial n) else n

/-- The serials that CLOSED rows carry. -/
def State.heldSerials (s : State) : List Nat :=
  allRows.filterMap fun r => match s.row r with | .closed t => some t.serial | .free | .reserved _ => none

/-- R149: the calendar clock's reading. -/
def Clock.stamp (k : Clock) : Stamp := ⟨k.year, k.month, k.day, k.hours, k.minutes, k.seconds⟩

/-- R122, R151: the ticket row of meter `m` of channel `c` is filled and becomes CLOSED, with serial and place in the close list. `exhausted` is the session's condition at step 1 of its close. -/
def closeTicket (c : Fin 24) (m : Meter) (exhausted : Bool) (why : CloseReason) (s : State) : State :=
  match s.row m.row with
  | .reserved r =>
    if r.channel = c then
      let t : Ticket :=
        { line := r.line, user := r.user, account := r.account, cls := r.cls, start := r.start
          serial := s.tickets.serial, stop := s.cal.clock.stamp
          elapsed := m.elapsed, charge := m.charge, debited := m.debited, excess := m.excess
          reason := why
          flags := ⟨m.clockChanged, m.timeWarned, m.expelNoticed, exhausted, (s.line m.line).idleWarned⟩
          segments := m.segments }
      let s := s.setRow m.row (.closed t)
      { s with tickets := { s.tickets with
          serial := skipHeld s.heldSerials 64 (nextSerial s.tickets.serial)
          closeList := s.tickets.closeList ++ [m.row] } }
    else s
  | .free | .closed _ => s

/-! ## The channel's side of a close (R138, R139) -/

/-- R175, R130: what every channel that leaves CONNECTED does: its FLOW and BREAK leave the control queue, its host flow becomes GO, its row field becomes absent and its last close reason is set. -/
def leaveConnected (c : Fin 24) (why : CloseReason) (s : State) : State :=
  (dropSessionControls c s).updChannel c fun x => { x with hostFlow := .go, row := none, lastClose := why.code }

/-- R138, R139: the close handed on by the meter. -/
def channelClosed (c : Fin 24) (why : CloseReason) (s : State) : State :=
  match why with
  | .hostLogoff =>
    handControl c .closed ((leaveConnected c why s).updChannel c fun x => { x with state := .free, line := none, timer := none })
  | .hostLost =>
    (leaveConnected c why s).updChannel c fun x => { x with state := .free, line := none, timer := none }
  | .carrierLost | .idle | .timeLimit | .budget | .expelled | .operator | .restart =>
    handControl c (.close why) ((leaveConnected c why s).updChannel c fun x =>
      { x with state := .closing, timer := s.after (s.params.close * Config.second) })

/-! ## Closing a session (R120, R121) -/

/-- R121 step 1: half a unit or more in the accumulator charges one unit. -/
def roundOff (c : Fin 24) (m : Meter) (s : State) : State :=
  if 1800 ≤ m.accumulator then (chargeUnits c 1 s).1 else s

/-- R121: the closing arithmetic of the session on channel `c`, and the close handed on to the line and the channel. -/
def closeSession (c : Fin 24) (why : CloseReason) (s : State) : State :=
  match s.meter c with
  | none => s
  | some m =>
    let s := roundOff c m s
    let s := match s.meter c with
      | some m' => closeTicket c m' m.exhausted why s
      | none => s
    let s := endAdmission m.line m.account s
    let s := s.setMeter c none
    channelClosed c why (sessionClosed m.line why s)

/-- R120: a close request names a channel, the line it expects and a reason; it is dropped when the meter is FREE or serves another line. -/
def closeRequest (c : Fin 24) (l : Fin 32) (why : CloseReason) (s : State) : State :=
  match s.meter c with
  | some m => if m.line = l then closeSession c why s else s
  | none => s

/-! ## Exhaustion (R116) and charges of a running session -/

/-- R116: a session becomes exhausted; a class grace of 0 closes it at once. -/
def becomeExhausted (c : Fin 24) (m : Meter) (s : State) : State :=
  let g := s.cal.classes[m.cls].grace
  let s := notify m.line Config.mExhausted g (s.updMeter c fun m => { m with exhausted := true })
  if g = 0 then closeSession c .budget s
  else s.updMeter c fun m => { m with grace := s.after (g * Config.second) }

/-- R110, R112, R116: `n` units charged to the running session on channel `c`, with what a shortfall does. -/
def chargeSession (c : Fin 24) (n : Nat) (s : State) : State :=
  let r := chargeUnits c n s
  match r.1.meter c with
  | some m => if 0 < r.2 ∧ m.exhausted = false then becomeExhausted c m r.1 else r.1
  | none => r.1

/-! ## Segments, expel and limits -/

/-- R113: the segments after the current period becomes `q`. -/
def moveSegments (q : Nat) (gs : List Segment) : List Segment :=
  match gs.getLast? with
  | none => gs
  | some g =>
    if g.period = q then gs
    else if gs.length < 3 then gs ++ [⟨q, 0, 0⟩]
    else onLast (fun x => { x with period := Config.mixed }) gs

/-- R119: expel starts: M18 with the minutes, expel noticed, the expel timer. -/
def startExpel (c : Fin 24) (m : Meter) (s : State) : State :=
  let g := s.params.expelGrace
  (notify m.line Config.mExpel g s).updMeter c fun m =>
    { m with expelNoticed := true, expel := s.after (g * Config.minute) }

/-- R115: the time limits after an accrual. -/
def checkLimits (c : Fin 24) (s : State) : State :=
  match s.meter c with
  | none => s
  | some m =>
    let s :=
      if Config.timeWarning < m.maximum ∧ m.elapsed = m.maximum - Config.timeWarning then
        (notify m.line Config.mTime 5 s).updMeter c fun m => { m with timeWarned := true }
      else s
    if m.elapsed = m.maximum then closeSession c .timeLimit s else s

/-- R111: the effective rate from the tariff rate `r` and the factor `f`. -/
def effectiveRate (r f : Nat) : Nat := min (r * f / 16) Config.rateLimit

/-- R112: the boundary report (ended period `p`, current period `q`) at meter `c`. -/
def meterBoundary (p q : Fin 8) (c : Fin 24) (s : State) : State :=
  match s.meter c with
  | none => s
  | some m =>
    let a := m.accumulator + effectiveRate s.cal.rates[p][m.cls] m.factor
    let s := s.setMeter c (some { m with
      accumulator := a % Config.unitParts
      elapsed := m.elapsed + 1
      segments := onLast (fun g => { g with seconds := g.seconds + 1 }) m.segments })
    let s := chargeSession c (a / Config.unitParts) s
    match s.meter c with
    | none => s
    | some m => checkLimits c (s.setMeter c (some { m with segments := moveSegments q.val m.segments }))

/-- R114: the period report at meter `c`: a new segment without charging. -/
def meterPeriod (q : Fin 8) (c : Fin 24) (s : State) : State :=
  s.updMeter c fun m => { m with segments := moveSegments q.val m.segments }

/-- R118: the permit report at meter `c`. A report to EXPEL that finds the timer running does not arise; nothing is done then (log 21). -/
def meterPermit (k : Fin 8) (new : Permit) (c : Fin 24) (s : State) : State :=
  match s.meter c with
  | none => s
  | some m =>
    if m.cls = k then
      match new with
      | .expel => if m.expel = none then startExpel c m s else s
      | .opened | .closed => s.setMeter c (some { m with expel := none })
    else s

/-! ## Starting a meter (R109, R110) -/

/-- R149: the start stamp is written into the row reserved for channel `c`. -/
def stampRow (r : Fin 64) (c : Fin 24) (s : State) : State :=
  match s.row r with
  | .reserved x =>
    if x.channel = c ∧ x.start = none then s.setRow r (.reserved { x with start := some s.cal.clock.stamp }) else s
  | .free | .closed _ => s

/-- R109: the record of a meter as it starts for line `l` with admission `a` and row `r`. -/
def newMeter (s : State) (l : Fin 32) (a : Admission) (r : Fin 64) : Meter where
  line := l
  account := a.account
  cls := a.cls
  row := r
  factor := (s.groupOf (s.line l)).factor
  maximum := 60 * s.cal.classes[a.cls].maximum
  accumulator := 0
  charge := 0
  debited := 0
  excess := 0
  elapsed := 0
  segments := [⟨s.cal.period.val, 0, 0⟩]
  exhausted := false
  grace := none
  expel := none
  expelNoticed := false
  timeWarned := false
  clockChanged := false

/-- R109: the meter of channel `c` starts: stamp, setup charge, then M13 and expel unless the setup charge closed the session. -/
def startMeter (c : Fin 24) (l : Fin 32) (a : Admission) (r : Fin 64) (s : State) : State :=
  let s := stampRow r c (s.setMeter c (some (newMeter s l a r)))
  let s := chargeSession c s.cal.classes[a.cls].setup s
  match s.meter c with
  | none => s
  | some m =>
    let s := notify l Config.mConnected 0 s
    if s.cal.permits[s.cal.period][a.cls] = .expel then startExpel c m s else s

/-- R81: every exhausted running meter of account `a` is restored. -/
def restoreAccount (a : Fin 256) (s : State) : State :=
  { s with meters := Vector.ofFn fun c =>
      (s.meter c).map fun m =>
        if m.account = a ∧ m.exhausted = true then { m with exhausted := false, grace := none } else m }

/-! ## GRACE_EXPIRY and EXPEL_EXPIRY -/

/-- GRACE_EXPIRY (R116): the session closes with reason BUDGET. -/
def execGraceExpiry (c : Fin 24) (s : State) : Host.Outcome State Fault Refusal :=
  whenRunning s fun s =>
    match s.meter c with
    | some m => whenDue m.grace s (closeSession c .budget)
    | none => s

/-- EXPEL_EXPIRY (R119): the session closes with reason EXPELLED. -/
def execExpelExpiry (c : Fin 24) (s : State) : Host.Outcome State Fault Refusal :=
  whenRunning s fun s =>
    match s.meter c with
    | some m => whenDue m.expel s (closeSession c .expelled)
    | none => s

end Sys2Proof.Machine
end

