-- ==== Sys2Proof/Machine/Commands.lean ====
section
/-! DEFINITION. How the management unit takes a command block: partial commands, the full reply FIFO, the command handed to its owner, the reply (R183 to R185); and the two commands with a text, LOAD MESSAGE and BROADCAST, whose parameters can run into a second block. -/

namespace Sys2Proof.Machine

open Sys2Proof

/-- What the owner of a command answers. -/
inductive Answer
  /-- The command finished with this result and data. -/
  | reply (result : Result) (data : List Byte)
  /-- A write to the nonvolatile store began; the reply comes at its completion (R183). -/
  | writing
  /-- The command continues in the next block (R184): its stated length and the bytes received. -/
  | partly (length : Nat) (bytes : List Byte)
deriving DecidableEq, Repr

/-- R200: a command block: tag, code, stated parameter length, parameter bytes carried. -/
structure CommandBlock where
  tag : Byte
  code : Byte
  length : Nat
  bytes : List Byte
deriving DecidableEq, Repr

/-- DONE without data. -/
def done : Answer := .reply .done []
/-- BAD VALUE. -/
def badValue : Answer := .reply .badValue []
/-- BAD STATE. -/
def badState : Answer := .reply .badState []
/-- BUSY. -/
def busy : Answer := .reply .busy []
/-- PROTECTED. -/
def isProtected : Answer := .reply .isProtected []

/-! ## LOAD MESSAGE and BROADCAST (R20, R21) -/

/-- R20: the text of a slot is replaced. -/
def setMessage (m : Fin 24) (text : List Byte) (s : State) : State := { s with messages := s.messages.set m text }

/-- LOAD MESSAGE with the parameters slot, length, text (R20, R183 step 5). -/
def cmdLoadMessage (params : List Byte) (s : State) : State × Answer :=
  match params with
  | slot :: len :: text =>
    if text.length = len.toNat ∧ text.length ≤ Config.textLimit then
      match finOf 24 slot with
      | some m => (setMessage m text s, done)
      | none => (s, badValue)
    else (s, badValue)
  | [] | [_] => (s, badValue)

/-- R21: the lines to which a broadcast is queued. -/
def State.listeners (s : State) : List (Fin 32) :=
  allLines.filter fun l => decide ((s.line l).state = .connected) || decide ((s.line l).state = .waiting)

/-- R21: M23 queued to each of the lines given. -/
def broadcastTo (ls : List (Fin 32)) (s : State) : State := ls.foldl (fun s l => notify l Config.mBroadcast 0 s) s

/-- BROADCAST with the parameters length, text (R21, R183 step 5). -/
def cmdBroadcast (params : List Byte) (s : State) : State × Answer :=
  match params with
  | len :: text =>
    if text.length = len.toNat ∧ text.length ≤ Config.textLimit then
      let s := setMessage Config.mBroadcast text s
      (broadcastTo s.listeners s, .reply .done [byteOf s.listeners.length])
    else (s, badValue)
  | [] => (s, badValue)

/-! ## Taking a command block (R183, R184) -/

/-- R183 step 2, R185: the reply FIFO is full when replies and reservations number 16. -/
def State.replyFull (s : State) : Bool := decide (Config.replyCapacity ≤ s.mgt.load)

/-- R183 step 2: the block is discarded, counted and flagged. -/
def discardCommand (s : State) : State :=
  (s.updTrunk fun t => { t with counters := { t.counters with discarded := raise t.counters.discarded } }).updMgt
    fun m => { m with sticky := { m.sticky with overflow := true } }

/-- R183, R185: what the management unit does with its owner's answer. -/
def finish (tag code : Byte) (r : State × Answer) : State :=
  match r.2 with
  | .reply result data => queueReply tag code result data r.1
  | .writing => r.1.updMgt fun m => { m with writing := some (tag, code) }
  | .partly length bytes => r.1.updMgt fun m => { m with held := some ⟨tag, code, length, bytes⟩ }

/-- R183 from step 2: the block is discarded when the FIFO is full, and else its owner takes the command. -/
def takeFresh (tag code : Byte) (own : State → State × Answer) (s : State) : State :=
  if s.replyFull then discardCommand s else finish tag code (own s)

/-- R184: the partial command that this block completes: same tag, same code, the length still owed. -/
def CommandBlock.completes (b : CommandBlock) (p : PartialCommand) : Bool :=
  decide (b.tag = p.tag) && decide (b.code = p.code) && decide (b.length + Config.blockParams = p.length)

/-- R184: a completed command from step 5 of R183 onward. Only the two commands with a text can have its length. -/
def takeCompleted (code : Byte) (params : List Byte) (s : State) : State × Answer :=
  if code = 0x11 then cmdLoadMessage params s
  else if code = 0x12 then cmdBroadcast params s
  else (s, badValue)

/-- R184: a held partial command is dropped and answered BAD VALUE in its own tag and code. -/
def dropPartial (s : State) : State :=
  match s.mgt.held with
  | some p => queueReply p.tag p.code .badValue [] (s.updMgt fun m => { m with held := none })
  | none => s

/-- R183, R184: the management unit takes a command block, whose own command is taken by `own` when it comes to that. -/
def takeBlock (b : CommandBlock) (own : State → State × Answer) (s : State) : State :=
  match s.mgt.held with
  | none => takeFresh b.tag b.code own s
  | some p =>
    if b.completes p then
      finish p.tag p.code
        (takeCompleted p.code (p.bytes ++ zeroTo b.length b.bytes) (s.updMgt fun m => { m with held := none }))
    else takeFresh b.tag b.code own (dropPartial s)

/-- R183 step 4: a parameter length above 116 is refused; one of 59..116 makes a partial command; else the command goes on. -/
def lengthStep (length : Nat) (bytes : List Byte) (own : State → State × Answer) (s : State) : State × Answer :=
  if Config.longestParams < length then (s, badValue)
  else if Config.blockParams < length then (s, .partly length (zeroTo Config.blockParams bytes))
  else own s

/-- A command row taken in the running part: the block with this tag, code and parameters. -/
def command (tag code : Byte) (params : List Byte) (own : State → State × Answer) (s : State) :
    Host.Outcome State Fault Refusal :=
  whenRunning s (takeBlock ⟨tag, code, params.length, params⟩ own)

/-- LOAD MESSAGE (R20); a text of more than 56 characters runs on in a CONTINUATION (R184). -/
def execLoadMessage (tag slot length : Byte) (text : List Byte) (s : State) : Host.Outcome State Fault Refusal :=
  command tag 0x11 (slot :: length :: text)
    (lengthStep (text.length + 2) (slot :: length :: text) (cmdLoadMessage (slot :: length :: text))) s

/-- BROADCAST (R21); a text of more than 57 characters runs on in a CONTINUATION (R184). -/
def execBroadcast (tag length : Byte) (text : List Byte) (s : State) : Host.Outcome State Fault Refusal :=
  command tag 0x12 (length :: text)
    (lengthStep (text.length + 1) (length :: text) (cmdBroadcast (length :: text))) s

end Sys2Proof.Machine
end

