-- ==== Sys2Proof/Machine/Channels.lean ====
section
/-! DEFINITION. The channel allocator (chapter 7): grants, offers, the host's answers, the channel timers, the waiters' timers and the channel commands. -/

namespace Sys2Proof.Machine

open Sys2Proof

/-! ## Grants (R131, R132) -/

/-- R131: channel `c` is usable by a waiter of this priority. -/
def State.usable (s : State) (priority : Bool) (c : Fin 24) : Bool :=
  decide ((s.channel c).state = .free) && !s.exchangePending c && (!(s.channel c).priorityOnly || priority)

/-- A ticket row is FREE. -/
def Row.isFree : Row → Bool
  | .free => true
  | .reserved _ | .closed _ => false

/-- R131, R132: the waiter, the channel and the row of the next grant, when the conditions hold. -/
def State.grantable (s : State) : Option (Waiter × Fin 24 × Fin 64) :=
  match s.queue with
  | [] => none
  | w :: _ =>
    match allChannels.find? (s.usable w.priority), allRows.find? (fun r => (s.row r).isFree) with
    | some c, some r => some (w, c, r)
    | _, _ => none

/-- R148: row `r` is reserved for channel `c` and line `l` with its admission record. -/
def reserveRow (r : Fin 64) (c : Fin 24) (l : Fin 32) (a : Admission) (s : State) : State :=
  s.setRow r (.reserved ⟨c, l, a.user, a.account, a.cls, none⟩)

/-- R132: the grant of channel `c` and row `r` to the waiting line `l` with admission `a`. -/
def grantTo (l : Fin 32) (a : Admission) (c : Fin 24) (r : Fin 64) (s : State) : State :=
  let s := reserveRow r c l a (leaveQueue l s)
  let s := s.updChannel c fun x => { x with state := .offered, line := some l, row := some r }
  let s := handControl c (.opened l a.user a.account a.cls) (grantRequest l c s)
  s.updChannel c fun x => { x with timer := s.after (s.params.offer * Config.second) }

/-- GRANT (R131, R132): one grant, if the conditions hold as it is taken; else nothing. -/
def execGrant (s : State) : Host.Outcome State Fault Refusal :=
  whenRunning s fun s =>
    match s.grantable with
    | none => s
    | some (w, c, r) =>
      match (s.line w.line).admission with
      | some a => grantTo w.line a c r s
      | none => s

/-! ## The end of an offer (R135 to R137) -/

/-- What every end of an offer without acceptance does: the row FREE, the admission ended, the message, and the line moved to DRAINING, or left to the line supervisor at carrier loss (`drains` false). -/
def endOffer (c : Fin 24) (m : Option (Fin 24)) (drains : Bool) (s : State) : State :=
  let s := match (s.channel c).row with
    | some r => freeRow r c s
    | none => s
  match (s.channel c).line with
  | some l =>
    let s := notifyIf l m (endLineAdmission l s)
    if drains then removeRequest l s else s.updLine l fun ln => { ln with channel := none }
  | none => s

/-- R135, R137 at trunk loss: the channel becomes FREE with its line and row absent and its timer stopped. -/
def freeChannel (c : Fin 24) (s : State) : State :=
  s.updChannel c fun x => { x with state := .free, line := none, row := none, timer := none }

/-- R135: the host refuses the offer, with a reason byte. -/
def rejectOffer (c : Fin 24) (reason : Byte) (s : State) : State :=
  freeChannel c (endOffer c (some Config.mHostRefused) true (s.updChannel c fun x => { x with lastReject := reason }))

/-- R137: the part abandons the offer, with a CLOSE of this reason. -/
def abandonOffer (c : Fin 24) (why : CloseReason) (m : Option (Fin 24)) (drains : Bool) (s : State) : State :=
  handControl c (.close why) ((endOffer c m drains s).updChannel c fun x =>
    { x with state := .closing, row := none, timer := s.after (s.params.close * Config.second) })

/-- R136: an OPEN that has not gone up is removed from the control queue. -/
def dropOpen (c : Fin 24) (s : State) : State :=
  s.updTrunk fun t => { t with controls := t.controls.filter fun x =>
    !(decide (x.channel = c) && match x.kind with
      | .opened _ _ _ _ => true
      | .close _ | .closed | .flow _ | .lineBreak => false) }

/-- OFFER_TIMEOUT (R136): M12, the row freed, any unsent OPEN removed, the channel QUARANTINED with its line kept. -/
def execOfferTimeout (c : Fin 24) (s : State) : Host.Outcome State Fault Refusal :=
  whenRunning s fun s =>
    if (s.channel c).state = .offered then
      whenDue (s.channel c).timer s fun s =>
        dropOpen c ((endOffer c (some Config.mHostRefused) true s).updChannel c fun x =>
          { x with state := .quarantined, row := none, timer := none })
    else s

/-- CLOSE_TIMEOUT (R140): a CLOSING channel becomes QUARANTINED. -/
def execCloseTimeout (c : Fin 24) (s : State) : Host.Outcome State Fault Refusal :=
  whenRunning s fun s =>
    if (s.channel c).state = .closing then
      whenDue (s.channel c).timer s fun s =>
        s.updChannel c fun x => { x with state := .quarantined, timer := none }
    else s

/-! ## Downward controls (R134 to R141) -/

/-- R134: the offer on channel `c` becomes a session. -/
def acceptOffer (c : Fin 24) (s : State) : State :=
  match (s.channel c).line, (s.channel c).row with
  | some l, some r =>
    match (s.line l).admission with
    | some a =>
      let s := s.updChannel c fun x => { x with state := .connected, hostFlow := .go, timer := none }
      startMeter c l a r (connectRequest l (setAnnounced c .go s))
    | none => s
  | _, _ => s

/-- A downward ACCEPT taken against the channel's state (R134, R140, R141). -/
def takeAccept (c : Fin 24) (s : State) : State :=
  match (s.channel c).state with
  | .offered => acceptOffer c s
  | .closing => s
  | .free | .connected | .quarantined => protocolError s

/-- A downward REJECT (R135, R140, R141). -/
def takeReject (c : Fin 24) (reason : Byte) (s : State) : State :=
  match (s.channel c).state with
  | .offered => rejectOffer c reason s
  | .closing => s
  | .free | .connected | .quarantined => protocolError s

/-- R138: a host CLOSE on a session. -/
def hostClose (c : Fin 24) (s : State) : State :=
  match (s.channel c).line with
  | some l => closeRequest c l .hostLogoff s
  | none => s

/-- R140: a close is confirmed; the channel becomes FREE. -/
def confirmClose (c : Fin 24) (s : State) : State :=
  s.updChannel c fun x => { x with state := .free, line := none, timer := none }

/-- A downward CLOSE (R135, R138, R140, R141). -/
def takeClose (c : Fin 24) (s : State) : State :=
  match (s.channel c).state with
  | .offered => rejectOffer c 0 s
  | .connected => hostClose c s
  | .closing => confirmClose c s
  | .free | .quarantined => protocolError s

/-- A downward CLOSED (R140, R141). -/
def takeClosed (c : Fin 24) (s : State) : State :=
  match (s.channel c).state with
  | .closing => confirmClose c s
  | .free | .offered | .connected | .quarantined => protocolError s

/-- A downward FLOW (R138, R140, R141). -/
def takeFlow (c : Fin 24) (f : Flow) (s : State) : State :=
  match (s.channel c).state with
  | .connected => s.updChannel c fun x => { x with hostFlow := f }
  | .closing => s
  | .free | .offered | .quarantined => protocolError s

/-- ACCEPT (R134). -/
def execAccept (c : Fin 24) (s : State) : Host.Outcome State Fault Refusal := whenRunning s (takeAccept c)
/-- REJECT (R135). -/
def execReject (c : Fin 24) (reason : Byte) (s : State) : Host.Outcome State Fault Refusal := whenRunning s (takeReject c reason)
/-- CLOSE (R138). -/
def execClose (c : Fin 24) (s : State) : Host.Outcome State Fault Refusal := whenRunning s (takeClose c)
/-- CLOSED (R140). -/
def execClosed (c : Fin 24) (s : State) : Host.Outcome State Fault Refusal := whenRunning s (takeClosed c)
/-- FLOW (R138). -/
def execFlow (c : Fin 24) (go : Bool) (s : State) : Host.Outcome State Fault Refusal :=
  whenRunning s (takeFlow c (if go then .go else .stop))

/-! ## Waiters' timers (R127, R128) -/

/-- The waiter of line `l` changed by `f`. -/
def updWaiter (l : Fin 32) (f : Waiter → Waiter) (s : State) : State :=
  { s with queue := s.queue.map fun w => if w.line = l then f w else w }

/-- R126, R127: a notice timer started now. -/
def State.noticeTimer (s : State) : Timer :=
  if s.params.queueNotice = 0 then none else s.after (s.params.queueNotice * Config.second)

/-- NOTICE_TIMER_EXPIRY (R127): M10 with the present position, and the timer restarted unless the interval is 0. -/
def execNoticeTimerExpiry (l : Fin 32) (s : State) : Host.Outcome State Fault Refusal :=
  whenRunning s fun s =>
    match s.waiter l with
    | none => s
    | some w => whenDue w.notice s fun s =>
        updWaiter l (fun w => { w with notice := s.noticeTimer }) (notify l Config.mPosition (s.position l) s)

/-- WAIT_EXPIRY (R128): the waiter leaves with M11. -/
def execWaitExpiry (l : Fin 32) (s : State) : Host.Outcome State Fault Refusal :=
  whenRunning s fun s =>
    match s.waiter l with
    | none => s
    | some w => whenDue (some w.wait) s (removeWaiter l (some Config.mNoPort) true)

/-- R126: line `l` joins the queue by its priority, its timers start and M10 with its position is queued. -/
def joinQueue (l : Fin 32) (priority : Bool) (s : State) : State :=
  let w : Waiter := ⟨l, priority, s.now, s.now + s.params.queueWait * Config.minute, s.noticeTimer⟩
  let s :=
    if priority then
      { s with queue := s.queue.takeWhile (·.priority) ++ w :: s.queue.dropWhile (·.priority) }
    else { s with queue := s.queue ++ [w] }
  notify l Config.mPosition (s.position l) s

/-! ## Channel commands (R142 to R145) -/

/-- SET CHANNEL PRIORITY. -/
def cmdSetChannelPriority (channel flag : Byte) (s : State) : State × Answer :=
  match channelOf channel, flagOf flag with
  | some c, some f => (s.updChannel c fun x => { x with priorityOnly := f }, done)
  | _, _ => (s, badValue)

/-- CLEAR CHANNEL. -/
def cmdClearChannel (channel : Byte) (s : State) : State × Answer :=
  match channelOf channel with
  | some c =>
    if (s.channel c).state = .quarantined then
      (s.updChannel c fun x => { x with state := .free, line := none }, done)
    else (s, badState)
  | none => (s, badValue)

/-- R144: the data of READ CHANNEL. -/
def channelData (c : Fin 24) (s : State) : List Byte :=
  let x := s.channel c
  [x.state.code, optByte x.line, optByte x.row, flagByte x.priorityOnly, x.hostFlow.code,
    byteOf (s.secondsLeft x.timer), x.lastReject, byteOf x.lastClose]

/-- READ CHANNEL. -/
def cmdReadChannel (channel : Byte) (s : State) : State × Answer :=
  match channelOf channel with
  | some c => (s, .reply .done (channelData c s))
  | none => (s, badValue)

/-- R145, R196: one waiter in 3 bytes; the elapsed wait in whole seconds, 0..3600. -/
def waiterBytes (s : State) (w : Waiter) : List Byte :=
  byteOf (w.line.val + (if w.priority then 128 else 0)) :: be16 (min 3600 ((s.now - w.entered) / Config.second))

/-- READ QUEUE. -/
def cmdReadQueue (s : State) : State × Answer :=
  (s, .reply .done (byteOf s.queue.length :: s.queue.flatMap (waiterBytes s)))

/-- SET CHANNEL PRIORITY (R142). -/
def execSetChannelPriority (tag channel flag : Byte) (s : State) : Host.Outcome State Fault Refusal :=
  command tag 0x50 [channel, flag] (cmdSetChannelPriority channel flag) s
/-- CLEAR CHANNEL (R143). -/
def execClearChannel (tag channel : Byte) (s : State) : Host.Outcome State Fault Refusal :=
  command tag 0x51 [channel] (cmdClearChannel channel) s
/-- READ CHANNEL (R144). -/
def execReadChannel (tag channel : Byte) (s : State) : Host.Outcome State Fault Refusal :=
  command tag 0x52 [channel] (cmdReadChannel channel) s
/-- READ QUEUE (R145). -/
def execReadQueue (tag : Byte) (s : State) : Host.Outcome State Fault Refusal :=
  command tag 0x53 [] cmdReadQueue s

end Sys2Proof.Machine
end

