-- ==== Sys2Proof/Machine/Calendar.lean ====
section
/-! DEFINITION. The calendar and tariff unit (chapter 5): the clock, the holiday list, period evaluation, the reports it sends, the second boundary, and its commands. -/

namespace Sys2Proof.Machine

open Sys2Proof

/-! ## The clock (R89, R90) -/

/-- R90: the last day of a month; a year divisible by 4 is a leap year. -/
def lastDay (month year : Nat) : Nat :=
  if month = 2 then (if year % 4 = 0 then 29 else 28)
  else if month = 4 ∨ month = 6 ∨ month = 9 ∨ month = 11 then 30
  else 31

/-- R90: the date and the weekday at a midnight. -/
def Clock.nextDay (k : Clock) : Clock :=
  let k := { k with weekday := (k.weekday + 1) % 7 }
  if k.day < lastDay k.month k.year then { k with day := k.day + 1 }
  else if k.month < 12 then { k with day := 1, month := k.month + 1 }
  else { k with day := 1, month := 1, year := if k.year < 99 then k.year + 1 else 0 }

/-- R90: the clock one second on, and whether this is a minute rollover and a midnight. -/
def Clock.advance (k : Clock) : Clock × Bool × Bool :=
  if k.seconds < 59 then ({ k with seconds := k.seconds + 1 }, false, false)
  else if k.minutes < 59 then ({ k with seconds := 0, minutes := k.minutes + 1 }, true, false)
  else if k.hours < 23 then ({ k with seconds := 0, minutes := 0, hours := k.hours + 1 }, true, false)
  else (Clock.nextDay { k with seconds := 0, minutes := 0, hours := 0 }, true, true)

/-! ## Holidays and evaluation (R97, R100) -/

/-- R97: the holiday flag and the effective weekday for the present date. -/
def Calendar.recomputeDay (c : Calendar) (holidayWeekday : Nat) : Calendar :=
  let h := c.valid && c.holidays.toList.any fun e => decide (e = some (c.clock.month, c.clock.day))
  { c with holiday := h, weekday := if c.valid then (if h then holidayWeekday else c.clock.weekday) else 0 }

/-- R98: an entry's minute of the day. -/
def ScheduleEntry.time (e : ScheduleEntry) : Nat := e.hour * 60 + e.minute

/-- R100 step 3: an entry qualifies on weekday `w` at minute `m`. -/
def ScheduleEntry.qualifies (e : ScheduleEntry) (w m : Nat) : Bool :=
  e.enabled && e.weekdays.getLsbD w && decide (e.time ≤ m)

/-- R100 step 4: the qualifying entry with the greatest time, the lowest-numbered of equal ones. -/
def bestEntry (w m : Nat) (es : List ScheduleEntry) : Option ScheduleEntry :=
  es.foldl (fun best e =>
    if e.qualifies w m then
      match best with
      | none => some e
      | some b => if b.time < e.time then some e else best
    else best) none

/-- R99: the day-start period of weekday `w`. -/
def Calendar.dayStartOf (c : Calendar) (w : Nat) : Fin 8 := if h : w < 7 then c.dayStart[w] else 0

/-- R100: period evaluation. -/
def Calendar.evaluate (c : Calendar) : Fin 8 :=
  if c.valid then
    match bestEntry c.weekday (c.clock.hours * 60 + c.clock.minutes) c.schedule.toList with
    | some e => e.period
    | none => c.dayStartOf c.weekday
  else 0

/-- The period evaluated afresh becomes current, and the minute used is kept for READ PERIOD (R102). -/
def Calendar.settle (c : Calendar) : Calendar :=
  { c with period := c.evaluate, minute := if c.valid then c.clock.hours * 60 + c.clock.minutes else 0 }

/-! ## Reports (R101, R105) -/

/-- R105, R129: every waiter of class `k` is removed with M6. -/
def dropClass (k : Fin 8) (s : State) : State :=
  s.queue.foldl (fun s w =>
    match (s.line w.line).admission with
    | some a => if a.cls = k then removeWaiter w.line (some Config.mNotNow) true s else s
    | none => s) s

/-- R105: a permit report to the channel allocator. -/
def permitWaiters (k : Fin 8) (new : Permit) (s : State) : State :=
  match new with
  | .closed | .expel => dropClass k s
  | .opened => s

/-- R105, R118: a permit report to every meter. -/
def permitMeters (k : Fin 8) (new : Permit) (s : State) : State := allChannels.foldl (fun s c => meterPermit k new c s) s

/-- R105: a permit report for class `k` with the new permit, to the channel allocator and to every meter. -/
def permitReport (k : Fin 8) (new : Permit) (s : State) : State := permitMeters k new (permitWaiters k new s)

/-- R114: a period report to every meter. -/
def periodMeters (q : Fin 8) (s : State) : State := allChannels.foldl (fun s c => meterPeriod q c s) s

/-- R105: a permit report for each class whose permit in force differs between the rows of `old` and the current period. -/
def permitReports (old : Fin 8) (s : State) : State :=
  allClasses.foldl (fun s k =>
    if s.cal.permits[old][k] = s.cal.permits[s.cal.period][k] then s
    else permitReport k s.cal.permits[s.cal.period][k] s) s

/-- R101: an evaluation between boundaries, with its period and permit reports when the period changes. -/
def reevaluate (s : State) : State :=
  let old := s.cal.period
  let s := s.updCal Calendar.settle
  if s.cal.period = old then s
  else permitReports old (periodMeters s.cal.period s)

/-- R97: the holiday flag and effective weekday recomputed. -/
def recomputeDay (s : State) : State := s.updCal fun c => c.recomputeDay s.params.holidayWeekday

/-! ## The second boundary (R91) -/

/-- R78: the order in which the meters take the boundary: those named first, then the others in channel order (log 6). -/
def meterOrder (order : List (Fin 24)) : List (Fin 24) :=
  order.eraseDups ++ allChannels.filter fun c => !order.contains c

/-- R91 steps 2 to 4: the clock advances, at a midnight the day is recomputed, at a minute rollover the period is evaluated. -/
def advanceClock (s : State) : State :=
  let a := s.cal.clock.advance
  let s := s.updCal fun c => { c with clock := a.1 }
  let s := if a.2.2 then recomputeDay s else s
  if a.2.1 then s.updCal Calendar.settle else s

/-- R91 step 5, R112: the boundary reports (ended period `p`) to the meters, in the order given. -/
def boundaryMeters (p : Fin 8) (order : List (Fin 24)) (s : State) : State :=
  order.foldl (fun s c => meterBoundary p s.cal.period c s) s

/-- R91: one second boundary, the meters served in the order given. -/
def secondBoundary (order : List (Fin 24)) (s : State) : State :=
  let ended := s.cal.period
  let s := advanceClock s
  let s := boundaryMeters ended (meterOrder order) s
  if s.cal.period = ended then s else permitReports ended s

/-- SECOND_BOUNDARY (R90, R91); there is none while the clock is invalid. -/
def execSecondBoundary (order : List (Fin 24)) (s : State) : Host.Outcome State Fault Refusal :=
  whenRunning s fun s =>
    if s.cal.valid then
      whenDue s.cal.boundary s fun s' =>
        secondBoundary order (s'.updCal fun c => { c with boundary := s.cal.boundary.map (· + Config.second) })
    else s

/-! ## SET CLOCK and READ CLOCK (R92 to R95) -/

/-- R92: the checks of SET CLOCK. -/
def Clock.acceptable (k : Clock) : Bool :=
  decide (k.seconds ≤ 59 ∧ k.minutes ≤ 59 ∧ k.hours ≤ 23 ∧ k.weekday ≤ 6 ∧ 1 ≤ k.month ∧ k.month ≤ 12 ∧ k.year ≤ 99) &&
    decide (1 ≤ k.day ∧ k.day ≤ lastDay k.month k.year)

/-- R93 step 6: every running meter's clock-changed flag is set. -/
def flagMeters (s : State) : State :=
  { s with meters := Vector.ofFn fun c => (s.meter c).map fun m => { m with clockChanged := true } }

/-- R93: SET CLOCK with an acceptable time. -/
def setClock (k : Clock) (s : State) : State :=
  let s := s.updCal fun c => { c with clock := k, valid := true, boundary := s.after Config.second }
  reevaluate (flagMeters (recomputeDay s))

/-- SET CLOCK. -/
def cmdSetClock (k : Clock) (s : State) : State × Answer :=
  if k.acceptable then (setClock k s, done) else (s, badValue)

/-- R95: the data of READ CLOCK. -/
def clockData (s : State) : List Byte :=
  let k := s.cal.clock
  [byteOf k.seconds, byteOf k.minutes, byteOf k.hours, byteOf k.weekday, byteOf k.day, byteOf k.month, byteOf k.year,
    flagByte s.cal.valid]

/-! ## Tariff loads (R62, R96 to R106) -/

/-- R62: a tariff load is refused with PROTECTED while the tariff flag is set, before its values are examined; a value out of range is refused with BAD VALUE. -/
def tariffLoad (load : Option (State → State)) (s : State) : State × Answer :=
  if s.dir.tariffs then (s, isProtected)
  else match load with
    | some f => (f s, done)
    | none => (s, badValue)

/-- R96: the value of a LOAD HOLIDAY: month and day 0 are empty, and the day is checked as in a leap year. -/
def holidayOf (month day : Byte) : Option (Option (Nat × Nat)) :=
  if month = 0 ∧ day = 0 then some none
  else if 1 ≤ month.toNat ∧ month.toNat ≤ 12 ∧ 1 ≤ day.toNat ∧ day.toNat ≤ lastDay month.toNat 0 then
    some (some (month.toNat, day.toNat))
  else none

/-- LOAD HOLIDAY. -/
def cmdLoadHoliday (entry month day : Byte) : State → State × Answer :=
  tariffLoad do
    let e ← finOf 16 entry
    let h ← holidayOf month day
    return fun s => reevaluate (recomputeDay (s.updCal fun c => { c with holidays := c.holidays.set e h }))

/-- READ HOLIDAY; an empty entry is answered as month 0 and day 0 (DEDUCED, log 37: R96 says only 'empty', and R200 gives the form for LOAD HOLIDAY). -/
def cmdReadHoliday (entry : Byte) (s : State) : State × Answer :=
  match finOf 16 entry with
  | some e =>
    match s.cal.holidays[e] with
    | some (m, d) => (s, .reply .done [byteOf m, byteOf d])
    | none => (s, .reply .done [0, 0])
  | none => (s, badValue)

/-- R98: the entry a LOAD SCHEDULE gives, when every field is in range. -/
def scheduleOf (enabled weekdays hour minute period : Byte) : Option ScheduleEntry := do
  let e ← flagOf enabled
  let p ← finOf 8 period
  keepIf (decide (weekdays.toNat < 128) && decide (hour.toNat ≤ 23) && decide (minute.toNat ≤ 59))
    ⟨e, weekdays.setWidth 7, hour.toNat, minute.toNat, p⟩

/-- LOAD SCHEDULE. -/
def cmdLoadSchedule (entry enabled weekdays hour minute period : Byte) : State → State × Answer :=
  tariffLoad do
    let e ← finOf 16 entry
    let x ← scheduleOf enabled weekdays hour minute period
    return fun s => reevaluate (s.updCal fun c => { c with schedule := c.schedule.set e x })

/-- READ SCHEDULE. -/
def cmdReadSchedule (entry : Byte) (s : State) : State × Answer :=
  match finOf 16 entry with
  | some e =>
    let x := s.cal.schedule[e]
    (s, .reply .done [flagByte x.enabled, x.weekdays.setWidth 8, byteOf x.hour, byteOf x.minute, byteOf x.period.val])
  | none => (s, badValue)

/-- LOAD DAYSTART. -/
def cmdLoadDaystart (weekday period : Byte) : State → State × Answer :=
  tariffLoad do
    let w ← finOf 7 weekday
    let p ← finOf 8 period
    return fun s => reevaluate (s.updCal fun c => { c with dayStart := c.dayStart.set w p })

/-- READ DAYSTART. -/
def cmdReadDaystart (s : State) : State × Answer :=
  (s, .reply .done (s.cal.dayStart.toList.map fun p => byteOf p.val))

/-- LOAD RATE. -/
def cmdLoadRate (period cls : Byte) (rate : Half) : State → State × Answer :=
  tariffLoad do
    let p ← finOf 8 period
    let k ← finOf 8 cls
    return fun s => s.updCal fun c => { c with rates := c.rates.set p (c.rates[p].set k rate.toNat) }

/-- READ RATE. -/
def cmdReadRate (period : Byte) (s : State) : State × Answer :=
  match finOf 8 period with
  | some p => (s, .reply .done (s.cal.rates[p].toList.flatMap be16))
  | none => (s, badValue)

/-- R104: permit `x` written for period `p` and class `k`, with a permit report when it changes the permit in force. -/
def loadPermit (p k : Fin 8) (x : Permit) (s : State) : State :=
  let old := s.cal.permits[p][k]
  let s := s.updCal fun c => { c with permits := c.permits.set p (c.permits[p].set k x) }
  if p = s.cal.period ∧ old ≠ x then permitReport k x s else s

/-- LOAD PERMIT. -/
def cmdLoadPermit (period cls permit : Byte) : State → State × Answer :=
  tariffLoad do
    let p ← finOf 8 period
    let k ← finOf 8 cls
    let x ← permitOf permit
    return loadPermit p k x

/-- READ PERMIT. -/
def cmdReadPermit (period : Byte) (s : State) : State × Answer :=
  match finOf 8 period with
  | some p => (s, .reply .done (s.cal.permits[p].toList.map Permit.code))
  | none => (s, badValue)

/-- R106: the record a LOAD CLASS gives, when every field is in range. -/
def classOf (setup : Byte) (maximum : Half) (grace priority essential : Byte) : Option ClassRecord := do
  let p ← flagOf priority
  let e ← flagOf essential
  keepIf (decide (1 ≤ maximum.toNat ∧ maximum.toNat ≤ 1440)) ⟨setup.toNat, maximum.toNat, grace.toNat, p, e⟩

/-- LOAD CLASS. -/
def cmdLoadClass (cls setup : Byte) (maximum : Half) (grace priority essential : Byte) : State → State × Answer :=
  tariffLoad do
    let k ← finOf 8 cls
    let x ← classOf setup maximum grace priority essential
    return fun s => s.updCal fun c => { c with classes := c.classes.set k x }

/-- READ CLASS. -/
def cmdReadClass (cls : Byte) (s : State) : State × Answer :=
  match finOf 8 cls with
  | some k =>
    let x := s.cal.classes[k]
    (s, .reply .done ([byteOf x.setup] ++ be16 x.maximum ++ [byteOf x.grace, flagByte x.priority, flagByte x.essential]))
  | none => (s, badValue)

/-- R102: the data of READ PERIOD. -/
def periodData (s : State) : List Byte :=
  [byteOf s.cal.period.val, byteOf s.cal.weekday, flagByte s.cal.holiday] ++ be16 s.cal.minute

/-! ## The rows -/

/-- SET CLOCK (R92, R93). -/
def execSetClock (tag seconds minutes hours weekday day month year : Byte) (s : State) : Host.Outcome State Fault Refusal :=
  command tag 0x40 [seconds, minutes, hours, weekday, day, month, year]
    (cmdSetClock ⟨seconds.toNat, minutes.toNat, hours.toNat, weekday.toNat, day.toNat, month.toNat, year.toNat⟩) s
/-- READ CLOCK (R95). -/
def execReadClock (tag : Byte) (s : State) : Host.Outcome State Fault Refusal :=
  command tag 0x41 [] (fun s => (s, .reply .done (clockData s))) s
/-- LOAD HOLIDAY (R96). -/
def execLoadHoliday (tag entry month day : Byte) (s : State) : Host.Outcome State Fault Refusal :=
  command tag 0x43 [entry, month, day] (cmdLoadHoliday entry month day) s
/-- READ HOLIDAY (R96). -/
def execReadHoliday (tag entry : Byte) (s : State) : Host.Outcome State Fault Refusal :=
  command tag 0x44 [entry] (cmdReadHoliday entry) s
/-- LOAD SCHEDULE (R98). -/
def execLoadSchedule (tag entry enabled weekdays hour minute period : Byte) (s : State) : Host.Outcome State Fault Refusal :=
  command tag 0x45 [entry, enabled, weekdays, hour, minute, period] (cmdLoadSchedule entry enabled weekdays hour minute period) s
/-- READ SCHEDULE (R98). -/
def execReadSchedule (tag entry : Byte) (s : State) : Host.Outcome State Fault Refusal :=
  command tag 0x46 [entry] (cmdReadSchedule entry) s
/-- LOAD DAYSTART (R99). -/
def execLoadDaystart (tag weekday period : Byte) (s : State) : Host.Outcome State Fault Refusal :=
  command tag 0x47 [weekday, period] (cmdLoadDaystart weekday period) s
/-- READ DAYSTART (R99). -/
def execReadDaystart (tag : Byte) (s : State) : Host.Outcome State Fault Refusal :=
  command tag 0x48 [] cmdReadDaystart s
/-- LOAD RATE (R103). -/
def execLoadRate (tag period cls : Byte) (rate : Half) (s : State) : Host.Outcome State Fault Refusal :=
  command tag 0x49 ([period, cls] ++ be16 rate.toNat) (cmdLoadRate period cls rate) s
/-- READ RATE (R103). -/
def execReadRate (tag period : Byte) (s : State) : Host.Outcome State Fault Refusal :=
  command tag 0x4A [period] (cmdReadRate period) s
/-- LOAD PERMIT (R104). -/
def execLoadPermit (tag period cls permit : Byte) (s : State) : Host.Outcome State Fault Refusal :=
  command tag 0x4B [period, cls, permit] (cmdLoadPermit period cls permit) s
/-- READ PERMIT (R104). -/
def execReadPermit (tag period : Byte) (s : State) : Host.Outcome State Fault Refusal :=
  command tag 0x4C [period] (cmdReadPermit period) s
/-- LOAD CLASS (R106). -/
def execLoadClass (tag cls setup : Byte) (maximum : Half) (grace priority essential : Byte) (s : State) :
    Host.Outcome State Fault Refusal :=
  command tag 0x4D ([cls, setup] ++ be16 maximum.toNat ++ [grace, priority, essential])
    (cmdLoadClass cls setup maximum grace priority essential) s
/-- READ CLASS (R106). -/
def execReadClass (tag cls : Byte) (s : State) : Host.Outcome State Fault Refusal :=
  command tag 0x4E [cls] (cmdReadClass cls) s
/-- READ PERIOD (R102). -/
def execReadPeriod (tag : Byte) (s : State) : Host.Outcome State Fault Refusal :=
  command tag 0x4F [] (fun s => (s, .reply .done (periodData s))) s

end Sys2Proof.Machine
end

