-- ==== Sys2Proof/Machine/SignOn.lean ====
section
/-! DEFINITION. The sign-on unit (chapter 2): the dialogue's fields, prompts and timer, the lookup and its deferral (R51), the eight admission checks (R36) and the admission (R46). -/

namespace Sys2Proof.Machine

open Sys2Proof

/-! ## Fields (R29, R30) -/

/-- R2, R29: the eighth bit of a received character is stripped. -/
def strip (c : Byte) : Byte := c &&& 0x7F

/-- R29: a letter of a–z as its uppercase letter. -/
def fold (c : Byte) : Byte := if 0x61 ≤ c.toNat ∧ c.toNat ≤ 0x7A then c - 0x20 else c

/-- R29: one character in phase USER: the user field, the phase and the echo. -/
def userField (field : List Byte) (c : Byte) : List Byte × Phase × List Byte :=
  if c = Config.cr then (field, if field = [] then .userPrompt else .passwordPrompt, [])
  else if c = Config.bs ∨ c = Config.del then
    if field = [] then (field, .user, []) else (field.dropLast, .user, [Config.bs, Config.space, Config.bs])
  else if isCodeChar (fold c) then
    if field.length < 6 then (field ++ [fold c], .user, [fold c]) else (field, .user, [])
  else (field, .user, [])

/-- R30: one character other than CR in phase PASSWORD. -/
def passwordField (field : List Byte) (c : Byte) : List Byte :=
  if c = Config.bs ∨ c = Config.del then field.dropLast
  else if isPasswordChar c ∧ field.length < 8 then field ++ [c]
  else field

/-- R51: a page commit is in progress and the code is that of a stored entry of its page or of a staged entry. -/
def Directory.defers (d : Directory) (code : List Byte) : Bool :=
  match d.stage.write, d.stage.page with
  | .page, some p =>
    (List.range 8).any (fun k => decide ((d.entry (8 * p.val + k)).code = code)) ||
      d.stage.staged.any fun e => decide (e.code = code)
  | _, _ => false

/-- R31: CR closes the password field: the lookup begins and the line moves to CHECKING. -/
def startLookup (l : Fin 32) (s : State) : State :=
  s.updLine l fun ln =>
    let code := padTo 6 ln.dialogue.user
    { ln with
      state := .checking
      dialogue := { ln.dialogue with phase := .lookup, lookup := .inFlight, code := code, deferred := s.dir.defers code } }

/-- R29: a character taken in phase USER. -/
def takeUserChar (l : Fin 32) (c : Byte) (s : State) : State :=
  let r := userField (s.line l).dialogue.user c
  tryPrompt l (s.updLine l fun ln =>
    { ln.placeAll r.2.2 with dialogue := { ln.dialogue with user := r.1, phase := r.2.1 } })

/-- R30: a character taken in phase PASSWORD. -/
def takePasswordChar (l : Fin 32) (c : Byte) (s : State) : State :=
  if c = Config.cr then startLookup l s
  else s.updLine l fun ln => { ln with dialogue := { ln.dialogue with password := passwordField ln.dialogue.password c } }

/-- R28 to R30: a character handed to the sign-on unit; one that arrives while a prompt waits is discarded. -/
def dialogueChar (l : Fin 32) (c : Byte) (s : State) : State :=
  match (s.line l).dialogue.phase with
  | .user => takeUserChar l (strip c) s
  | .password => takePasswordChar l (strip c) s
  | .none | .announce | .userPrompt | .passwordPrompt | .lookup => s

/-- R9, R26, R27: entry to SIGNON: phase ANNOUNCE, fields empty, lookup none, the banner, and the prompt at once if nothing is to be sent first. -/
def beginDialogue (l : Fin 32) (s : State) : State :=
  tryPrompt l (placeMessage l Config.mBanner
    (s.updLine l fun ln => { ln with dialogue := { Dialogue.idle with phase := .announce } }))

/-- PROMPT (R28): the waiting prompt is placed once the buffer is empty and no notice is being sent. -/
def execPrompt (l : Fin 32) (s : State) : Host.Outcome State Fault Refusal :=
  whenRunning s fun s => if (s.line l).state = .signon then tryPrompt l s else s

/-- SIGN_ON_TIMER_EXPIRY (R32): M22, the dialogue ends, a lookup in flight is discarded, and the line enters DRAINING. -/
def execSignOnTimerExpiry (l : Fin 32) (s : State) : Host.Outcome State Fault Refusal :=
  whenRunning s fun s =>
    if (s.line l).state.inDialogue then whenDue (s.line l).timers.signOn s (refuseCall l Config.mTimeout) else s

/-! ## Failures (R38 to R40, R49) -/

/-- R49: a failure recorded against an entry. -/
def Shadow.failed (x : Shadow) (threshold : Nat) : Shadow :=
  let n := min 7 (x.failures + 1)
  ⟨n, x.locked || decide (threshold ≤ n)⟩

/-- R49 record failure. -/
def recordFailure (i : Nat) (s : State) : State :=
  s.updDir fun d => d.setShadow i ((d.shadowOf i).failed s.params.lockout)

/-- R49 reset failures. -/
def resetFailures (i : Nat) (s : State) : State :=
  s.updDir fun d => d.setShadow i { d.shadowOf i with failures := 0 }

/-- R38, R39: the attempt count and the sign-on-failures counter rise. -/
def countAttempt (l : Fin 32) (s : State) : State :=
  s.updLine l fun ln =>
    { ln with
      attempts := ln.attempts + 1
      counters := { ln.counters with failures := raise ln.counters.failures } }

/-- R40: after a refused attempt, a retry while the attempt count is below the group's attempts, else the end of the call. -/
def afterRefusedAttempt (l : Fin 32) (s : State) : State :=
  if (s.line l).attempts < (s.groupOf (s.line l)).attempts then
    tryPrompt l (retryRequest l (s.updLine l fun ln =>
      { ln with dialogue := { ln.dialogue with phase := .userPrompt, user := [], password := [] } }))
  else refuseRequest l (endDialogue l s)

/-- R38: step 2 fails, with the entry found, if one was. -/
def refusePassword (l : Fin 32) (found : Option Nat) (s : State) : State :=
  let s := countAttempt l (placeMessage l Config.mInvalid s)
  afterRefusedAttempt l (match found with | some i => recordFailure i s | none => s)

/-- R39: step 3 fails. -/
def refuseLocked (l : Fin 32) (s : State) : State :=
  afterRefusedAttempt l (countAttempt l (placeMessage l Config.mLocked s))

/-! ## The admission checks (R36 to R46) -/

/-- R41: step 4 passes. -/
def State.accountUsable (s : State) (e : Entry) : Bool :=
  e.enabled && decide ((s.account e.account).state = .active) &&
    decide ((s.account e.account).floor < (s.account e.account).balance)

/-- R36 steps 4 to 8: the message of the first check that fails, or none. -/
def State.callRefusal (s : State) (e : Entry) : Option (Fin 24) :=
  if !s.accountUsable e then some Config.mAccount
  else if s.cal.permits[s.cal.period][e.cls] ≠ .opened then some Config.mNotNow
  else if s.shedding && !s.cal.classes[e.cls].essential then some Config.mBusy
  else if (s.account e.account).limit ≤ (s.account e.account).openCount then some Config.mLimit
  else if Config.queueCapacity ≤ s.queue.length then some Config.mQueueFull
  else none

/-- R46: an admission success for entry `i`. -/
def admitCaller (l : Fin 32) (i : Nat) (e : Entry) (s : State) : State :=
  let priority := s.cal.classes[e.cls].priority
  let code := (s.line l).dialogue.code
  let s := resetFailures i s
  let s := s.updLine l fun ln => { ln with admission := some ⟨code, e.account, e.cls, priority⟩ }
  let s := s.updAccount e.account fun a => { a with openCount := a.openCount + 1 }
  joinQueue l priority (admitRequest l (endDialogue l s))

/-- R36: the admission checks for what the directory returned at the completion. -/
def decideLookup (l : Fin 32) (found : Option (Nat × Entry)) (s : State) : State :=
  if s.mgt.service ≠ .opened then refuseCall l Config.mClosing s
  else
    match found with
    | none => refusePassword l none s
    | some (i, e) =>
      if e.password ≠ padTo 8 (s.line l).dialogue.password then refusePassword l (some i) s
      else if (s.dir.shadowOf i).locked then refuseLocked l s
      else
        match s.callRefusal e with
        | some m => refuseCall l m s
        | none => admitCaller l i e s

/-- R35: the lookup field becomes none. -/
def clearLookup (l : Fin 32) (s : State) : State :=
  s.updLine l fun ln => { ln with dialogue := { ln.dialogue with lookup := .none, deferred := false } }

/-- LOOKUP_COMPLETION (R35, R36). A deferred lookup does not complete before its commit does (R51). -/
def execLookupCompletion (l : Fin 32) (s : State) : Host.Outcome State Fault Refusal :=
  whenRunning s fun s =>
    let d := (s.line l).dialogue
    if d.deferred then s
    else
      match d.lookup with
      | .none => s
      | .discarded => clearLookup l s
      | .inFlight => decideLookup l (s.dir.find d.code) (clearLookup l s)

end Sys2Proof.Machine
end

