-- ==== Sys2Proof/Machine/Lines.lean ====
section
/-! DEFINITION. The line ports and the line supervisor (chapter 1): the reports of the modem, the transmitter and the notice sender, the line timers and the line commands. -/

namespace Sys2Proof.Machine

open Sys2Proof

/-! ## Ringing and answering (R5, R7 to R9) -/

/-- R5: the descriptor covers the line. -/
def Group.covers (g : Group) (l : Fin 32) : Bool :=
  g.enabled && decide (g.firstLine ≤ l.val ∧ l.val < g.firstLine + g.size)

/-- R5: the lowest-numbered enabled descriptor whose span includes the line. -/
def State.captureGroup (s : State) (l : Fin 32) : Option (Fin 4) :=
  (List.finRange 4).find? fun g => s.groups[g].covers l

/-- R8: the answer conditions of a line at a ring burst. -/
def State.answers (s : State) (l : Fin 32) : Bool :=
  match (s.line l).group with
  | none => false
  | some g =>
    let d := s.groups[g]
    decide (d.ringCount ≠ 0 ∧ d.ringCount ≤ (s.line l).rings) && decide (s.mgt.service = .opened) && s.trunk.up &&
      d.answerMask.getLsbD s.cal.period.val

/-- R9: a line in ANSWERING enters SIGNON and is handed to the sign-on unit. -/
def enterSignon (l : Fin 32) (s : State) : State :=
  beginDialogue l (s.updLine l fun ln =>
    { ln with
      state := .signon
      attempts := 0
      timers := { ln.timers with answer := none, signOn := s.after ((s.groupOf ln).signOnLimit * Config.second) } })

/-- R8, R9: the answer decision; DCD already asserted moves the line on to SIGNON at once. -/
def answerDecision (l : Fin 32) (s : State) : State :=
  if s.answers l then
    let s := s.updLine l fun ln =>
      { ln with
        state := .answering
        timers := { ln.timers with ringGap := none, answer := s.after ((s.groupOf ln).answerTimeout * Config.second) } }
    if (s.line l).dcd then enterSignon l s else s
  else s

/-- R6, R8: one ring counted, staying at 255. -/
def countRing (n : Nat) : Nat := if n < Config.ringLimit then n + 1 else n

/-- R7, R8: a ring burst taken in IDLE or RINGING. -/
def ring (l : Fin 32) (s : State) : State :=
  match (s.line l).state with
  | .idle =>
    answerDecision l (s.updLine l fun ln =>
      { ln with
        state := .ringing, rings := 1, group := s.captureGroup l
        timers := { ln.timers with ringGap := s.after Config.ringGap } })
  | .ringing =>
    answerDecision l (s.updLine l fun ln =>
      { ln with rings := countRing ln.rings, timers := { ln.timers with ringGap := s.after Config.ringGap } })
  | .answering | .signon | .checking | .waiting | .offered | .connected | .draining | .clearing | .blocked => s

/-- The level of RI at a line's port. -/
def setRing (l : Fin 32) (level : Bool) (s : State) : State := s.updLine l fun ln => { ln with ri := level }

/-- The level of DCD at a line's port. -/
def setCarrier (l : Fin 32) (level : Bool) (s : State) : State := s.updLine l fun ln => { ln with dcd := level }

/-- RING_BURST (R1, R7, R8). -/
def execRingBurst (l : Fin 32) (s : State) : Host.Outcome State Fault Refusal :=
  whenRunning (setRing l true s) (ring l)

/-- R9, R10: a DCD-up report. -/
def carrierUp (l : Fin 32) (s : State) : State :=
  if (s.line l).state = .answering then enterSignon l s
  else if (s.line l).state.watched then s.updLine l fun ln => { ln with timers := { ln.timers with carrier := none } }
  else s

/-- R10: a DCD-down report. -/
def carrierDown (l : Fin 32) (s : State) : State :=
  if (s.line l).state.watched then
    s.updLine l fun ln => { ln with timers := { ln.timers with carrier := s.after (s.groupOf ln).carrierLoss } }
  else s

/-- DCD_UP (R9, R10). -/
def execDcdUp (l : Fin 32) (s : State) : Host.Outcome State Fault Refusal :=
  whenRunning (setCarrier l true s) (carrierUp l)

/-- DCD_DOWN (R10). -/
def execDcdDown (l : Fin 32) (s : State) : Host.Outcome State Fault Refusal :=
  whenRunning (setCarrier l false s) (carrierDown l)

/-! ## Idle supervision (R17) -/

/-- R17: an activity event of kind `k` (bit of the activity mask) on a connected line whose idle supervision runs. -/
def activity (l : Fin 32) (k : Nat) (s : State) : State :=
  let ln := s.line l
  let g := s.groupOf ln
  if ln.state = .connected ∧ ln.timers.idle.isSome = true ∧ g.activity.getLsbD k = true then
    s.setLine l { ln with
      idleWarned := false
      timers := { ln.timers with idle := if g.idleWarn = 0 then none else s.after (g.idleWarn * Config.minute) } }
  else s

/-- R17: the idle timer expires: the warning first, then the close. -/
def idleExpired (l : Fin 32) (s : State) : State :=
  let ln := s.line l
  if ln.idleWarned then
    match ln.channel with
    | some c => closeRequest c l .idle s
    | none => s
  else
    (notify l Config.mIdle (s.groupOf ln).idleClear s).updLine l fun ln =>
      { ln with
        idleWarned := true
        timers := { ln.timers with idle := s.after ((s.groupOf ln).idleClear * Config.minute) } }

/-- IDLE_TIMER_EXPIRY (R17). -/
def execIdleTimerExpiry (l : Fin 32) (s : State) : Host.Outcome State Fault Refusal :=
  whenRunning s fun s =>
    if (s.line l).state = .connected then whenDue (s.line l).timers.idle s (idleExpired l) else s

/-! ## Characters and breaks (R2, R17, R180) -/

/-- R2: a character for the receive FIFO of a connected line. -/
def Line.receive (ln : Line) (c : Byte) : Line :=
  if ln.rx.length < Config.rxCapacity then { ln with rx := ln.rx ++ [c] }
  else { ln with counters := { ln.counters with overruns := raise ln.counters.overruns } }

/-- CHARACTER_RECEIVED (R2). -/
def execCharacterReceived (l : Fin 32) (c : Byte) (s : State) : Host.Outcome State Fault Refusal :=
  whenRunning s fun s =>
    match (s.line l).state with
    | .signon => dialogueChar l c s
    | .connected => activity l 0 (s.updLine l fun ln => ln.receive c)
    | .idle | .ringing | .answering | .checking | .waiting | .offered | .draining | .clearing | .blocked => s

/-- BREAK (R180, R17): a BREAK for the channel of a connected line. -/
def execLineBreak (l : Fin 32) (s : State) : Host.Outcome State Fault Refusal :=
  whenRunning s fun s =>
    if (s.line l).state = .connected then
      match (s.line l).channel with
      | some c => activity l 2 (handControl c .lineBreak s)
      | none => s
    else s

/-- R178: after the transmitter took a character, FLOW GO when the fill has come to 32 under an announced STOP. -/
def flowGo (l : Fin 32) (s : State) : State :=
  let ln := s.line l
  match ln.channel with
  | some c =>
    if ln.state = .connected ∧ ln.tx.length = Config.flowGoFill ∧ s.trunk.announced[c] = .stop then
      handControl c (.flow .go) (setAnnounced c .go s)
    else s
  | none => s

/-- CHARACTER_SENT (R3, R17, R178): the oldest character of the transmit buffer is sent; none while a notice is being sent (R19). -/
def execCharacterSent (l : Fin 32) (s : State) : Host.Outcome State Fault Refusal :=
  whenRunning s fun s =>
    let ln := s.line l
    match ln.tx with
    | [] => s
    | c :: rest =>
      if ln.sending = none then activity l 1 (flowGo l (s.setLine l { ln with tx := rest, lastSent := some c })) else s

/-! ## The notice sender (R19) -/

/-- R19: a notice may begin in this state at this moment. -/
def Line.mayBegin (now : Nat) (ln : Line) (n : Notice) : Bool :=
  match ln.state with
  | .connected | .draining =>
    decide (ln.lastSent = some Config.cr) || decide (ln.tx = []) || decide (n.joined + Config.noticeHold ≤ now)
  | .signon | .checking | .waiting | .offered => decide (ln.tx = [])
  | .idle | .ringing | .answering | .clearing | .blocked => false

/-- NOTICE_BEGIN (R19): the head notice leaves the queue and its text is read whole; an empty message sends nothing. -/
def execNoticeBegin (l : Fin 32) (s : State) : Host.Outcome State Fault Refusal :=
  whenRunning s fun s =>
    let ln := s.line l
    match ln.notices with
    | [] => s
    | n :: rest =>
      if ln.sending = none ∧ ln.mayBegin s.now n = true then
        s.setLine l { ln with
          notices := rest
          sending := if s.message n.msg = [] then none else some ⟨n.msg, noticeText (s.message n.msg) n.value⟩ }
      else s

/-- R19: the next notice to be sent, and the queue behind it; empty messages are removed in their turn (log 13). -/
def nextNotice (text : Vector (List Byte) 24) : List Notice → Option Sending × List Notice
  | [] => (none, [])
  | n :: rest => if text[n.msg] = [] then nextNotice text rest else (some ⟨n.msg, noticeText text[n.msg] n.value⟩, rest)

/-- NOTICE_END (R19): the notice ends, and the next pending one begins at once. -/
def execNoticeEnd (l : Fin 32) (s : State) : Host.Outcome State Fault Refusal :=
  whenRunning s fun s =>
    let ln := s.line l
    if ln.sending.isSome then
      let r := nextNotice s.messages ln.notices
      s.setLine l { ln with sending := r.1, notices := r.2 }
    else s

/-! ## The ends of a call (R8 to R12) -/

/-- LINE_DRAIN_END (R11): nothing is left to send, and the line enters CLEARING. -/
def execLineDrainEnd (l : Fin 32) (s : State) : Host.Outcome State Fault Refusal :=
  whenRunning s fun s =>
    let ln := s.line l
    if ln.state = .draining ∧ ln.tx = [] ∧ ln.notices = [] ∧ ln.sending = none then toClearing l s else s

/-- R8: ringing is given up. -/
def stopRinging (st : LineState) (ln : Line) : Line :=
  { ln with state := st, rings := 0, group := none, timers := { ln.timers with ringGap := none } }

/-- RING_GAP_EXPIRY (R8): a ringing line returns to IDLE. -/
def execRingGapExpiry (l : Fin 32) (s : State) : Host.Outcome State Fault Refusal :=
  whenRunning s fun s =>
    if (s.line l).state = .ringing then
      whenDue (s.line l).timers.ringGap s fun s => s.updLine l (stopRinging .idle)
    else s

/-- ANSWER_TIMER_EXPIRY (R9): the line enters CLEARING. -/
def execAnswerTimerExpiry (l : Fin 32) (s : State) : Host.Outcome State Fault Refusal :=
  whenRunning s fun s =>
    if (s.line l).state = .answering then whenDue (s.line l).timers.answer s (toClearing l) else s

/-- R10: the cleanup by the block that holds the call, and the line into CLEARING. -/
def loseCarrier (l : Fin 32) (s : State) : State :=
  match (s.line l).state with
  | .signon | .checking => drainEnd (toClearing l (endDialogue l s))
  | .waiting => toClearing l (removeWaiter l none false s)
  | .offered =>
    match (s.line l).channel with
    | some c => toClearing l (abandonOffer c .carrierLost none false s)
    | none => toClearing l s
  | .connected =>
    match (s.line l).channel with
    | some c => toClearing l (closeRequest c l .carrierLost s)
    | none => toClearing l s
  | .draining => toClearing l s
  | .idle | .ringing | .answering | .clearing | .blocked => s

/-- CARRIER_LOSS (R10): the carrier-loss timer expires. -/
def execCarrierLoss (l : Fin 32) (s : State) : Host.Outcome State Fault Refusal :=
  whenRunning s fun s => whenDue (s.line l).timers.carrier s (loseCarrier l)

/-- DRAIN_TIMER_EXPIRY (R11): output stops and the line enters CLEARING. -/
def execDrainTimerExpiry (l : Fin 32) (s : State) : Host.Outcome State Fault Refusal :=
  whenRunning s fun s =>
    if (s.line l).state = .draining then whenDue (s.line l).timers.drain s (toClearing l) else s

/-- R12: the end of CLEARING. -/
def Line.endCall (ln : Line) : Line :=
  { ln with
    state := if ln.outOfService then .blocked else .idle
    outOfService := false
    rings := 0
    attempts := 0
    group := none
    timers := { ln.timers with guard := none } }

/-- GUARD_TIMER_EXPIRY (R12). -/
def execGuardTimerExpiry (l : Fin 32) (s : State) : Host.Outcome State Fault Refusal :=
  whenRunning s fun s =>
    if (s.line l).state = .clearing then
      whenDue (s.line l).timers.guard s fun s => s.updLine l Line.endCall
    else s

/-! ## Line commands (R4, R13 to R15, R23) -/

/-- R4: the descriptor a LOAD GROUP gives, when every field is in range. -/
def groupRecord (enabled firstLine size ringCount answerTimeout carrierLoss signOnLimit attempts idleWarn idleClear activity factor answerMask : Byte) :
    Option Group := do
  let e ← flagOf enabled
  keepIf
    (decide (firstLine.toNat ≤ 31) && [1, 2, 4, 8, 16, 32].contains size.toNat && decide (firstLine.toNat % size.toNat = 0) &&
      decide (ringCount.toNat ≤ 15) && decide (5 ≤ answerTimeout.toNat ∧ answerTimeout.toNat ≤ 60) &&
      decide (1 ≤ carrierLoss.toNat ∧ carrierLoss.toNat ≤ 20) && decide (10 ≤ signOnLimit.toNat) &&
      decide (1 ≤ attempts.toNat ∧ attempts.toNat ≤ 7) && decide (1 ≤ idleClear.toNat) &&
      decide (activity.toNat ≤ 7) && decide (factor.toNat ≤ 63))
    { enabled := e, firstLine := firstLine.toNat, size := size.toNat, ringCount := ringCount.toNat
      answerTimeout := answerTimeout.toNat, carrierLoss := carrierLoss.toNat, signOnLimit := signOnLimit.toNat
      attempts := attempts.toNat, idleWarn := idleWarn.toNat, idleClear := idleClear.toNat
      activity := activity.setWidth 3, factor := factor.toNat, answerMask := answerMask }

/-- LOAD GROUP. -/
def cmdLoadGroup (group : Byte) (g : Option Group) (s : State) : State × Answer :=
  match finOf 4 group, g with
  | some k, some g => ({ s with groups := s.groups.set k g }, done)
  | _, _ => (s, badValue)

/-- LINE OUT OF SERVICE. -/
def cmdLineOutOfService (line : Byte) (s : State) : State × Answer :=
  match finOf 32 line with
  | none => (s, badValue)
  | some l =>
    match (s.line l).state with
    | .idle | .ringing => (s.updLine l (stopRinging .blocked), done)
    | .blocked => (s, badState)
    | .answering | .signon | .checking | .waiting | .offered | .connected | .draining | .clearing =>
      (s.updLine l fun ln => { ln with outOfService := true }, done)

/-- LINE RETURN. -/
def cmdLineReturn (line : Byte) (s : State) : State × Answer :=
  match finOf 32 line with
  | none => (s, badValue)
  | some l =>
    if (s.line l).state = .blocked then (s.updLine l fun ln => { ln with state := .idle }, done)
    else if (s.line l).outOfService then (s.updLine l fun ln => { ln with outOfService := false }, done)
    else (s, badState)

/-- FORCE CLEAR. -/
def cmdForceClear (line : Byte) (s : State) : State × Answer :=
  match finOf 32 line with
  | none => (s, badValue)
  | some l =>
    match (s.line l).state with
    | .signon | .checking => (abandon l none s, done)
    | .waiting => (removeWaiter l none true s, done)
    | .offered =>
      match (s.line l).channel with
      | some c => (abandonOffer c .operator none true s, done)
      | none => (s, done)
    | .connected =>
      match (s.line l).channel with
      | some c => (closeRequest c l .operator s, done)
      | none => (s, done)
    | .idle | .ringing | .answering | .draining | .clearing | .blocked => (s, badState)

/-- R196: a captured group of none is returned as 0xFF. -/
def groupByte (g : Option (Fin 4)) : Byte :=
  match g with
  | some g => byteOf g.val
  | none => 0xFF

/-- R196: a channel number, 0 when absent. -/
def channelByte (c : Option (Fin 24)) : Byte :=
  match c with
  | some c => byteOf (c.val + 1)
  | none => 0

/-- R23: the data of READ LINE. -/
def lineData (ln : Line) : List Byte :=
  [ln.state.code, groupByte ln.group, byteOf ln.rings, byteOf ln.attempts, flagByte ln.outOfService, flagByte ln.idleWarned,
    channelByte ln.channel] ++
  (match ln.admission with
    | some a => padTo 6 a.user ++ [byteOf a.account.val]
    | none => spaces 6 ++ [0]) ++
  [byteOf ln.notices.length, byteOf (flagSet [ln.ri, ln.dcd, ln.state.dtr])] ++
  be16 ln.counters.overruns ++ be16 ln.counters.discards ++ be16 ln.counters.drops ++ be16 ln.counters.failures

/-- READ LINE; `ring` gives the levels of RI at this moment. -/
def cmdReadLine (line : Byte) (ring : Fin 32 → Bool) (s : State) : State × Answer :=
  match finOf 32 line with
  | none => (s, badValue)
  | some l =>
    let s := setRing l (ring l) s
    (s.updLine l fun ln => { ln with counters := .zero }, .reply .done (lineData (s.line l)))

/-- LOAD GROUP (R4). -/
def execLoadGroup (tag group enabled firstLine size ringCount answerTimeout carrierLoss signOnLimit attempts idleWarn idleClear activity factor answerMask : Byte)
    (s : State) : Host.Outcome State Fault Refusal :=
  command tag 0x10
    [group, enabled, firstLine, size, ringCount, answerTimeout, carrierLoss, signOnLimit, attempts, idleWarn, idleClear, activity, factor, answerMask]
    (cmdLoadGroup group
      (groupRecord enabled firstLine size ringCount answerTimeout carrierLoss signOnLimit attempts idleWarn idleClear activity factor answerMask)) s
/-- LINE OUT OF SERVICE (R13). -/
def execLineOutOfService (tag line : Byte) (s : State) : Host.Outcome State Fault Refusal :=
  command tag 0x13 [line] (cmdLineOutOfService line) s
/-- LINE RETURN (R14). -/
def execLineReturn (tag line : Byte) (s : State) : Host.Outcome State Fault Refusal :=
  command tag 0x14 [line] (cmdLineReturn line) s
/-- FORCE CLEAR (R15). -/
def execForceClear (tag line : Byte) (s : State) : Host.Outcome State Fault Refusal :=
  command tag 0x15 [line] (cmdForceClear line) s
/-- READ LINE (R23). -/
def execReadLine (tag line : Byte) (ring : Bool) (s : State) : Host.Outcome State Fault Refusal :=
  command tag 0x16 [line] (cmdReadLine line fun _ => ring) s

end Sys2Proof.Machine
end

