-- ==== Sys2Proof/Machine/Directory.lean ====
section
/-! DEFINITION. The user directory (chapter 3): the stage buffer, the page commit and its duplicate check, the protection flags and the key, the entry commands, and the two write completions. -/

namespace Sys2Proof.Machine

open Sys2Proof

/-! ## Staging (R53 to R56) -/

/-- R203: a staged entry from its parameter fields, when every field is in range (R53, first check). -/
def stagedOf (index : Half) (code : List Byte) (keep : Byte) (password : List Byte) (account cls enabled : Byte) : Option Staged := do
  let i ← indexOf index
  let k ← finOf 8 cls
  let kp ← flagOf keep
  let e ← flagOf enabled
  let p ← if kp then some none else keepIf (validPassword password) (some password)
  keepIf (validCode code) ⟨i, code, p, accountOf account, k, e⟩

/-- Chapter 3.1: the page of an entry. -/
def pageOf (i : Fin 1024) : Fin 128 := ⟨i.val / 8, by omega⟩

/-- R48: entry `i` lies in a protected block. -/
def Directory.blockProtected (d : Directory) (i : Nat) : Bool := d.protect.getLsbD (i / 128)

/-- R52, R53: an entry joins the staged entries in index order, or replaces the one of its index. -/
def insertStaged (e : Staged) : List Staged → List Staged
  | [] => [e]
  | x :: t =>
    if e.index < x.index then e :: x :: t
    else if e.index = x.index then e :: t
    else x :: insertStaged e t

/-- R55: while the buffer is STAGING, the stage timer restarts at each STAGE ENTRY and each COMMIT PAGE, whatever the reply. -/
def restartStage (s : State) : State :=
  if s.dir.stage.state = .staging then s.updStage fun g => { g with timer := s.after Config.stage } else s

/-- R53: an entry placed in the buffer. -/
def stageEntry (e : Staged) (s : State) : State :=
  s.updStage fun g =>
    { g with
      state := .staging
      page := some (pageOf e.index)
      staged := insertStaged e g.staged
      timer := s.after Config.stage }

/-- R53: the checks of STAGE ENTRY after the first, and the staging. -/
def takeStaged (e : Staged) (s : State) : State × Answer :=
  if s.dir.stage.state = .committing then (s, busy)
  else if s.dir.blockProtected e.index.val then (s, isProtected)
  else if s.dir.stage.state = .staging ∧ s.dir.stage.page ≠ some (pageOf e.index) then (s, badState)
  else (stageEntry e s, .reply .done [byteOf (stageEntry e s).dir.stage.staged.length])

/-- STAGE ENTRY. -/
def cmdStageEntry (e : Option Staged) (s : State) : State × Answer :=
  match e with
  | some e => takeStaged e (restartStage s)
  | none => (restartStage s, badValue)

/-- DISCARD STAGE (R54). -/
def cmdDiscardStage (s : State) : State × Answer :=
  match s.dir.stage.state with
  | .committing => (s, busy)
  | .staging => (s.updStage fun _ => .powerOn, done)
  | .empty => (s, done)

/-- R56, R188: the sticky stage-expired flag is set. -/
def stageExpired (s : State) : State := s.updMgt fun m => { m with sticky := { m.sticky with stageExpired := true } }

/-- STAGE_EXPIRY (R56): a STAGING buffer is emptied and flagged; an expiry during a protection write is held until the write completes. -/
def execStageExpiry (s : State) : Host.Outcome State Fault Refusal :=
  whenRunning s fun s => whenDue s.dir.stage.timer s fun s =>
    match s.dir.stage.state with
    | .staging => stageExpired (s.updStage fun _ => .powerOn)
    | .committing => s.updStage fun g => { g with timer := none, expired := true }
    | .empty => s

/-! ## COMMIT PAGE (R57) -/

/-- R57: the indices, stored outside the staged set or staged, other than that of `e`, that carry its code. -/
def Directory.rivals (d : Directory) (e : Staged) : List Nat :=
  ((d.store.filter fun x => decide (x.2.code = e.code) && !d.stage.staged.any fun y => decide (y.index.val = x.1)).map (·.1)) ++
    ((d.stage.staged.filter fun y => decide (y.code = e.code ∧ y.index ≠ e.index)).map (·.index.val))

/-- R57: the two indices of the DUPLICATE reply: the lowest staged index in conflict, and the lowest index that carries the same code. -/
def Directory.duplicate (d : Directory) : Option (Nat × Nat) :=
  d.stage.staged.findSome? fun e =>
    if e.code = spaces 6 then none else ((d.rivals e).min?).map fun r => (e.index.val, r)

/-- R51: every lookup whose code matches the committing page is deferred. -/
def deferLookups (s : State) : State :=
  { s with lines := Vector.ofFn fun l =>
      let ln := s.line l
      if ln.dialogue.lookup ≠ .none ∧ s.dir.defers ln.dialogue.code = true then
        { ln with dialogue := { ln.dialogue with deferred := true } }
      else ln }

/-- R57: the page commit begins. -/
def beginCommit (s : State) : State :=
  deferLookups (s.updStage fun g => { g with state := .committing, write := .page, timer := none })

/-- R57: the page of the buffer lies in a protected block. -/
def Directory.pageProtected (d : Directory) : Bool :=
  match d.stage.page with
  | some p => d.blockProtected (8 * p.val)
  | none => false

/-- R57: the checks of COMMIT PAGE in their order. -/
def takeCommit (s : State) : State × Answer :=
  match s.dir.stage.state with
  | .committing => (s, busy)
  | .empty => (s, badState)
  | .staging =>
    if s.dir.pageProtected then (s, isProtected)
    else
      match s.dir.duplicate with
      | some (a, b) => (s, .reply .duplicate (be16 a ++ be16 b))
      | none => (beginCommit s, .writing)

/-- COMMIT PAGE. -/
def cmdCommitPage (s : State) : State × Answer := takeCommit (restartStage s)

/-! ## WRITE_COMPLETION (R58) -/

/-- R58: what a staged entry writes, over the stored entry `old`. -/
def Staged.written (e : Staged) (old : Entry) : Entry :=
  if e.code = spaces 6 then .empty else ⟨e.code, e.password.getD old.password, e.account, e.cls, e.enabled⟩

/-- R58: one staged entry written into the store. -/
def Directory.writeStaged (d : Directory) (e : Staged) : Directory :=
  d.setEntry e.index.val (e.written (d.entry e.index.val))

/-- R58: every staged entry written and its shadow cleared. -/
def Directory.commit (d : Directory) : Directory :=
  d.stage.staged.foldl (fun d e => (d.writeStaged e).setShadow e.index.val .clear) d

/-- R58 step 4: the deferred lookups are searched again, against the store as the commit left it. -/
def resumeLookups (s : State) : State :=
  { s with lines := Vector.ofFn fun l =>
      let ln := s.line l
      { ln with dialogue := { ln.dialogue with deferred := false } } }

/-- WRITE_COMPLETION (R58). -/
def execWriteCompletion (s : State) : Host.Outcome State Fault Refusal :=
  whenRunning s fun s =>
    match s.dir.stage.write with
    | .page =>
      let n := s.dir.stage.staged.length
      let s := s.updDir fun d => { d.commit with stage := .powerOn }
      finishWrite [byteOf n] (resumeLookups s)
    | .none | .protectBlock _ | .unprotectAll => s

/-! ## Protection (R60 to R65) -/

/-- R61, R64: a protection write begins; staged entries are held and the stage timer goes on. -/
def beginProtection (w : Write) (s : State) : State :=
  s.updStage fun g => { g with state := .committing, write := w }

/-- PROTECT BLOCK (R61). -/
def cmdProtectBlock (block : Byte) (s : State) : State × Answer :=
  match finOf 8 block with
  | none => (s, badValue)
  | some b =>
    if s.dir.stage.state = .committing then (s, busy)
    else if s.dir.protect.getLsbD b.val then (s, done)
    else (beginProtection (.protectBlock b) s, .writing)

/-- R62: the tariff flag. -/
def setTariffs (f : Bool) (s : State) : State := s.updDir fun d => { d with tariffs := f }

/-- PROTECT TARIFFS (R62). -/
def cmdProtectTariffs (s : State) : State × Answer := (setTariffs true s, done)

/-- R60: the level of KEYSW_N read as the command is decoded. -/
def readKey (key : Bool) (s : State) : State := { s with key := key }

/-- R64: UNPROTECT ALL with the key read. -/
def takeUnprotect (s : State) : State × Answer :=
  if s.key = false then (s, .reply .noKey [])
  else if s.dir.stage.state = .committing then (s, busy)
  else if s.dir.protect = 0 then (setTariffs false s, done)
  else (beginProtection .unprotectAll (setTariffs false s), .writing)

/-- UNPROTECT ALL (R64). -/
def cmdUnprotectAll (key : Bool) (s : State) : State × Answer := takeUnprotect (readKey key s)

/-- R65: READ PROTECTION with the key read. -/
def protectionData (s : State) : List Byte := [s.dir.protect, flagByte s.dir.tariffs, flagByte s.key]

/-- READ PROTECTION (R65). -/
def cmdReadProtection (key : Bool) (s : State) : State × Answer :=
  if s.dir.stage.state = .committing then (readKey key s, busy)
  else (readKey key s, .reply .done (protectionData (readKey key s)))

/-- R61, R64: the block flags as a completed protection write leaves them. -/
def Directory.protectedBy (d : Directory) (w : Write) : Byte :=
  match w with
  | .protectBlock b => d.protect ||| (1#8 <<< b.val)
  | .unprotectAll => 0
  | .none | .page => d.protect

/-- R61, R56: the buffer after a protection write. -/
def Stage.afterProtection (g : Stage) : Stage :=
  if g.expired ∨ g.staged = [] then .powerOn else { g with state := .staging, write := .none }

/-- PROTECTION_WRITE_COMPLETION (R61, R64): the flags change, the buffer returns to STAGING or EMPTY, a held expiry takes effect, and DONE is handed on. -/
def execProtectionWriteCompletion (s : State) : Host.Outcome State Fault Refusal :=
  whenRunning s fun s =>
    match s.dir.stage.write with
    | .protectBlock _ | .unprotectAll =>
      let expired := s.dir.stage.expired
      let s := s.updDir fun d => { d with protect := d.protectedBy d.stage.write, stage := d.stage.afterProtection }
      finishWrite [] (if expired then stageExpired s else s)
    | .none | .page => s

/-! ## Entry commands (R66 to R68) -/

/-- R66, R203: the data of READ ENTRY. -/
def entryData (e : Entry) (x : Shadow) : List Byte :=
  padTo 6 e.code ++ spaces 8 ++
    [byteOf e.account.val, byteOf e.cls.val, flagByte e.enabled, byteOf x.failures, flagByte x.locked]

/-- READ ENTRY (R66). -/
def cmdReadEntry (index : Half) (s : State) : State × Answer :=
  match indexOf index with
  | none => (s, badValue)
  | some i =>
    if s.dir.stage.state = .committing then (s, busy)
    else (s, .reply .done (entryData (s.dir.entry i.val) (s.dir.shadowOf i.val)))

/-- FIND USER (R67). -/
def cmdFindUser (code : List Byte) (s : State) : State × Answer :=
  if !validCode code then (s, badValue)
  else if s.dir.stage.state = .committing then (s, busy)
  else
    match s.dir.find code with
    | some (i, _) => (s, .reply .done (be16 i))
    | none => (s, .reply .notFound [])

/-- UNLOCK USER (R68). -/
def cmdUnlockUser (index : Half) (s : State) : State × Answer :=
  match indexOf index with
  | none => (s, badValue)
  | some i =>
    if s.dir.stage.state = .committing then (s, busy)
    else (s.updDir fun d => d.setShadow i.val .clear, done)

/-! ## The rows -/

/-- STAGE ENTRY (R53, R203). -/
def execStageEntry (tag : Byte) (index : Half) (code : List Byte) (keep : Byte) (password : List Byte) (account cls enabled : Byte)
    (s : State) : Host.Outcome State Fault Refusal :=
  command tag 0x20 (be16 index.toNat ++ code ++ [keep] ++ password ++ [account, cls, enabled])
    (cmdStageEntry (stagedOf index code keep password account cls enabled)) s
/-- COMMIT PAGE (R57). -/
def execCommitPage (tag : Byte) (s : State) : Host.Outcome State Fault Refusal := command tag 0x21 [] cmdCommitPage s
/-- DISCARD STAGE (R54). -/
def execDiscardStage (tag : Byte) (s : State) : Host.Outcome State Fault Refusal := command tag 0x22 [] cmdDiscardStage s
/-- READ ENTRY (R66). -/
def execReadEntry (tag : Byte) (index : Half) (s : State) : Host.Outcome State Fault Refusal :=
  command tag 0x23 (be16 index.toNat) (cmdReadEntry index) s
/-- FIND USER (R67). -/
def execFindUser (tag : Byte) (code : List Byte) (s : State) : Host.Outcome State Fault Refusal :=
  command tag 0x24 code (cmdFindUser code) s
/-- UNLOCK USER (R68). -/
def execUnlockUser (tag : Byte) (index : Half) (s : State) : Host.Outcome State Fault Refusal :=
  command tag 0x25 (be16 index.toNat) (cmdUnlockUser index) s
/-- PROTECT BLOCK (R61). -/
def execProtectBlock (tag block : Byte) (s : State) : Host.Outcome State Fault Refusal :=
  command tag 0x26 [block] (cmdProtectBlock block) s
/-- PROTECT TARIFFS (R62). -/
def execProtectTariffs (tag : Byte) (s : State) : Host.Outcome State Fault Refusal := command tag 0x27 [] cmdProtectTariffs s
/-- UNPROTECT ALL (R64). -/
def execUnprotectAll (tag : Byte) (key : Bool) (s : State) : Host.Outcome State Fault Refusal :=
  command tag 0x28 [] (cmdUnprotectAll key) s
/-- READ PROTECTION (R65). -/
def execReadProtection (tag : Byte) (key : Bool) (s : State) : Host.Outcome State Fault Refusal :=
  command tag 0x29 [] (cmdReadProtection key) s

end Sys2Proof.Machine
end

