-- ==== Sys2Proof/Machine/Accounts.lean ====
section
/-! DEFINITION. The account commands (chapter 4): SET ACCOUNT, SET ACCOUNT STATE, CREDIT ACCOUNT, READ ACCOUNT. The debit rule stands in Metering.lean. -/

namespace Sys2Proof.Machine

open Sys2Proof

/-- R69: the greatest overdraft allowance. -/
def overdraftLimit : Nat := 8388608

/-- R81: when the balance stands above the floor, every exhausted session of the account is restored. -/
def restoreIfAbove (a : Fin 256) (s : State) : State :=
  if (s.account a).floor < (s.account a).balance then restoreAccount a s else s

/-- R71, R73, R80: warned is cleared when the balance is at least the threshold. -/
def Account.rearm (x : Account) : Account := if x.warn ≤ x.balance then { x with warned := false } else x

/-- R71: the five fields take their new values. -/
def Account.load (x : Account) (state : AccountState) (b : Int) (o : Nat) (w : Int) (l : Nat) : Account :=
  { x with state := state, balance := b, overdraft := o, warn := w, limit := l }

/-- SET ACCOUNT (R71). -/
def cmdSetAccount (a : Fin 256) (state : Byte) (b : Int) (o : Nat) (w : Int) (l : Nat) (s : State) : State × Answer :=
  match accountStateOf state with
  | none => (s, badValue)
  | some st =>
    if o ≤ overdraftLimit ∧ l ≤ 15 ∧ -(o : Int) ≤ b then
      (restoreIfAbove a (s.updAccount a fun x => (x.load st b o w l).rearm), done)
    else (s, badValue)

/-- SET ACCOUNT STATE (R72). -/
def cmdSetAccountState (a : Fin 256) (state : Byte) (s : State) : State × Answer :=
  match accountStateOf state with
  | none => (s, badValue)
  | some st => (s.updAccount a fun x => { x with state := st }, done)

/-- R73: the balance after a credit that is applied. -/
def credited (t : Int) : Int := if Config.balanceLimit < t then Config.balanceLimit else t

/-- CREDIT ACCOUNT (R73). -/
def cmdCreditAccount (a : Fin 256) (amount : Int) (s : State) : State × Answer :=
  let t := (s.account a).balance + amount
  if t < (s.account a).floor then (s, badValue)
  else
    (restoreIfAbove a (s.updAccount a fun x => { x with balance := credited t }.rearm),
      .reply .done (beInt24 (credited t) ++ [flagByte (decide (Config.balanceLimit < t))]))

/-- R74: the running meters that charge account `a`. -/
def State.metersOf (s : State) (a : Fin 256) : List Meter :=
  allChannels.filterMap fun c => match s.meter c with
    | some m => if m.account = a then some m else none
    | none => none

/-- R74: the data of READ ACCOUNT. -/
def accountData (a : Fin 256) (s : State) : List Byte :=
  let x := s.account a
  [x.state.code] ++ beInt24 x.balance ++ be24 x.overdraft ++ beInt24 x.warn ++
    [byteOf x.limit, byteOf x.openCount, flagByte x.warned, byteOf (s.metersOf a).length,
      byteOf ((s.metersOf a).filter (·.exhausted)).length]

/-- READ ACCOUNT (R74). -/
def cmdReadAccount (a : Fin 256) (s : State) : State × Answer := (s, .reply .done (accountData a s))

/-- R196: the 3 bytes of a field. -/
def tripleBytes (t : Triple) : List Byte := be24 t.toNat

/-- SET ACCOUNT (R71). -/
def execSetAccount (tag account state : Byte) (balance overdraft warn : Triple) (limit : Byte) (s : State) :
    Host.Outcome State Fault Refusal :=
  command tag 0x30 ([account, state] ++ tripleBytes balance ++ tripleBytes overdraft ++ tripleBytes warn ++ [limit])
    (cmdSetAccount (accountOf account) state balance.toInt overdraft.toNat warn.toInt limit.toNat) s
/-- SET ACCOUNT STATE (R72). -/
def execSetAccountState (tag account state : Byte) (s : State) : Host.Outcome State Fault Refusal :=
  command tag 0x31 [account, state] (cmdSetAccountState (accountOf account) state) s
/-- CREDIT ACCOUNT (R73). -/
def execCreditAccount (tag account : Byte) (amount : Triple) (s : State) : Host.Outcome State Fault Refusal :=
  command tag 0x32 (account :: tripleBytes amount) (cmdCreditAccount (accountOf account) amount.toInt) s
/-- READ ACCOUNT (R74). -/
def execReadAccount (tag account : Byte) (s : State) : Host.Outcome State Fault Refusal :=
  command tag 0x33 [account] (cmdReadAccount (accountOf account)) s

end Sys2Proof.Machine
end

