-- ==== Sys2Proof/Machine/Tickets.lean ====
section
/-! DEFINITION. The ticket commands (chapter 8): FETCH TICKET, RELEASE TICKET, READ TICKET COUNTS. Reservation, stamp, free and close stand with the events that ask for them (Ops.lean, Metering.lean, Channels.lean). -/

namespace Sys2Proof.Machine

open Sys2Proof

/-- R202: one segment in 7 bytes. -/
def segmentBytes (g : Segment) : List Byte := byteOf g.period :: (be24 g.seconds ++ be24 g.units)

/-- R196: the ticket flags as a set. -/
def TicketFlags.byte (f : TicketFlags) : Byte :=
  byteOf (flagSet [f.clockChanged, f.timeWarned, f.expelNoticed, f.exhausted, f.idleWarned])

/-- R202: the 56 bytes of a ticket. -/
def ticketData (t : Ticket) : List Byte :=
  zeroTo 56
    (be16 t.serial ++ [byteOf t.line.val] ++ padTo 6 t.user ++ [byteOf t.account.val, byteOf t.cls.val] ++
      stampBytes t.start ++ stampBytes (some t.stop) ++ be24 t.elapsed ++ be24 t.charge ++ be24 t.excess ++
      [byteOf t.reason.code, t.flags.byte, byteOf t.segments.length] ++ t.segments.flatMap segmentBytes)

/-- R153: the ticket at the head of the close list. -/
def State.headTicket (s : State) : Option Ticket :=
  match s.tickets.closeList with
  | [] => none
  | r :: _ =>
    match s.row r with
    | .closed t => some t
    | .free | .reserved _ => none

/-- FETCH TICKET (R154). -/
def cmdFetchTicket (s : State) : State × Answer :=
  match s.headTicket with
  | some t => (s, .reply .done (ticketData t))
  | none => (s, .reply .empty [])

/-- R155: the CLOSED row that carries a serial. -/
def State.rowOfSerial (s : State) (n : Nat) : Option (Fin 64) :=
  allRows.find? fun r => match s.row r with
    | .closed t => decide (t.serial = n)
    | .free | .reserved _ => false

/-- R155: a CLOSED row is given back. -/
def releaseRow (r : Fin 64) (s : State) : State :=
  let s := s.setRow r .free
  { s with tickets := { s.tickets with closeList := s.tickets.closeList.filter fun x => decide (x ≠ r) } }

/-- RELEASE TICKET (R155). -/
def cmdReleaseTicket (serial : Half) (s : State) : State × Answer :=
  if serial = 0 then (s, badValue)
  else
    match s.rowOfSerial serial.toNat with
    | some r => (releaseRow r s, done)
    | none => (s, .reply .notFound [])

/-- R156: the data of READ TICKET COUNTS. -/
def countData (s : State) : List Byte :=
  [byteOf s.freeRows, byteOf s.reservedRows, byteOf s.closedRows] ++ be16 s.tickets.serial

/-- READ TICKET COUNTS (R156). -/
def cmdReadTicketCounts (s : State) : State × Answer := (s, .reply .done (countData s))

/-- FETCH TICKET (R154). -/
def execFetchTicket (tag : Byte) (s : State) : Host.Outcome State Fault Refusal := command tag 0x60 [] cmdFetchTicket s
/-- RELEASE TICKET (R155). -/
def execReleaseTicket (tag : Byte) (serial : Half) (s : State) : Host.Outcome State Fault Refusal :=
  command tag 0x61 (be16 serial.toNat) (cmdReleaseTicket serial) s
/-- READ TICKET COUNTS (R156). -/
def execReadTicketCounts (tag : Byte) (s : State) : Host.Outcome State Fault Refusal :=
  command tag 0x62 [] cmdReadTicketCounts s

end Sys2Proof.Machine
end

