-- ==== Sys2Proof/Machine/Monitor.lean ====
section
/-! DEFINITION. The load monitor (chapter 9): the sample expiry and the watch commands. The flag computations stand in Flags.lean. -/

namespace Sys2Proof.Machine

open Sys2Proof

/-- SAMPLE_EXPIRY (R159, R160): one sample, and the timer runs on to its next expiry a second later. -/
def execSampleExpiry (s : State) : Host.Outcome State Fault Refusal :=
  whenRunning s fun s => whenDue s.sample s fun s' =>
    State.sampleAll { s' with sample := s.sample.map (· + Config.second) }

/-- R166: a watch as loaded: its settings, cleared flags, and the stored value decided afresh if it is enabled. -/
def Watch.load (w : Watch) (enabled : Bool) (mode : WatchMode) (upper lower critical hysteresis : Nat) : Watch :=
  let w : Watch := ⟨enabled, mode, upper, lower, critical, hysteresis, w.value, false, false, false, false⟩
  w.sample w.value

/-- One watch record replaced. -/
def setWatch (k : Fin 4) (w : Watch) (s : State) : State := { s with watches := s.watches.set k w }

/-- LOAD WATCH (R166). -/
def cmdLoadWatch (watch enabled mode upper lower critical hysteresis : Byte) (s : State) : State × Answer :=
  match finOf 4 watch, flagOf enabled, watchModeOf mode with
  | some k, some e, some m =>
    if hysteresis.toNat ≤ 3 then
      (setWatch k (s.watches[k].load e m upper.toNat lower.toNat critical.toNat hysteresis.toNat) s, done)
    else (s, badValue)
  | _, _, _ => (s, badValue)

/-- R167: the data of READ WATCH; the flags and the event as one set of flags (R196, log 11). -/
def watchData (k : Fin 4) (s : State) : List Byte :=
  let w := s.watches[k]
  [flagByte w.enabled, w.mode.code, byteOf w.upper, byteOf w.lower, byteOf w.critical, byteOf w.hysteresis, byteOf w.value,
    byteOf w.flagBits, flagByte s.alert, flagByte s.shedding]

/-- READ WATCH (R167). -/
def cmdReadWatch (watch : Byte) (s : State) : State × Answer :=
  match finOf 4 watch with
  | some k => (s, .reply .done (watchData k s))
  | none => (s, badValue)

/-- R163: the event of an enabled LATCHED watch is cleared. -/
def Watch.acknowledge (w : Watch) : Watch := if w.enabled ∧ w.mode = .latched then { w with event := false } else w

/-- ACK ALERT (R163). -/
def cmdAckAlert (watch : Byte) (s : State) : State × Answer :=
  match finOf 4 watch with
  | some k => (setWatch k s.watches[k].acknowledge s, .reply .done [flagByte s.watches[k].event])
  | none => (s, badValue)

/-- LOAD WATCH (R166). -/
def execLoadWatch (tag watch enabled mode upper lower critical hysteresis : Byte) (s : State) : Host.Outcome State Fault Refusal :=
  command tag 0x70 [watch, enabled, mode, upper, lower, critical, hysteresis]
    (cmdLoadWatch watch enabled mode upper lower critical hysteresis) s
/-- READ WATCH (R167). -/
def execReadWatch (tag watch : Byte) (s : State) : Host.Outcome State Fault Refusal :=
  command tag 0x71 [watch] (cmdReadWatch watch) s
/-- ACK ALERT (R163). -/
def execAckAlert (tag watch : Byte) (s : State) : Host.Outcome State Fault Refusal :=
  command tag 0x72 [watch] (cmdAckAlert watch) s

end Sys2Proof.Machine
end

