-- ==== Sys2Proof/Machine/Management.lean ====
section
/-! DEFINITION. The management unit's own commands (chapter 11): the service state, CLOSE SERVICE and RESTART with their teardown, the service parameter table and the trunk counters. -/

namespace Sys2Proof.Machine

open Sys2Proof

/-! ## The service state (R190, R191) -/

/-- R190: the service state changes. -/
def setService (v : Service) (s : State) : State := s.updMgt fun m => { m with service := v }

/-- OPEN SERVICE (R190). -/
def cmdOpenService (s : State) : State × Answer :=
  if s.cal.valid then (setService .opened s, done) else (s, badState)

/-- DRAIN SERVICE (R191): a drain whose condition already holds ends in this event. -/
def cmdDrainService (s : State) : State × Answer :=
  match s.mgt.service with
  | .opened => (drainEnd (setService .draining s), done)
  | .draining => (s, done)
  | .closed => (s, badState)

/-! ## Teardown (R172, R192, R193) -/

/-- R172 step 3, R192 step 2: every line in SIGNON or CHECKING is abandoned with message `m`. -/
def abandonAll (m : Fin 24) (s : State) : State := allLines.foldl (fun s l => abandon l (some m) s) s

/-- R172 step 4, R192 step 3: every waiter is removed with message `m`, head first. -/
def removeAllWaiters (m : Fin 24) (s : State) : State :=
  s.queue.foldl (fun s w => removeWaiter w.line (some m) true s) s

/-- R192 step 4: one channel at CLOSE SERVICE or RESTART, with the close reason of the cause. No rule states the value of M21; 0 is the model's choice (log 39). -/
def serviceCloseChannel (why : CloseReason) (c : Fin 24) (s : State) : State :=
  match (s.channel c).state with
  | .offered => abandonOffer c why (some Config.mClosing) true s
  | .connected =>
    match (s.channel c).line with
    | some l => closeRequest c l why (notify l Config.mClosing 0 s)
    | none => s
  | .free | .closing | .quarantined => s

/-- R192 step 4: every channel at CLOSE SERVICE or RESTART, in channel order. -/
def serviceCloseAll (why : CloseReason) (s : State) : State := allChannels.foldl (fun s c => serviceCloseChannel why c s) s

/-- R192 steps 1 to 4, R193 step 1: the teardown, with the close reason of the cause. -/
def teardown (why : CloseReason) (s : State) : State :=
  serviceCloseAll why (removeAllWaiters Config.mClosing (abandonAll Config.mClosing (setService .closed s)))

/-- CLOSE SERVICE (R192). -/
def cmdCloseService (s : State) : State × Answer := (teardown .operator s, done)

/-! ## RESTART (R193) -/

/-- R146: every channel becomes FREE, with its timer stopped and its line absent. -/
def freeAllChannels (s : State) : State := allChannels.foldl (fun s c => freeChannel c s) s

/-- R182: the framer at RESTART. -/
def restartTrunk (s : State) : State :=
  s.updTrunk fun t => { t with controls := [], announced := Vector.replicate 24 .go, counters := .zero }

/-- R52, R59: the stage buffer at RESTART; a write in progress goes on, a page commit keeps the entries being written, and entries held through a protection write are dropped. -/
def Stage.restart (g : Stage) : Stage :=
  match g.write with
  | .page => g
  | .none => .powerOn
  | .protectBlock _ | .unprotectAll => { g with page := none, staged := [], timer := none }

/-- R25: every notice queue is emptied and every line's counters are cleared. -/
def restartLines (s : State) : State :=
  { s with lines := Vector.ofFn fun l => { s.line l with notices := [], counters := .zero } }

/-- R193 steps 6 and 7: the partial command is dropped and the reply FIFO emptied; the reservation of a write is kept. -/
def restartManagement (s : State) : State := s.updMgt fun m => { m with held := none, replies := [] }

/-- RESTART (R193). -/
def cmdRestart (s : State) : State × Answer :=
  let s := restartTrunk (freeAllChannels (teardown .restart s))
  (restartManagement (restartLines (s.updStage Stage.restart)), done)

/-! ## The service parameter table (R189) -/

/-- R189: the table a LOAD PARAMETERS gives, when every value is in range. -/
def paramsOf (lockout queueWait queueNotice offer close expelGrace holidayWeekday nd selector1 selector2 shedSource polarity : Byte) :
    Option Params := do
  let a ← finOf 8 selector1
  let b ← finOf 8 selector2
  let w ← shedSourceOf shedSource
  let p ← flagOf polarity
  keepIf
    (decide (1 ≤ lockout.toNat ∧ lockout.toNat ≤ 7) && decide (1 ≤ queueWait.toNat ∧ queueWait.toNat ≤ 60) &&
      decide (1 ≤ offer.toNat ∧ offer.toNat ≤ 60) && decide (1 ≤ close.toNat ∧ close.toNat ≤ 60) &&
      decide (1 ≤ expelGrace.toNat ∧ expelGrace.toNat ≤ 30) && decide (holidayWeekday.toNat ≤ 6) &&
      decide (1 ≤ nd.toNat ∧ nd.toNat ≤ 64))
    { lockout := lockout.toNat, queueWait := queueWait.toNat, queueNotice := queueNotice.toNat, offer := offer.toNat
      close := close.toNat, expelGrace := expelGrace.toNat, holidayWeekday := holidayWeekday.toNat, nd := nd.toNat
      selector1 := a, selector2 := b, shedSource := w, alertHigh := p }

/-- LOAD PARAMETERS (R189); a changed holiday weekday recomputes the effective weekday and evaluates the period (R97, R101). -/
def cmdLoadParameters (p : Option Params) (s : State) : State × Answer :=
  match p with
  | none => (s, badValue)
  | some p =>
    let changed := decide (p.holidayWeekday ≠ s.params.holidayWeekday)
    let s := { s with params := p }
    (if changed then reevaluate (recomputeDay s) else s, done)

/-- R189: the data of READ PARAMETERS. -/
def paramsData (p : Params) : List Byte :=
  [byteOf p.lockout, byteOf p.queueWait, byteOf p.queueNotice, byteOf p.offer, byteOf p.close, byteOf p.expelGrace,
    byteOf p.holidayWeekday, byteOf p.nd, byteOf p.selector1.val, byteOf p.selector2.val, shedSourceCode p.shedSource,
    flagByte p.alertHigh]

/-- READ PARAMETERS (R189). -/
def cmdReadParameters (s : State) : State × Answer := (s, .reply .done (paramsData s.params))

/-! ## READ COUNTERS (R194) -/

/-- R194: the data of READ COUNTERS. -/
def counterData (k : TrunkCounters) : List Byte := be16 k.crc ++ be16 k.kind ++ be16 k.protocol ++ be16 k.discarded

/-- READ COUNTERS (R194). -/
def cmdReadCounters (s : State) : State × Answer :=
  (s.updTrunk fun t => { t with counters := .zero }, .reply .done (counterData s.trunk.counters))

/-! ## The rows -/

/-- OPEN SERVICE (R190). -/
def execOpenService (tag : Byte) (s : State) : Host.Outcome State Fault Refusal := command tag 0x80 [] cmdOpenService s
/-- DRAIN SERVICE (R191). -/
def execDrainService (tag : Byte) (s : State) : Host.Outcome State Fault Refusal := command tag 0x81 [] cmdDrainService s
/-- CLOSE SERVICE (R192). -/
def execCloseService (tag : Byte) (s : State) : Host.Outcome State Fault Refusal := command tag 0x82 [] cmdCloseService s
/-- RESTART (R193). -/
def execRestart (tag : Byte) (s : State) : Host.Outcome State Fault Refusal := command tag 0x83 [] cmdRestart s
/-- LOAD PARAMETERS (R189). -/
def execLoadParameters (tag lockout queueWait queueNotice offer close expelGrace holidayWeekday nd selector1 selector2 shedSource polarity : Byte)
    (s : State) : Host.Outcome State Fault Refusal :=
  command tag 0x42
    [lockout, queueWait, queueNotice, offer, close, expelGrace, holidayWeekday, nd, selector1, selector2, shedSource, polarity]
    (cmdLoadParameters
      (paramsOf lockout queueWait queueNotice offer close expelGrace holidayWeekday nd selector1 selector2 shedSource polarity)) s
/-- READ PARAMETERS (R189). -/
def execReadParameters (tag : Byte) (s : State) : Host.Outcome State Fault Refusal := command tag 0x84 [] cmdReadParameters s
/-- READ COUNTERS (R194). -/
def execReadCounters (tag : Byte) (s : State) : Host.Outcome State Fault Refusal := command tag 0x85 [] cmdReadCounters s

end Sys2Proof.Machine
end

