-- ==== Sys2Proof/Machine/Trunk.lean ====
section
/-! DEFINITION. The trunk framer (chapter 10): trunk loss, data segments, the two upward blocks, downward blocks with their segments, and the decoding of a command block by its code (R183, R200). -/

namespace Sys2Proof.Machine

open Sys2Proof

/-! ## TRUNK_LOSS (R172) -/

/-- R172 step 5: one channel at trunk loss. No rule states the value of M20; 0 is the model's choice (log 39). -/
def loseChannel (c : Fin 24) (s : State) : State :=
  match (s.channel c).state with
  | .offered => freeChannel c (endOffer c (some Config.mDown) true s)
  | .connected =>
    match (s.channel c).line with
    | some l => closeRequest c l .hostLost (notify l Config.mDown 0 s)
    | none => s
  | .closing | .quarantined => freeChannel c s
  | .free => s

/-- R172 step 5: the channels in channel order. -/
def loseChannels (s : State) : State := allChannels.foldl (fun s c => loseChannel c s) s

/-- R172 steps 1 and 2: the trunk goes DOWN and the service is closed. -/
def trunkDown (s : State) : State := setService .closed (s.updTrunk fun t => { t with up := false, lossTimer := none })

/-- R172 step 6: the control queue is emptied and every announced flow becomes GO. -/
def emptyControls (s : State) : State := s.updTrunk fun t => { t with controls := [], announced := Vector.replicate 24 .go }

/-- R172: the teardown at the expiry of the trunk-loss timer. -/
def loseTrunk (s : State) : State :=
  dropPartial (emptyControls (loseChannels (removeAllWaiters Config.mDown (abandonAll Config.mDown (trunkDown s)))))

/-- TRUNK_LOSS (R172). -/
def execTrunkLoss (s : State) : Host.Outcome State Fault Refusal :=
  whenRunning s fun s => whenDue s.trunk.lossTimer s loseTrunk

/-! ## DATA_SEGMENT (R178) -/

/-- R178: FLOW STOP when host characters have brought the fill to 112 or more under an announced GO. -/
def flowStop (l : Fin 32) (c : Fin 24) (s : State) : State :=
  if Config.flowStopFill ≤ (s.line l).tx.length ∧ s.trunk.announced[c] = .go then
    handControl c (.flow .stop) (setAnnounced c .stop s)
  else s

/-- R178: a downward data segment taken against the channel's state. -/
def takeData (c : Fin 24) (chars : List Byte) (s : State) : State :=
  match (s.channel c).state with
  | .connected =>
    match (s.channel c).line with
    | some l => flowStop l c (s.updLine l fun ln => ln.placeAll chars)
    | none => s
  | .offered | .closing => s
  | .free | .quarantined => protocolError s

/-- DATA_SEGMENT (R178). -/
def execDataSegment (c : Fin 24) (chars : List Byte) (s : State) : Host.Outcome State Fault Refusal :=
  whenRunning s (takeData c chars)

/-! ## UPWARD_BLOCK (R173, R174, R176) -/

/-- R174 step 1: the bytes of the controls taken from the head while the next one fits in `space`, and the controls left. -/
def takeControls : Nat → List Control → List Byte × List Control
  | _, [] => ([], [])
  | space, c :: t =>
    if c.bytes.length ≤ space then
      let r := takeControls (space - c.bytes.length) t
      (c.bytes ++ r.1, r.2)
    else ([], c :: t)

/-- R176: the line of an eligible channel. -/
def State.eligible (s : State) (c : Fin 24) : Option (Fin 32) :=
  if (s.channel c).state = .connected ∧ (s.channel c).hostFlow = .go then
    match (s.channel c).line with
    | some l => if (s.line l).rx = [] then none else some l
    | none => none
  else none

/-- R176: the number of characters a segment takes when `used` payload bytes are taken and the FIFO holds `held`. -/
def segmentSize (used held : Nat) : Nat := min (Config.payload - used - 2) (min Config.segmentChars held)

/-- R176: channel `c` in its turn, with the payload built so far. -/
def giveSegment (r : State × List Byte) (c : Fin 24) : State × List Byte :=
  match r.1.eligible c with
  | none => r
  | some l =>
    if r.2.length + 3 ≤ Config.payload then
      let rx := (r.1.line l).rx
      let n := segmentSize r.2.length rx.length
      ((r.1.updLine l fun ln => { ln with rx := ln.rx.drop n }).updTrunk fun t => { t with pointer := c },
        r.2 ++ dataSegmentBytes c (rx.take n))
    else r

/-- R176: the channels of one full turn, starting after the pointer. -/
def turn (p : Fin 24) : List (Fin 24) := allChannels.drop (p.val + 1) ++ allChannels.take (p.val + 1)

/-- R176: the channels given served in their order, with the payload built so far. -/
def serveTurn (cs : List (Fin 24)) (r : State × List Byte) : State × List Byte := cs.foldl giveSegment r

/-- R174 step 1: the controls taken leave the queue. -/
def setControls (q : List Control) (s : State) : State := s.updTrunk fun t => { t with controls := q }

/-- R174: the payload of an upward traffic block and the state it leaves. -/
def buildPayload (s : State) : State × List Byte :=
  let r := takeControls Config.payload s.trunk.controls
  serveTurn (turn s.trunk.pointer) (setControls r.2 s, r.1)

/-- R173, R174, R197: an upward TRAFFIC or IDLE block is sent and the block counter rises. -/
def sendBlock (s : State) : State :=
  let r := buildPayload s
  r.1.updTrunk fun t =>
    { t with counter := t.counter + 1, sent := blockBytes (if r.2 = [] then 0x11 else 0x12) r.2 }

/-- UPWARD_BLOCK (R173, R174): taken while the counter is below the ND in use. -/
def execUpwardBlock (s : State) : Host.Outcome State Fault Refusal :=
  whenRunning s fun s => if s.trunk.counter < s.trunk.nd then sendBlock s else s

/-! ## SERVICE_BLOCK (R173, R186, R201) -/

/-- R186, R201: a service block is sent: the status byte and a reply or the items; the sticky flags are cleared and the reply carried is removed; the counter becomes 0 and the ND in use is copied. -/
def sendService (s : State) : State :=
  let pay := s.servicePayload
  (s.updMgt fun m => { m with sticky := .clear, replies := m.replies.drop 1 }).updTrunk fun t =>
    { t with counter := 0, nd := s.params.nd, sent := blockBytes 0x13 pay }

/-- SERVICE_BLOCK (R173, R186): taken when the counter equals the ND in use. -/
def execServiceBlock (s : State) : Host.Outcome State Fault Refusal :=
  whenRunning s fun s => if s.trunk.counter = s.trunk.nd then sendService s else s

/-! ## Decoding a command block (R183, R200) -/

/-- A 2-byte parameter, high byte first (R196). -/
def halfOf (a b : Byte) : Half := a ++ b
/-- A 3-byte parameter, high byte first (R196). -/
def tripleOf (a b c : Byte) : Triple := a ++ (b ++ c)

/-- R183 step 5: a command with a fixed parameter length; byte `k` of its parameters is `p k`. -/
def fixed (n : Nat) (params : List Byte) (f : (Nat → Byte) → State → State × Answer) (s : State) : State × Answer :=
  if params.length = n then f (fun k => params.getD k 0) s else (s, badValue)

/-- R200: the commands of chapter 1. -/
def runLine (lv : InputLevels) (code : Byte) (q : List Byte) : State → State × Answer :=
  if code = 0x10 then fixed 14 q fun p =>
    cmdLoadGroup (p 0) (groupRecord (p 1) (p 2) (p 3) (p 4) (p 5) (p 6) (p 7) (p 8) (p 9) (p 10) (p 11) (p 12) (p 13))
  else if code = 0x11 then cmdLoadMessage q
  else if code = 0x12 then cmdBroadcast q
  else if code = 0x13 then fixed 1 q fun p => cmdLineOutOfService (p 0)
  else if code = 0x14 then fixed 1 q fun p => cmdLineReturn (p 0)
  else if code = 0x15 then fixed 1 q fun p => cmdForceClear (p 0)
  else fixed 1 q fun p => cmdReadLine (p 0) fun l => lv.ring.getLsbD l.val

/-- R200: the commands of chapter 3. -/
def runDirectory (lv : InputLevels) (code : Byte) (q : List Byte) : State → State × Answer :=
  if code = 0x20 then fixed 20 q fun p =>
    cmdStageEntry (stagedOf (halfOf (p 0) (p 1)) ((q.drop 2).take 6) (p 8) ((q.drop 9).take 8) (p 17) (p 18) (p 19))
  else if code = 0x21 then fixed 0 q fun _ => cmdCommitPage
  else if code = 0x22 then fixed 0 q fun _ => cmdDiscardStage
  else if code = 0x23 then fixed 2 q fun p => cmdReadEntry (halfOf (p 0) (p 1))
  else if code = 0x24 then fixed 6 q fun _ => cmdFindUser q
  else if code = 0x25 then fixed 2 q fun p => cmdUnlockUser (halfOf (p 0) (p 1))
  else if code = 0x26 then fixed 1 q fun p => cmdProtectBlock (p 0)
  else if code = 0x27 then fixed 0 q fun _ => cmdProtectTariffs
  else if code = 0x28 then fixed 0 q fun _ => cmdUnprotectAll lv.key
  else fixed 0 q fun _ => cmdReadProtection lv.key

/-- R200: the commands of chapter 4. -/
def runAccount (code : Byte) (q : List Byte) : State → State × Answer :=
  if code = 0x30 then fixed 12 q fun p =>
    cmdSetAccount (accountOf (p 0)) (p 1) (tripleOf (p 2) (p 3) (p 4)).toInt (tripleOf (p 5) (p 6) (p 7)).toNat
      (tripleOf (p 8) (p 9) (p 10)).toInt (p 11).toNat
  else if code = 0x31 then fixed 2 q fun p => cmdSetAccountState (accountOf (p 0)) (p 1)
  else if code = 0x32 then fixed 4 q fun p => cmdCreditAccount (accountOf (p 0)) (tripleOf (p 1) (p 2) (p 3)).toInt
  else fixed 1 q fun p => cmdReadAccount (accountOf (p 0))

/-- R200: the commands of chapter 5, and LOAD PARAMETERS. -/
def runCalendar (code : Byte) (q : List Byte) : State → State × Answer :=
  if code = 0x40 then fixed 7 q fun p =>
    cmdSetClock ⟨(p 0).toNat, (p 1).toNat, (p 2).toNat, (p 3).toNat, (p 4).toNat, (p 5).toNat, (p 6).toNat⟩
  else if code = 0x41 then fixed 0 q fun _ s => (s, .reply .done (clockData s))
  else if code = 0x42 then fixed 12 q fun p =>
    cmdLoadParameters (paramsOf (p 0) (p 1) (p 2) (p 3) (p 4) (p 5) (p 6) (p 7) (p 8) (p 9) (p 10) (p 11))
  else if code = 0x43 then fixed 3 q fun p => cmdLoadHoliday (p 0) (p 1) (p 2)
  else if code = 0x44 then fixed 1 q fun p => cmdReadHoliday (p 0)
  else if code = 0x45 then fixed 6 q fun p => cmdLoadSchedule (p 0) (p 1) (p 2) (p 3) (p 4) (p 5)
  else if code = 0x46 then fixed 1 q fun p => cmdReadSchedule (p 0)
  else if code = 0x47 then fixed 2 q fun p => cmdLoadDaystart (p 0) (p 1)
  else if code = 0x48 then fixed 0 q fun _ => cmdReadDaystart
  else if code = 0x49 then fixed 4 q fun p => cmdLoadRate (p 0) (p 1) (halfOf (p 2) (p 3))
  else if code = 0x4A then fixed 1 q fun p => cmdReadRate (p 0)
  else if code = 0x4B then fixed 3 q fun p => cmdLoadPermit (p 0) (p 1) (p 2)
  else if code = 0x4C then fixed 1 q fun p => cmdReadPermit (p 0)
  else if code = 0x4D then fixed 7 q fun p => cmdLoadClass (p 0) (p 1) (halfOf (p 2) (p 3)) (p 4) (p 5) (p 6)
  else if code = 0x4E then fixed 1 q fun p => cmdReadClass (p 0)
  else fixed 0 q fun _ s => (s, .reply .done (periodData s))

/-- R200: the commands of chapters 7, 8 and 9. -/
def runChannel (code : Byte) (q : List Byte) : State → State × Answer :=
  if code = 0x50 then fixed 2 q fun p => cmdSetChannelPriority (p 0) (p 1)
  else if code = 0x51 then fixed 1 q fun p => cmdClearChannel (p 0)
  else if code = 0x52 then fixed 1 q fun p => cmdReadChannel (p 0)
  else if code = 0x53 then fixed 0 q fun _ => cmdReadQueue
  else if code = 0x60 then fixed 0 q fun _ => cmdFetchTicket
  else if code = 0x61 then fixed 2 q fun p => cmdReleaseTicket (halfOf (p 0) (p 1))
  else if code = 0x62 then fixed 0 q fun _ => cmdReadTicketCounts
  else if code = 0x70 then fixed 7 q fun p => cmdLoadWatch (p 0) (p 1) (p 2) (p 3) (p 4) (p 5) (p 6)
  else if code = 0x71 then fixed 1 q fun p => cmdReadWatch (p 0)
  else fixed 1 q fun p => cmdAckAlert (p 0)

/-- R200: the commands of chapter 11. -/
def runService (code : Byte) (q : List Byte) : State → State × Answer :=
  if code = 0x80 then fixed 0 q fun _ => cmdOpenService
  else if code = 0x81 then fixed 0 q fun _ => cmdDrainService
  else if code = 0x82 then fixed 0 q fun _ => cmdCloseService
  else if code = 0x83 then fixed 0 q fun _ => cmdRestart
  else if code = 0x84 then fixed 0 q fun _ => cmdReadParameters
  else fixed 0 q fun _ => cmdReadCounters

/-- R183 steps 5 and 6: a command of the index handed to its owner. -/
def runCommand (lv : InputLevels) (code : Byte) (q : List Byte) : State → State × Answer :=
  if code.toNat < 0x20 then runLine lv code q
  else if code.toNat < 0x30 then runDirectory lv code q
  else if code.toNat < 0x40 then runAccount code q
  else if code.toNat < 0x50 then runCalendar code q
  else if code.toNat < 0x80 then runChannel code q
  else runService code q

/-- R183 steps 3 to 6, for the block's parameter bytes as they stand in its payload. -/
def dispatchBody (lv : InputLevels) (b : CommandBlock) (s : State) : State × Answer :=
  if commandCodes.contains b.code then
    lengthStep b.length b.bytes (runCommand lv b.code (zeroTo b.length b.bytes)) s
  else (s, .reply .unknown [])

/-- R183, R184: any command block. -/
def takeCommandBlock (lv : InputLevels) (b : CommandBlock) (s : State) : State := takeBlock b (dispatchBody lv b) s

/-- The input levels as last read, for a block whose sender states none (log 22). -/
def State.levels (s : State) : InputLevels := ⟨s.key, BitVec.ofNat 32 (flagSet (allLines.map fun l => (s.line l).ri))⟩

/-- UNKNOWN_COMMAND (R183): a command block without parameters, whose code is not in the index. -/
def execUnknownCommand (tag code : Byte) (s : State) : Host.Outcome State Fault Refusal :=
  whenRunning s fun s => takeCommandBlock s.levels ⟨tag, code, 0, []⟩ s

/-- CONTINUATION (R184): a command block that follows a partial command; with none held it is a command of its own (log 22). -/
def execContinuation (tag code length : Byte) (bytes : List Byte) (levels : InputLevels) (s : State) :
    Host.Outcome State Fault Refusal :=
  whenRunning s (takeCommandBlock levels ⟨tag, code, length.toNat, bytes⟩)

/-! ## Downward segments (R177, R199) -/

/-- R177: a well-formed segment. -/
inductive Delivery
  | data (c : Fin 24) (chars : List Byte)
  | accept (c : Fin 24)
  | reject (c : Fin 24) (reason : Byte)
  | close (c : Fin 24)
  | closed (c : Fin 24)
  | flow (c : Fin 24) (f : Flow)
deriving DecidableEq, Repr

/-- R177: the rest of a data segment after its header. -/
def dataSegment (c : Fin 24) : List Byte → Option (Delivery × List Byte)
  | [] => none
  | n :: t =>
    if 1 ≤ n.toNat ∧ n.toNat ≤ Config.segmentChars ∧ n.toNat ≤ t.length then
      some (.data c (t.take n.toNat), t.drop n.toNat)
    else none

/-- R177, R199: the rest of a control segment after its header. -/
def controlSegment (c : Fin 24) : List Byte → Option (Delivery × List Byte)
  | [] => none
  | code :: t =>
    if code = 0x02 then some (.accept c, t)
    else if code = 0x04 then some (.close c, t)
    else if code = 0x05 then some (.closed c, t)
    else
      match t with
      | [] => none
      | a :: t =>
        if code = 0x03 then some (.reject c a, t)
        else if code = 0x06 then (flagOf a).map fun go => (.flow c (if go then .go else .stop), t)
        else none

/-- R177: one segment from its header byte; none when it is malformed. -/
def parseSegment (h : Byte) (t : List Byte) : Option (Delivery × List Byte) :=
  match channelOf h with
  | some c => dataSegment c t
  | none =>
    match channelOf (h - 0x40) with
    | some c => controlSegment c t
    | none => none

/-- R177: the segments of a payload, and whether a malformed one ended them; `fuel` is at least the number of segments. -/
def parseSegments : Nat → List Byte → List Delivery × Bool
  | 0, _ => ([], false)
  | _, [] => ([], false)
  | fuel + 1, h :: t =>
    if h = 0 then ([], false)
    else
      match parseSegment h t with
      | none => ([], true)
      | some (d, rest) =>
        let r := parseSegments fuel rest
        (d :: r.1, r.2)

/-- R177: one segment delivered. -/
def deliver (d : Delivery) (s : State) : State :=
  match d with
  | .data c chars => takeData c chars s
  | .accept c => takeAccept c s
  | .reject c reason => takeReject c reason s
  | .close c => takeClose c s
  | .closed c => takeClosed c s
  | .flow c f => takeFlow c f s

/-- R177: segments delivered in their order. -/
def deliverAll (ds : List Delivery) (s : State) : State := ds.foldl (fun s d => deliver d s) s

/-- R170, R177: a TRAFFIC block's payload: its segments in their order, then the error of a malformed one. -/
def takeTraffic (pay : List Byte) (s : State) : State :=
  let r := parseSegments Config.payload pay
  let s := deliverAll r.1 s
  if r.2 then protocolError s else s

/-! ## DOWNWARD_BLOCK (R169 to R171) -/

/-- R171: the trunk state at a valid block. -/
def trunkAlive (s : State) : State :=
  let s' := s.updTrunk fun t => { t with up := true, lossTimer := s.after Config.trunkLoss }
  if s.trunk.up then s' else s'.updMgt fun m => { m with sticky := { m.sticky with restarted := true } }

/-- R169: a block discarded as short or for a bad CRC. -/
def countCrc (s : State) : State := s.updTrunk fun t => { t with counters := { t.counters with crc := raise t.counters.crc } }

/-- R169: a block discarded for an unknown kind. -/
def countKind (s : State) : State := s.updTrunk fun t => { t with counters := { t.counters with kind := raise t.counters.kind } }

/-- R170: a valid COMMAND block's payload. -/
def takeCommand (lv : InputLevels) (pay : List Byte) (s : State) : State :=
  takeCommandBlock lv ⟨pay.getD 0 0, pay.getD 1 0, (pay.getD 2 0).toNat, pay.drop 3⟩ s

/-- R169, R170: a block of 64 bytes or more with a good CRC. -/
def takeGood (lv : InputLevels) (kind : Byte) (pay : List Byte) (s : State) : State :=
  if kind = 0x21 then trunkAlive s
  else if kind = 0x22 then takeTraffic pay (trunkAlive s)
  else if kind = 0x23 then takeCommand lv pay (trunkAlive s)
  else countKind s

/-- R169: a received block, checked. -/
def takeDownward (bytes : List Byte) (lv : InputLevels) (s : State) : State :=
  if bytes.length < 64 ∨ crcGood bytes = false then countCrc s
  else takeGood lv (bytes.getD 0 0) ((bytes.drop 1).take Config.payload) s

/-- DOWNWARD_BLOCK (R169 to R171, R177). -/
def execDownwardBlock (bytes : List Byte) (levels : InputLevels) (s : State) : Host.Outcome State Fault Refusal :=
  whenRunning s (takeDownward bytes levels)

end Sys2Proof.Machine
end

