-- ==== Sys2Proof/Machine/Power.lean ====
section
/-! DEFINITION. Power-on and reset: every block at its power-on values, the nonvolatile store kept, and an interrupted write decided entry by entry (R24, R48, R146, R147, R159, R164, R173, R182, R195). -/

namespace Sys2Proof.Machine

open Sys2Proof

/-- R48: the store after a page commit was interrupted; bit k of `written` says whether entry k of the page holds its new contents (log 7). -/
def Directory.interrupted (d : Directory) (written : Byte) : Directory :=
  match d.stage.write with
  | .page => d.stage.staged.foldl (fun d e => if written.getLsbD (e.index.val % 8) then d.writeStaged e else d) d
  | .none | .protectBlock _ | .unprotectAll => d

/-- R48: the block flags after a protection write was interrupted; bit b of `written` says whether flag b holds its new value (log 7). -/
def Directory.interruptedFlags (d : Directory) (written : Byte) : Byte :=
  (d.protect &&& ~~~written) ||| (d.protectedBy d.stage.write &&& written)

/-- R48, R49, R52, R62: the directory after power-on. -/
def Directory.afterReset (d : Directory) (written : Byte) : Directory :=
  ⟨(d.interrupted written).store, [], d.interruptedFlags written, false, .powerOn⟩

/-- Every block at its power-on values, held in reset; the nonvolatile store, the input levels, the time and the queue of commands are kept. -/
def powerOnValues (written : Byte) (s : State) : State :=
  { State.reset with
    pending := s.pending
    inReset := true
    now := s.now
    key := s.key
    lines := Vector.ofFn fun l => Line.powerOn (s.line l).ri (s.line l).dcd
    dir := s.dir.afterReset written
    sample := none }

/-- POWER_ON. -/
def execPowerOn (written : Byte) (s : State) : Host.Outcome State Fault Refusal := .next (powerOnValues written s)

/-- RESET_N asserted. -/
def execResetN (written : Byte) (s : State) : Host.Outcome State Fault Refusal := .next (powerOnValues written s)

/-- RESET_N_RELEASE (R159, R173): the sample timer starts toward its first expiry one second later, and the upward stream begins. -/
def execResetNRelease (s : State) : Host.Outcome State Fault Refusal :=
  .next (if s.inReset then { s with inReset := false, sample := s.after Config.second } else s)

end Sys2Proof.Machine
end

