-- ==== Sys2Proof/Machine/Dispatch.lean ====
section
/-! DEFINITION. The meaning of every command: one arm per constructor of Instr, each one call of its meaning. -/

namespace Sys2Proof.Machine

/-- The effect of a command on everything but the queue. -/
def exec (i : Instr) (s : State) : Host.Outcome State Fault Refusal :=
  match i with
  | .powerOn written => Sys2Proof.Machine.execPowerOn written s
  | .resetN written => Sys2Proof.Machine.execResetN written s
  | .resetNRelease => Sys2Proof.Machine.execResetNRelease s
  | .ringBurst line => Sys2Proof.Machine.execRingBurst line s
  | .dcdUp line => Sys2Proof.Machine.execDcdUp line s
  | .dcdDown line => Sys2Proof.Machine.execDcdDown line s
  | .characterReceived line char => Sys2Proof.Machine.execCharacterReceived line char s
  | .lineBreak line => Sys2Proof.Machine.execLineBreak line s
  | .characterSent line => Sys2Proof.Machine.execCharacterSent line s
  | .noticeBegin line => Sys2Proof.Machine.execNoticeBegin line s
  | .noticeEnd line => Sys2Proof.Machine.execNoticeEnd line s
  | .prompt line => Sys2Proof.Machine.execPrompt line s
  | .lineDrainEnd line => Sys2Proof.Machine.execLineDrainEnd line s
  | .ringGapExpiry line => Sys2Proof.Machine.execRingGapExpiry line s
  | .answerTimerExpiry line => Sys2Proof.Machine.execAnswerTimerExpiry line s
  | .signOnTimerExpiry line => Sys2Proof.Machine.execSignOnTimerExpiry line s
  | .carrierLoss line => Sys2Proof.Machine.execCarrierLoss line s
  | .drainTimerExpiry line => Sys2Proof.Machine.execDrainTimerExpiry line s
  | .guardTimerExpiry line => Sys2Proof.Machine.execGuardTimerExpiry line s
  | .idleTimerExpiry line => Sys2Proof.Machine.execIdleTimerExpiry line s
  | .lookupCompletion line => Sys2Proof.Machine.execLookupCompletion line s
  | .grant => Sys2Proof.Machine.execGrant s
  | .noticeTimerExpiry line => Sys2Proof.Machine.execNoticeTimerExpiry line s
  | .waitExpiry line => Sys2Proof.Machine.execWaitExpiry line s
  | .offerTimeout channel => Sys2Proof.Machine.execOfferTimeout channel s
  | .closeTimeout channel => Sys2Proof.Machine.execCloseTimeout channel s
  | .graceExpiry channel => Sys2Proof.Machine.execGraceExpiry channel s
  | .expelExpiry channel => Sys2Proof.Machine.execExpelExpiry channel s
  | .stageExpiry => Sys2Proof.Machine.execStageExpiry s
  | .writeCompletion => Sys2Proof.Machine.execWriteCompletion s
  | .protectionWriteCompletion => Sys2Proof.Machine.execProtectionWriteCompletion s
  | .secondBoundary order => Sys2Proof.Machine.execSecondBoundary order s
  | .sampleExpiry => Sys2Proof.Machine.execSampleExpiry s
  | .trunkLoss => Sys2Proof.Machine.execTrunkLoss s
  | .downwardBlock bytes levels => Sys2Proof.Machine.execDownwardBlock bytes levels s
  | .dataSegment channel chars => Sys2Proof.Machine.execDataSegment channel chars s
  | .accept channel => Sys2Proof.Machine.execAccept channel s
  | .reject channel reason => Sys2Proof.Machine.execReject channel reason s
  | .close channel => Sys2Proof.Machine.execClose channel s
  | .closed channel => Sys2Proof.Machine.execClosed channel s
  | .flow channel go => Sys2Proof.Machine.execFlow channel go s
  | .upwardBlock => Sys2Proof.Machine.execUpwardBlock s
  | .serviceBlock => Sys2Proof.Machine.execServiceBlock s
  | .unknownCommand tag code => Sys2Proof.Machine.execUnknownCommand tag code s
  | .continuation tag code length bytes levels => Sys2Proof.Machine.execContinuation tag code length bytes levels s
  | .loadGroup tag group enabled firstLine size ringCount answerTimeout carrierLoss signOnLimit attempts idleWarn idleClear activity factor answerMask => Sys2Proof.Machine.execLoadGroup tag group enabled firstLine size ringCount answerTimeout carrierLoss signOnLimit attempts idleWarn idleClear activity factor answerMask s
  | .loadMessage tag slot length text => Sys2Proof.Machine.execLoadMessage tag slot length text s
  | .broadcast tag length text => Sys2Proof.Machine.execBroadcast tag length text s
  | .lineOutOfService tag line => Sys2Proof.Machine.execLineOutOfService tag line s
  | .lineReturn tag line => Sys2Proof.Machine.execLineReturn tag line s
  | .forceClear tag line => Sys2Proof.Machine.execForceClear tag line s
  | .readLine tag line ring => Sys2Proof.Machine.execReadLine tag line ring s
  | .stageEntry tag index code keep password account cls enabled => Sys2Proof.Machine.execStageEntry tag index code keep password account cls enabled s
  | .commitPage tag => Sys2Proof.Machine.execCommitPage tag s
  | .discardStage tag => Sys2Proof.Machine.execDiscardStage tag s
  | .readEntry tag index => Sys2Proof.Machine.execReadEntry tag index s
  | .findUser tag code => Sys2Proof.Machine.execFindUser tag code s
  | .unlockUser tag index => Sys2Proof.Machine.execUnlockUser tag index s
  | .protectBlock tag block => Sys2Proof.Machine.execProtectBlock tag block s
  | .protectTariffs tag => Sys2Proof.Machine.execProtectTariffs tag s
  | .unprotectAll tag key => Sys2Proof.Machine.execUnprotectAll tag key s
  | .readProtection tag key => Sys2Proof.Machine.execReadProtection tag key s
  | .setAccount tag account state balance overdraft warn limit => Sys2Proof.Machine.execSetAccount tag account state balance overdraft warn limit s
  | .setAccountState tag account state => Sys2Proof.Machine.execSetAccountState tag account state s
  | .creditAccount tag account amount => Sys2Proof.Machine.execCreditAccount tag account amount s
  | .readAccount tag account => Sys2Proof.Machine.execReadAccount tag account s
  | .setClock tag seconds minutes hours weekday day month year => Sys2Proof.Machine.execSetClock tag seconds minutes hours weekday day month year s
  | .readClock tag => Sys2Proof.Machine.execReadClock tag s
  | .loadHoliday tag entry month day => Sys2Proof.Machine.execLoadHoliday tag entry month day s
  | .readHoliday tag entry => Sys2Proof.Machine.execReadHoliday tag entry s
  | .loadSchedule tag entry enabled weekdays hour minute period => Sys2Proof.Machine.execLoadSchedule tag entry enabled weekdays hour minute period s
  | .readSchedule tag entry => Sys2Proof.Machine.execReadSchedule tag entry s
  | .loadDaystart tag weekday period => Sys2Proof.Machine.execLoadDaystart tag weekday period s
  | .readDaystart tag => Sys2Proof.Machine.execReadDaystart tag s
  | .loadRate tag period cls rate => Sys2Proof.Machine.execLoadRate tag period cls rate s
  | .readRate tag period => Sys2Proof.Machine.execReadRate tag period s
  | .loadPermit tag period cls permit => Sys2Proof.Machine.execLoadPermit tag period cls permit s
  | .readPermit tag period => Sys2Proof.Machine.execReadPermit tag period s
  | .loadClass tag cls setup maximum grace priority essential => Sys2Proof.Machine.execLoadClass tag cls setup maximum grace priority essential s
  | .readClass tag cls => Sys2Proof.Machine.execReadClass tag cls s
  | .readPeriod tag => Sys2Proof.Machine.execReadPeriod tag s
  | .setChannelPriority tag channel flag => Sys2Proof.Machine.execSetChannelPriority tag channel flag s
  | .clearChannel tag channel => Sys2Proof.Machine.execClearChannel tag channel s
  | .readChannel tag channel => Sys2Proof.Machine.execReadChannel tag channel s
  | .readQueue tag => Sys2Proof.Machine.execReadQueue tag s
  | .fetchTicket tag => Sys2Proof.Machine.execFetchTicket tag s
  | .releaseTicket tag serial => Sys2Proof.Machine.execReleaseTicket tag serial s
  | .readTicketCounts tag => Sys2Proof.Machine.execReadTicketCounts tag s
  | .loadWatch tag watch enabled mode upper lower critical hysteresis => Sys2Proof.Machine.execLoadWatch tag watch enabled mode upper lower critical hysteresis s
  | .readWatch tag watch => Sys2Proof.Machine.execReadWatch tag watch s
  | .ackAlert tag watch => Sys2Proof.Machine.execAckAlert tag watch s
  | .openService tag => Sys2Proof.Machine.execOpenService tag s
  | .drainService tag => Sys2Proof.Machine.execDrainService tag s
  | .closeService tag => Sys2Proof.Machine.execCloseService tag s
  | .restart tag => Sys2Proof.Machine.execRestart tag s
  | .loadParameters tag lockout queueWait queueNotice offer close expelGrace holidayWeekday nd selector1 selector2 shedSource polarity => Sys2Proof.Machine.execLoadParameters tag lockout queueWait queueNotice offer close expelGrace holidayWeekday nd selector1 selector2 shedSource polarity s
  | .readParameters tag => Sys2Proof.Machine.execReadParameters tag s
  | .readCounters tag => Sys2Proof.Machine.execReadCounters tag s

end Sys2Proof.Machine
end

