-- ==== Sys2Proof/Machine/Step.lean ====
section
/-! DEFINITION. One step of the part: the command at the front of the queue is taken. -/

namespace Sys2Proof.Machine

/-- A step on an empty queue: a tenth of a second passes and nothing else happens (log 2). -/
def State.idle (s : State) : State := { s with now := s.now + 1 }

/-- One step: the command at the front of the queue is taken with the queue's rest; on an empty queue the part idles (log 2). -/
def step (s : State) : Host.Outcome State Fault Refusal :=
  match s.pending with
  | [] => .next s.idle
  | i :: rest => exec i { s with pending := rest }

/-- The command that a word spells put at the front of the queue; the table gives no row any bits, so no word spells one and the state is unchanged. -/
def State.withFetchWord (s : State) (nbits w : Nat) : State :=
  match decodeTableWord nbits w with
  | some i => { s with pending := i :: s.pending }
  | none => s

end Sys2Proof.Machine
end

