-- ==== Sys2Proof/Safety.lean ====
section
/-! DEFINITION. What counts as a safe state of the part: the laws that the manual states for every moment of a run, and the capacities of its queues. -/

namespace Sys2Proof.Machine

open Sys2Proof

/-! ## Capacities -/

/-- R2, R3, R18, R6, R22: a line's buffers, notice queue, ring count and counters stay within their sizes. -/
def Line.Bounded (ln : Line) : Prop :=
  ln.rx.length ≤ 64 ∧ ln.tx.length ≤ 128 ∧ ln.notices.length ≤ 4 ∧ ln.rings ≤ 255 ∧
    ln.counters.overruns ≤ 65535 ∧ ln.counters.discards ≤ 65535 ∧ ln.counters.drops ≤ 65535 ∧ ln.counters.failures ≤ 65535

/-- Every line keeps within its sizes. -/
def State.LinesBounded (s : State) : Prop := ∀ l, (s.line l).Bounded

/-- R18: no notice queue holds two notices with the same message number. -/
def State.NoticesDistinct (s : State) : Prop := ∀ l, ((s.line l).notices.map (·.msg)).Nodup

/-- R125: the waiting queue holds at most 16 waiters. -/
def State.QueueBounded (s : State) : Prop := s.queue.length ≤ 16

/-- R185: the replies, a place for a held partial command and a place for a write in progress number at most 16. -/
def State.RepliesBounded (s : State) : Prop :=
  s.mgt.replies.length + (if s.mgt.held.isSome then 1 else 0) + (if s.mgt.writing.isSome then 1 else 0) ≤ 16

/-- R175: the place of a control, its channel and its slot. -/
def Control.place (k : Control) : Fin 24 × Nat := (k.channel, k.kind.slot)

/-- R175: at most one control of each slot for each channel. -/
def State.SlotsDistinct (s : State) : Prop := (s.trunk.controls.map Control.place).Nodup

/-- R173: the block counter is at most the ND in use, and both ND values lie in 1..64. -/
def State.CycleSound (s : State) : Prop :=
  s.trunk.counter ≤ s.trunk.nd ∧ 1 ≤ s.trunk.nd ∧ s.trunk.nd ≤ 64 ∧ 1 ≤ s.params.nd ∧ s.params.nd ≤ 64

/-- R181: the trunk counters stay within 0..65535. -/
def State.CountersBounded (s : State) : Prop :=
  s.trunk.counters.crc ≤ 65535 ∧ s.trunk.counters.kind ≤ 65535 ∧ s.trunk.counters.protocol ≤ 65535 ∧
    s.trunk.counters.discarded ≤ 65535

/-- R89, R97, R189: the calendar weekday, the effective weekday and the holiday weekday lie in 0..6. -/
def State.WeekdaysSound (s : State) : Prop := s.cal.clock.weekday < 7 ∧ s.cal.weekday < 7 ∧ s.params.holidayWeekday < 7

/-! ## The stage buffer (R52) -/

/-- R52: the staged entries are those of one page, each index once, in index order. -/
def Stage.Ordered (g : Stage) : Prop :=
  g.staged.Pairwise (fun a b => a.index < b.index) ∧
    (g.staged ≠ [] → ∃ p : Fin 128, g.page = some p ∧ ∀ e ∈ g.staged, e.index.val / 8 = p.val)

/-- R52: what each state of the stage buffer means. -/
def Stage.Sound (g : Stage) : Prop :=
  g.Ordered ∧ (g.staged = [] → g.page = none ∧ g.timer = none) ∧
    match g.state with
    | .empty => g.staged = [] ∧ g.write = .none ∧ g.expired = false
    | .staging => g.staged ≠ [] ∧ g.write = .none ∧ g.expired = false
    | .committing => g.write ≠ .none ∧ (g.write = .page → g.staged ≠ [] ∧ g.timer = none)

/-- R52, R185: the stage buffer is sound, and a reply place is reserved exactly while a write is in progress. -/
def State.StageSound (s : State) : Prop :=
  s.dir.stage.Sound ∧ (s.mgt.writing.isSome = true ↔ s.dir.stage.write ≠ .none)

/-- R184: a held partial command states a length of 59..116 and holds 58 bytes. -/
def State.PartialSound (s : State) : Prop :=
  ∀ p, s.mgt.held = some p → 59 ≤ p.length ∧ p.length ≤ 116 ∧ p.bytes.length = 58

/-! ## Money -/

/-- R69: every balance lies between the floor and 8,388,607. -/
def State.BalancesInRange (s : State) : Prop :=
  ∀ a, (s.account a).floor ≤ (s.account a).balance ∧ (s.account a).balance ≤ 8388607

/-- The seconds of a list of segments. -/
def secondsOf (gs : List Segment) : Nat := (gs.map (·.seconds)).sum
/-- The units of a list of segments. -/
def unitsOf (gs : List Segment) : Nat := (gs.map (·.units)).sum

/-- R108, R112: the laws of a running meter. -/
def Meter.Sound (m : Meter) : Prop :=
  m.charge = m.debited + m.excess ∧ m.charge = unitsOf m.segments ∧ m.elapsed = secondsOf m.segments ∧
    1 ≤ m.segments.length ∧ m.segments.length ≤ 3 ∧ m.accumulator < 3600 ∧ m.elapsed < m.maximum

/-- R122: the laws of a CLOSED ticket. -/
def Ticket.Sound (t : Ticket) : Prop :=
  t.charge = t.debited + t.excess ∧ t.charge = unitsOf t.segments ∧ t.elapsed = secondsOf t.segments ∧
    1 ≤ t.segments.length ∧ t.segments.length ≤ 3

/-- R106: every class has a maximum session of at least a minute. -/
def State.ClassesSound (s : State) : Prop := ∀ k : Fin 8, 1 ≤ s.cal.classes[k].maximum

/-- R108: every running meter keeps its laws. -/
def State.MetersSound (s : State) : Prop := s.ClassesSound ∧ ∀ c m, s.meter c = some m → m.Sound

/-- R122: every CLOSED ticket keeps its laws. -/
def State.TicketsSound (s : State) : Prop := ∀ r t, s.row r = .closed t → t.Sound

/-! ## Ticket serials (R152, R153) -/

/-- The serial of a CLOSED row. -/
def Row.serial : Row → Option Nat
  | .closed t => some t.serial
  | .free | .reserved _ => none

/-- R152: CLOSED rows carry distinct serials, and the counter holds a value in 1..65535 that none of them carries. -/
def State.SerialsDistinct (s : State) : Prop :=
  (∀ r r' n, (s.row r).serial = some n → (s.row r').serial = some n → r = r') ∧
    (∀ r n, (s.row r).serial = some n → n ≠ s.tickets.serial) ∧ 1 ≤ s.tickets.serial ∧ s.tickets.serial ≤ 65535

/-- R147: the close list holds each CLOSED row once. -/
def State.CloseListSound (s : State) : Prop :=
  s.tickets.closeList.Nodup ∧ ∀ r, r ∈ s.tickets.closeList ↔ (s.row r).serial.isSome = true

/-! ## The call path (R108, R125, R130) -/

/-- R130, R147: channel `c` holds the row reserved for it and line `l`. -/
def State.HoldsRow (s : State) (c : Fin 24) (l : Fin 32) (r : Fin 64) : Prop :=
  (s.channel c).row = some r ∧ match s.row r with
    | .reserved x => x.channel = c ∧ x.line = l
    | .free | .closed _ => False

/-- R130: an OFFERED channel and its line name each other, and the row stands reserved. -/
def State.OfferStands (s : State) (c : Fin 24) (l : Fin 32) : Prop :=
  (s.channel c).line = some l ∧ (s.line l).state = .offered ∧ (s.line l).channel = some c ∧
    (s.line l).admission.isSome = true ∧ ∃ r, s.HoldsRow c l r

/-- R108, R130: a CONNECTED channel, its line, its row and its meter agree. -/
def State.SessionStands (s : State) (c : Fin 24) (l : Fin 32) : Prop :=
  (s.channel c).line = some l ∧ (s.line l).state = .connected ∧ (s.line l).channel = some c ∧
    ∃ m a, s.meter c = some m ∧ (s.line l).admission = some a ∧ m.line = l ∧ m.account = a.account ∧ s.HoldsRow c l m.row

/-- R108, R130: what a channel's state says of its line, its row, its meter and its timer, which runs in OFFERED and CLOSING alone. -/
def State.ChannelCoherent (s : State) (c : Fin 24) : Prop :=
  match (s.channel c).state with
  | .offered => s.meter c = none ∧ ∃ l, s.OfferStands c l
  | .connected => (s.channel c).timer = none ∧ ∃ l, s.SessionStands c l
  | .free => s.meter c = none ∧ (s.channel c).row = none ∧ (s.channel c).line = none ∧ (s.channel c).timer = none
  | .closing => s.meter c = none ∧ (s.channel c).row = none
  | .quarantined => s.meter c = none ∧ (s.channel c).row = none ∧ (s.channel c).timer = none

/-- R16, R46, R84 to R86, R130: what a line's state says of its channel and its admission. -/
def State.LineCoherent (s : State) (l : Fin 32) : Prop :=
  match (s.line l).state with
  | .offered => ∃ c, (s.line l).channel = some c ∧ (s.channel c).state = .offered ∧ (s.channel c).line = some l
  | .connected => ∃ c, (s.line l).channel = some c ∧ (s.channel c).state = .connected ∧ (s.channel c).line = some l
  | .waiting => (s.line l).channel = none ∧ (s.line l).admission.isSome = true
  | .idle | .ringing | .answering | .signon | .checking | .draining | .clearing | .blocked =>
    (s.line l).channel = none ∧ (s.line l).admission = none

/-- R147 to R149, R156: a RESERVED row is held by the channel it names, with its start stamp once the channel is CONNECTED. -/
def State.RowCoherent (s : State) (r : Fin 64) : Prop :=
  match s.row r with
  | .reserved x =>
    (s.channel x.channel).row = some r ∧
      ((s.channel x.channel).state = .offered ∧ x.start = none ∨ (s.channel x.channel).state = .connected ∧ x.start.isSome = true)
  | .free | .closed _ => True

/-- R125: the queue holds exactly the lines in WAITING, each once, with every priority waiter ahead of every other. -/
def State.QueueCoherent (s : State) : Prop :=
  (s.queue.map (·.line)).Nodup ∧ (∀ l, (∃ w ∈ s.queue, w.line = l) ↔ (s.line l).state = .waiting) ∧
    s.queue.Pairwise fun a b => b.priority = true → a.priority = true

/-- The number of lines that hold an admission naming account `a`. -/
def State.admissionsOf (s : State) (a : Fin 256) : Nat :=
  (allLines.filter fun l => match (s.line l).admission with
    | some x => decide (x.account = a)
    | none => false).length

/-- Section 4.6: every account's open count is the number of lines that hold an admission naming it. -/
def State.OpenCountsExact (s : State) : Prop := ∀ a, (s.account a).openCount = s.admissionsOf a

/-- R31, R35: a lookup in flight, not discarded, belongs to a line in CHECKING. -/
def State.LookupsStand (s : State) : Prop := ∀ l, (s.line l).dialogue.lookup = .inFlight → (s.line l).state = .checking

/-- The call path is coherent: channels, lines, rows, queue, lookups and open counts agree. -/
def State.Coherent (s : State) : Prop :=
  (∀ c, s.ChannelCoherent c) ∧ (∀ l, s.LineCoherent l) ∧ (∀ r, s.RowCoherent r) ∧ s.QueueCoherent ∧ s.LookupsStand ∧
    s.OpenCountsExact

/-! ## What the statements name -/

/-- R183 to R185: the part runs, no partial command is held, and the reply FIFO, with a place for a write in progress, is not full, so a command block goes to its owner. -/
def State.Ready (s : State) : Prop :=
  s.inReset = false ∧ s.mgt.held = none ∧ s.mgt.replies.length + (if s.mgt.writing.isSome then 1 else 0) < 16

/-- R51: a lookup of `code` waits for the page commit in progress: the code is that of a stored entry of its page, or of a staged entry. -/
def Directory.DefersCode (d : Directory) (code : List Byte) : Prop :=
  d.stage.write = .page ∧ ∃ p : Fin 128, d.stage.page = some p ∧
    ((∃ k < 8, (d.entry (8 * p.val + k)).code = code) ∨ ∃ e ∈ d.stage.staged, e.code = code)

/-- R185: one reply more, at the tail of the reply FIFO. -/
def State.replied (s : State) (tag code : Byte) (r : Result) (data : List Byte) : State :=
  { s with mgt := { s.mgt with replies := s.mgt.replies ++ [⟨tag, code, r, data⟩] } }

/-- R5: descriptor `k` is enabled and its span includes line `l`. -/
def State.CoversAt (s : State) (l : Fin 32) (k : Fin 4) : Prop :=
  s.groups[k].enabled = true ∧ s.groups[k].firstLine ≤ l.val ∧ l.val < s.groups[k].firstLine + s.groups[k].size

/-- R5: what line `l` captures as it leaves IDLE: the lowest-numbered descriptor that covers it, or none. -/
def State.CapturesAt (s : State) (l : Fin 32) (g : Option (Fin 4)) : Prop :=
  match g with
  | some k => s.CoversAt l k ∧ ∀ j, j < k → ¬ s.CoversAt l j
  | none => ∀ j, ¬ s.CoversAt l j

/-- R8: the five answer conditions for captured group `k` and a ring count of `n`. -/
def State.AnswersAt (s : State) (k : Fin 4) (n : Nat) : Prop :=
  s.groups[k].ringCount ≠ 0 ∧ s.groups[k].ringCount ≤ n ∧ s.mgt.service = .opened ∧ s.trunk.up = true ∧
    s.groups[k].answerMask.getLsbD s.cal.period.val = true

/-- R17: a line of group `g` after a candidate activity event of kind `k` at time `now`. -/
def Line.supervised (g : Group) (now k : Nat) (ln : Line) : Line :=
  if ln.timers.idle.isSome = true ∧ g.activity.getLsbD k = true then
    { ln with
      idleWarned := false
      timers := { ln.timers with idle := if g.idleWarn = 0 then none else some (now + g.idleWarn * 600) } }
  else ln

/-- The line after the dialogue has placed message text `text` as a refusal line and ended (R27, R26), with the lookup field as given. -/
def Line.refused (text : List Byte) (k : Lookup) (ln : Line) : Line :=
  { ln.placeAll (framedText text) with dialogue := { ln.dialogue with phase := .none, user := [], password := [], lookup := k } }

/-- R53, R47: a user code field: characters from A–Z and 0–9 from the left, padded on the right with spaces to 6. -/
def CodeField (cs : List Byte) : Prop :=
  ∃ a n, cs = a ++ List.replicate n 0x20 ∧ a.length + n = 6 ∧
    ∀ c ∈ a, (0x41 ≤ c.toNat ∧ c.toNat ≤ 0x5A) ∨ (0x30 ≤ c.toNat ∧ c.toNat ≤ 0x39)

/-- R53, R47: a password field: characters from 0x21..0x7E from the left, padded on the right with spaces to 8. -/
def PasswordField (cs : List Byte) : Prop :=
  ∃ a n, cs = a ++ List.replicate n 0x20 ∧ a.length + n = 8 ∧ ∀ c ∈ a, 0x21 ≤ c.toNat ∧ c.toNat ≤ 0x7E

/-- R57: index `i` carries the code, staged, or stored outside the staged set. -/
def Directory.Carries (d : Directory) (i : Nat) (code : List Byte) : Prop :=
  (∃ y ∈ d.stage.staged, y.index.val = i ∧ y.code = code) ∨ ((∀ y ∈ d.stage.staged, y.index.val ≠ i) ∧ (d.entry i).code = code)

/-- R57: the non-empty code of staged entry `e` is carried by another index. -/
def Directory.Conflict (d : Directory) (e : Staged) : Prop :=
  e.code ≠ List.replicate 6 0x20 ∧ ∃ i, i ≠ e.index.val ∧ d.Carries i e.code

/-- R55: the stage timer after a STAGE ENTRY or a COMMIT PAGE that is refused: restarted while the buffer is STAGING. -/
def State.timerRestarted (s : State) : State :=
  if s.dir.stage.state = .staging then { s with dir := { s.dir with stage := { s.dir.stage with timer := some (s.now + 300) } } }
  else s

/-! ### The calendar -/

/-- R100 step 3: schedule entry `i` qualifies. -/
def Calendar.Qualifies (c : Calendar) (i : Fin 16) : Prop :=
  c.schedule[i].enabled = true ∧ c.schedule[i].weekdays.getLsbD c.weekday = true ∧
    c.schedule[i].hour * 60 + c.schedule[i].minute ≤ c.clock.hours * 60 + c.clock.minutes

/-- R100 step 4: entry `j` governs no later than entry `i`: an earlier time, or the same time and no lower number. -/
def Calendar.Yields (c : Calendar) (i j : Fin 16) : Prop :=
  c.schedule[j].hour * 60 + c.schedule[j].minute < c.schedule[i].hour * 60 + c.schedule[i].minute ∨
    (c.schedule[j].hour * 60 + c.schedule[j].minute = c.schedule[i].hour * 60 + c.schedule[i].minute ∧ i ≤ j)

/-- R100: period evaluation gives period `p`. -/
def Calendar.Gives (c : Calendar) (p : Fin 8) : Prop :=
  (c.valid = false → p = 0) ∧
    (c.valid = true →
      (∀ i, c.Qualifies i → (∀ j, c.Qualifies j → c.Yields i j) → p = c.schedule[i].period) ∧
        ((∀ i, ¬ c.Qualifies i) → ∀ w : Fin 7, w.val = c.weekday → p = c.dayStart[w]))

/-- R97: the holiday flag and the effective weekday for the date as it stands, holiday weekday `hw`. -/
def Calendar.withDay (hw : Nat) (c : Calendar) : Calendar :=
  let h : Bool := decide (c.valid = true ∧ ∃ i : Fin 16, c.holidays[i] = some (c.clock.month, c.clock.day))
  { c with holiday := h, weekday := if c.valid = false then 0 else if h then hw else c.clock.weekday }

/-- R101, R102: the calendar after an evaluation that gave `p`; the minute used is 0 while the clock is invalid. -/
def Calendar.evaluated (p : Fin 8) (c : Calendar) : Calendar :=
  { c with period := p, minute := if c.valid then c.clock.hours * 60 + c.clock.minutes else 0 }

/-- R113: the segments `gs ++ [g]` after the current period becomes `q`. -/
def segmentsAt (q : Nat) (gs : List Segment) (g : Segment) : List Segment :=
  if g.period = q then gs ++ [g]
  else if gs.length < 2 then gs ++ [g, ⟨q, 0, 0⟩]
  else gs ++ [{ g with period := 15 }]

/-- R125, R105: line `l` waits with a class that `ks` marks and whose permit in force is not OPEN. -/
def State.dismisses (s : State) (ks : Fin 8 → Bool) (l : Fin 32) : Bool :=
  decide ((s.line l).state = .waiting) && match (s.line l).admission with
    | some a => ks a.cls && decide (s.cal.permits[s.cal.period][a.cls] ≠ .opened)
    | none => false

/-- R118, R119: the running meter `m` starts to expel its line. -/
def State.expels (s : State) (ks : Fin 8 → Bool) (m : Meter) : Bool :=
  ks m.cls && decide (s.cal.permits[s.cal.period][m.cls] = .expel) && m.expel.isNone

/-- R105: `t` is what permit reports for the classes that `ks` marks make of `s`: the waiters of a class no longer OPEN leave with M6 (its value 0: log 39), the sessions of a class now EXPEL get M18 and their timer, and a class now OPEN or CLOSED stops the expel timers of its sessions. -/
def State.Reported (s : State) (ks : Fin 8 → Bool) (t : State) : Prop :=
  t = { s with
    lines := t.lines
    meters := t.meters
    accounts := t.accounts
    queue := s.queue.filter (fun w => !s.dismisses ks w.line)
    mgt := { s.mgt with service :=
      if (∃ l, s.dismisses ks l = true) ∧ s.mgt.service = .draining ∧
          ∀ l, (t.line l).admission = none ∧ (t.line l).state ≠ .signon ∧ (t.line l).state ≠ .checking then .closed
      else s.mgt.service } } ∧
  (∀ l, t.line l =
    if s.dismisses ks l then
      { Line.request s.now 6 0 (s.line l) with
        state := .draining, admission := none, channel := none
        timers := { (s.line l).timers with signOn := none, idle := none, drain := some (s.now + 100) } }
    else if ∃ c, ((s.meter c).any fun m => decide (m.line = l) && s.expels ks m) = true then
      Line.request s.now 18 s.params.expelGrace (s.line l)
    else s.line l) ∧
  (∀ a, t.account a = { s.account a with openCount := (s.account a).openCount -
    ((List.finRange 32).filter fun l => s.dismisses ks l && ((s.line l).admission.any fun x => decide (x.account = a))).length }) ∧
  ∀ c, t.meter c = (s.meter c).map fun m =>
    if s.expels ks m then { m with expelNoticed := true, expel := some (s.now + s.params.expelGrace * 600) }
    else if ks m.cls = true ∧ s.cal.permits[s.cal.period][m.cls] ≠ .expel then { m with expel := none }
    else m

/-! ### Money and sessions -/

/-- R71, R73, R81: record `x` put in account `a`; when it leaves the balance above the floor, every exhausted session of the account is restored. -/
def State.withAccount (s : State) (a : Fin 256) (x : Account) : State :=
  { s with
    accounts := s.accounts.set a x
    meters :=
      if -(x.overdraft : Int) < x.balance then
        Vector.ofFn fun c => (s.meter c).map fun m =>
          if m.account = a ∧ m.exhausted = true then { m with exhausted := false, grace := none } else m
      else s.meters }

/-- R79: the lines of the running meters that charge account `a` get M16 with value `v`. -/
def State.warned (s : State) (a : Fin 256) (v : Int) : State :=
  { s with lines := Vector.ofFn fun l =>
      if ∃ c, ((s.meter c).any fun m => decide (m.line = l) && decide (m.account = a)) = true then Line.request s.now 16 v (s.line l)
      else s.line l }

/-- R112, R76, R79: `n` units charged by the meter `m` of channel `c`, whose segments are `gs ++ [g]`: the charge, the debit as far as the account pays it, the excess, and the low-balance warning. -/
def State.chargedWith (s : State) (c : Fin 24) (m : Meter) (gs : List Segment) (g : Segment) (n : Nat) : State :=
  let x := s.account m.account
  let paid := min n (x.balance + x.overdraft).toNat
  let b := x.balance - paid
  let s1 : State := { s with meters := s.meters.set c (some { m with
    charge := m.charge + n, debited := m.debited + paid, excess := m.excess + (n - paid)
    segments := gs ++ [{ g with units := g.units + n }] }) }
  if b < x.warn ∧ x.warned = false then
    { s1 with accounts := s.accounts.set m.account { x with balance := b, warned := true } }.warned m.account b
  else { s1 with accounts := s.accounts.set m.account { x with balance := b } }

/-- R152: the serial `k` steps after `n`. -/
def serialAfter (n k : Nat) : Nat := (n - 1 + k) % 65535 + 1

/-- The line after the session-closed request (R16), its admission gone: M19 except for HOST LOGOFF and CARRIER LOST, and DRAINING except for CARRIER LOST. -/
def Line.ended (now : Nat) (why : CloseReason) (ln : Line) : Line :=
  match why with
  | .carrierLost => { ln with admission := none, channel := none }
  | .hostLogoff | .idle | .timeLimit | .budget | .expelled | .operator | .hostLost | .restart =>
    { (if why = .hostLogoff then ln else Line.request now 19 why.code ln) with
      state := .draining, rx := [], admission := none, channel := none
      timers := { ln.timers with signOn := none, idle := none, drain := some (now + 100) } }

/-- R138, R139: the channel after a close with reason `why`. -/
def Channel.ended (timeout : Nat) (why : CloseReason) (x : Channel) : Channel :=
  match why with
  | .hostLogoff | .hostLost =>
    { x with state := .free, line := none, row := none, hostFlow := .go, timer := none, lastClose := why.code }
  | .carrierLost | .idle | .timeLimit | .budget | .expelled | .operator | .restart =>
    { x with state := .closing, row := none, hostFlow := .go, timer := some timeout, lastClose := why.code }

/-- R138, R139, R175: the control queue after a close with reason `why` on channel `c`: its FLOW and BREAK gone, its CLOSED or CLOSE joined. -/
def controlsEnded (c : Fin 24) (why : CloseReason) (q : List Control) : List Control :=
  let q := q.filter fun x => decide (x.channel ≠ c) || decide (x.kind.slot = 0)
  match why with
  | .hostLogoff => joinControls q ⟨c, .closed⟩
  | .hostLost => q
  | .carrierLost | .idle | .timeLimit | .budget | .expelled | .operator | .restart => joinControls q ⟨c, .close why⟩

/-- R11, R12, R20: the line on its way out, DRAINING with the drain timer at 10 s. -/
def Line.draining (now : Nat) (ln : Line) : Line :=
  { ln with state := .draining, timers := { ln.timers with signOn := none, idle := none, drain := some (now + 100) } }

/-- R12: the line in CLEARING. -/
def Line.clearing (now : Nat) (ln : Line) : Line :=
  { ln with
    state := .clearing, rx := [], tx := [], notices := [], sending := none, idleWarned := false
    timers := ⟨none, none, none, none, none, none, some (now + 20)⟩ }

/-- R196: three bytes, two's complement, high byte first. -/
def threeBytes (v : Int) : List Byte :=
  let w := BitVec.ofInt 24 v
  [w.extractLsb' 16 8, w.extractLsb' 8 8, w.extractLsb' 0 8]

/-! ### Load monitor -/

/-- R160 to R162: watch `w` after a sample of value `v`. The clearing limits are signed, so `v ≤ U - h` is written `v + h ≤ U`. -/
def Watch.sampled (w : Watch) (v : Nat) : Watch :=
  let high : Bool := if w.high then !decide (v + w.hysteresis ≤ w.upper) else decide (w.upper < v)
  let low : Bool := if w.low then decide (v < w.lower + w.hysteresis) else decide (v < w.lower)
  let crit : Bool := if w.crit then decide (w.critical ≤ v + w.hysteresis) else decide (w.critical ≤ v)
  if w.enabled then
    { w with
      value := v, high := high, low := low, crit := crit
      event := match w.mode with
        | .comparator => high || low || crit
        | .criticalOnly => crit
        | .latched => high || low || crit || w.event }
  else { w with value := v }

/-- R160: the quantity that each watch samples; W2 is RESERVED plus CLOSED rows (log 38). -/
def State.sampledQuantity (s : State) (k : Fin 4) : Nat :=
  match k with
  | 0 => ((List.finRange 32).filter fun l => decide ((s.line l).state ∉ [.idle, .ringing, .blocked])).length
  | 1 => s.queue.length
  | 2 => ((List.finRange 64).filter fun r => decide (s.row r ≠ .free)).length
  | 3 => ((List.finRange 24).filter fun c => decide ((s.channel c).state ≠ .free)).length

/-! ### Teardown (R172, R192, R193) -/

/-- The line after a teardown with refusal text `text`, but for its notices and its dropped-notice count. -/
def Line.torn (now : Nat) (text : List Byte) (ln : Line) : Line :=
  match ln.state with
  | .signon | .checking =>
    Line.draining now (ln.refused text (if ln.dialogue.lookup = .inFlight then .discarded else ln.dialogue.lookup))
  | .waiting | .offered => Line.draining now { ln with admission := none, channel := none }
  | .connected => Line.draining now { ln with rx := [], admission := none, channel := none }
  | .idle | .ringing | .answering | .draining | .clearing | .blocked => ln

/-- R172, R192, R16: `t` is line `ln` after a teardown with message `m` and close reason `why`: a waiting or offered line got `m`; a connected one got `m` and after it M19 with the reason, and, where the closing debit of a session took its account below the warn threshold (R79), an M16 before the M19. The value 0 of `m` is the model's choice (log 39). -/
def Line.TornDown (now : Nat) (m : Fin 24) (text : List Byte) (why : CloseReason) (ln t : Line) : Prop :=
  match ln.state with
  | .waiting | .offered =>
    t = { ln.torn now text with notices := (Line.request now m 0 ln).notices, counters := (Line.request now m 0 ln).counters }
  | .connected =>
    ∃ told : Line, (told = Line.request now m 0 ln ∨
        ∃ v : Int, told = Line.request now 16 v (Line.request now m 0 ln) ∨ told = Line.request now m 0 (Line.request now 16 v ln)) ∧
      t = { ln.torn now text with
        notices := (Line.request now 19 why.code told).notices, counters := (Line.request now 19 why.code told).counters }
  | .idle | .ringing | .answering | .signon | .checking | .draining | .clearing | .blocked => t = ln.torn now text

/-- R158, R172, R192, R193: what every teardown makes of the accounts, the meters, the queue and the ticket table: no admission is left, every session has its ticket with reason `why`, in channel order, and every offered row is free; an account keeps all but its open count and what a closing debit does, and the serial counter moves only when a session closes. -/
def State.TornDown (s : State) (why : CloseReason) (t : State) : Prop :=
  t.mgt.service = .closed ∧ t.queue = [] ∧ (∀ c, t.meter c = none) ∧
    (∀ l, (t.line l).admission = none ∧ (t.line l).channel = none) ∧
    (∀ a, t.account a = { s.account a with balance := (t.account a).balance, warned := (t.account a).warned, openCount := 0 }) ∧
    (∀ a, (∀ c, ((s.meter c).any fun m => decide (m.account = a)) = false) → t.account a = { s.account a with openCount := 0 }) ∧
    ((∀ c, s.meter c = none) → t.tickets.serial = s.tickets.serial) ∧
    t.tickets.closeList = s.tickets.closeList ++ (List.finRange 24).filterMap (fun c => (s.meter c).map (·.row)) ∧
    ∀ r, match s.row r with
      | .free => t.row r = .free
      | .closed x => t.row r = .closed x
      | .reserved x =>
        if (s.channel x.channel).state = .connected then
          match t.row r with
          | .closed y => y.reason = why ∧ y.line = x.line ∧ y.user = x.user ∧ y.account = x.account ∧ y.cls = x.cls ∧ y.start = x.start
          | .free | .reserved _ => False
        else t.row r = .free

/-- R172 step 3, R192 step 2, R33: every line in SIGNON or CHECKING with `text` placed as a refusal line, its dialogue ended and the line DRAINING. -/
def State.dialoguesEnded (text : List Byte) (s : State) : State :=
  { s with lines := Vector.ofFn fun l =>
      if (s.line l).state ∈ [.signon, .checking] then (s.line l).torn s.now text else s.line l }

/-- R129, R172 step 4, R192 step 3: every waiter out of the queue with message `m` (its value 0: log 39), its admission and its account's count with it, and its line DRAINING. -/
def State.waitersRemoved (m : Fin 24) (s : State) : State :=
  { s with
    queue := []
    lines := Vector.ofFn fun l =>
      if (s.line l).state = .waiting then
        Line.draining s.now { Line.request s.now m 0 (s.line l) with admission := none, channel := none }
      else s.line l
    accounts := Vector.ofFn fun a => { s.account a with openCount := (s.account a).openCount -
      ((List.finRange 32).filter fun l => decide ((s.line l).state = .waiting) && (s.line l).admission.any fun x => decide (x.account = a)).length } }

/-- R137: the offer of channel `c` to line `l` with account `a` and row `r` ends with message `m` (its value 0: log 39); the channel becomes `k` and the control queue `q`. -/
def State.offerDropped (m : Fin 24) (c : Fin 24) (l : Fin 32) (a : Fin 256) (r : Fin 64) (k : Channel) (q : List Control) (s : State) : State :=
  { s with
    tickets := { s.tickets with rows := s.tickets.rows.set r .free }
    accounts := s.accounts.set a { s.account a with openCount := (s.account a).openCount - 1 }
    lines := s.lines.set l (Line.draining s.now { Line.request s.now m 0 (s.line l) with admission := none, channel := none })
    channels := s.channels.set c k
    trunk := { s.trunk with controls := q } }

/-- R172 step 5 (`why` HOST LOST), R192 step 4 and R193 (another reason): what a teardown with message `m` (its value 0: log 39) does at channel `c`: an offer is dropped, without a control at trunk loss and else with a CLOSE; a session's line gets `m` and the session is closed with `why`; at trunk loss a CLOSING or QUARANTINED channel becomes FREE. -/
def State.channelDown (m : Fin 24) (why : CloseReason) (s : State) (c : Fin 24) : State :=
  let k := s.channel c
  let freed : Channel := { k with state := .free, line := none, row := none, timer := none }
  match k.state, k.line with
  | .offered, some l =>
    match (s.line l).admission, k.row with
    | some a, some r =>
      if why = .hostLost then s.offerDropped m c l a.account r freed s.trunk.controls
      else s.offerDropped m c l a.account r { k with state := .closing, row := none, timer := some (s.now + s.params.close * 10) }
        (joinControls s.trunk.controls ⟨c, .close why⟩)
    | _, _ => s
  | .connected, some l => closeSession c why { s with lines := s.lines.set l (Line.request s.now m 0 (s.line l)) }
  | .closing, _ | .quarantined, _ => if why = .hostLost then { s with channels := s.channels.set c freed } else s
  | .free, _ | .offered, none | .connected, none => s

/-- R172 steps 3 to 5, R192 steps 2 to 4: the dialogues, then the waiters, then the channels in channel order. -/
def State.callsEnded (m : Fin 24) (why : CloseReason) (s : State) : State :=
  (List.finRange 24).foldl (State.channelDown m why) ((s.dialoguesEnded (s.message m)).waitersRemoved m)

/-! ### The trunk -/

/-- R176: the data segments of one turn: each channel in its order with the number of characters its segment takes, `space` payload bytes being left. -/
def State.schedule (s : State) : List (Fin 24) → Nat → List (Fin 24 × Fin 32 × Nat)
  | [], _ => []
  | c :: cs, space =>
    if (s.channel c).state = .connected ∧ (s.channel c).hostFlow = .go ∧ 3 ≤ space then
      match (s.channel c).line with
      | some l =>
        let n := min (space - 2) (min 59 (s.line l).rx.length)
        if (s.line l).rx = [] then s.schedule cs space else (c, l, n) :: s.schedule cs (space - 2 - n)
      | none => s.schedule cs space
    else s.schedule cs space

/-- R177, R199: the bytes of a delivery row's segment. -/
def segmentOf : Instr → Option (List Byte)
  | .dataSegment c cs => if 1 ≤ cs.length ∧ cs.length ≤ 59 then some (byteOf (c.val + 1) :: byteOf cs.length :: cs) else none
  | .accept c => some [byteOf (0x41 + c.val), 0x02]
  | .reject c a => some [byteOf (0x41 + c.val), 0x03, a]
  | .close c => some [byteOf (0x41 + c.val), 0x04]
  | .closed c => some [byteOf (0x41 + c.val), 0x05]
  | .flow c go => some [byteOf (0x41 + c.val), 0x06, if go then 1 else 0]
  | _ => none

/-- R177, R199: `bs`, the rest of a payload from a segment-header position to byte 61, begins with a malformed segment: a bad header; a data segment with a count of 0 or above 59, or longer than what is left; a control segment with a code outside the five, without the argument its code requires, or a FLOW that is neither STOP nor GO. -/
def MalformedSegment (bs : List Byte) : Prop :=
  ∃ h t, bs = h :: t ∧
    let data := 1 ≤ h.toNat ∧ h.toNat ≤ 24
    let control := 0x41 ≤ h.toNat ∧ h.toNat ≤ 0x58
    (h ≠ 0 ∧ ¬ data ∧ ¬ control) ∨
    (data ∧ (t = [] ∨ ∃ n u, t = n :: u ∧ (n = 0 ∨ 59 < n.toNat ∨ u.length < n.toNat))) ∨
    (control ∧ (t = [] ∨ ∃ k u, t = k :: u ∧
      (k ∉ [0x02, 0x03, 0x04, 0x05, 0x06] ∨ (k ∈ [0x03, 0x06] ∧ u = []) ∨ (k = 0x06 ∧ ∃ a v, u = a :: v ∧ 1 < a.toNat))))

/-- R174, R199: the bytes of an upward control segment. -/
def upwardSegment (x : Control) : List Byte :=
  byteOf (0x41 + x.channel.val) :: match x.kind with
    | .opened l user account cls =>
      0x01 :: byteOf l.val :: (user ++ List.replicate 6 0x20).take 6 ++ [byteOf account.val, byteOf cls.val]
    | .close why => [0x04, byteOf why.code]
    | .closed => [0x05]
    | .flow .stop => [0x06, 0]
    | .flow .go => [0x06, 1]
    | .lineBreak => [0x07]

/-- The rows given taken one after another, from a part that runs. -/
def runRows : List Instr → State → State
  | [], s => s
  | i :: is, s =>
    match exec i s with
    | .next t => runRows is t
    | .fault _ | .refused _ => s

/-- R196: a 2-byte field, high byte first. -/
def halfBytes (h : Half) : List Byte := [h.extractLsb' 8 8, h.extractLsb' 0 8]
/-- R196: a 3-byte field, high byte first. -/
def wideBytes (t : Triple) : List Byte := [t.extractLsb' 16 8, t.extractLsb' 8 8, t.extractLsb' 0 8]

/-- R200, R203: the command block of a command row: its tag, its code, its stated parameter length and its parameter bytes. -/
def blockOf : Instr → Option CommandBlock
  | .unknownCommand t c => some ⟨t, c, 0, []⟩
  | .continuation t c n bs _ => some ⟨t, c, n.toNat, bs⟩
  | .loadGroup t g e f z r ta tc l k w x m y p => some ⟨t, 0x10, 14, [g, e, f, z, r, ta, tc, l, k, w, x, m, y, p]⟩
  | .loadMessage t n l cs => some ⟨t, 0x11, 2 + cs.length, n :: l :: cs⟩
  | .broadcast t l cs => some ⟨t, 0x12, 1 + cs.length, l :: cs⟩
  | .lineOutOfService t l => some ⟨t, 0x13, 1, [l]⟩
  | .lineReturn t l => some ⟨t, 0x14, 1, [l]⟩
  | .forceClear t l => some ⟨t, 0x15, 1, [l]⟩
  | .readLine t l _ => some ⟨t, 0x16, 1, [l]⟩
  | .stageEntry t i u k p a c e => some ⟨t, 0x20, 20, halfBytes i ++ u ++ [k] ++ p ++ [a, c, e]⟩
  | .commitPage t => some ⟨t, 0x21, 0, []⟩
  | .discardStage t => some ⟨t, 0x22, 0, []⟩
  | .readEntry t i => some ⟨t, 0x23, 2, halfBytes i⟩
  | .findUser t u => some ⟨t, 0x24, 6, u⟩
  | .unlockUser t i => some ⟨t, 0x25, 2, halfBytes i⟩
  | .protectBlock t b => some ⟨t, 0x26, 1, [b]⟩
  | .protectTariffs t => some ⟨t, 0x27, 0, []⟩
  | .unprotectAll t _ => some ⟨t, 0x28, 0, []⟩
  | .readProtection t _ => some ⟨t, 0x29, 0, []⟩
  | .setAccount t a st b o w l => some ⟨t, 0x30, 12, [a, st] ++ wideBytes b ++ wideBytes o ++ wideBytes w ++ [l]⟩
  | .setAccountState t a st => some ⟨t, 0x31, 2, [a, st]⟩
  | .creditAccount t a n => some ⟨t, 0x32, 4, a :: wideBytes n⟩
  | .readAccount t a => some ⟨t, 0x33, 1, [a]⟩
  | .setClock t a b c d e f g => some ⟨t, 0x40, 7, [a, b, c, d, e, f, g]⟩
  | .readClock t => some ⟨t, 0x41, 0, []⟩
  | .loadParameters t a b c d e f g h i j k l => some ⟨t, 0x42, 12, [a, b, c, d, e, f, g, h, i, j, k, l]⟩
  | .loadHoliday t e m d => some ⟨t, 0x43, 3, [e, m, d]⟩
  | .readHoliday t e => some ⟨t, 0x44, 1, [e]⟩
  | .loadSchedule t e o w h m p => some ⟨t, 0x45, 6, [e, o, w, h, m, p]⟩
  | .readSchedule t e => some ⟨t, 0x46, 1, [e]⟩
  | .loadDaystart t w p => some ⟨t, 0x47, 2, [w, p]⟩
  | .readDaystart t => some ⟨t, 0x48, 0, []⟩
  | .loadRate t p c r => some ⟨t, 0x49, 4, [p, c] ++ halfBytes r⟩
  | .readRate t p => some ⟨t, 0x4A, 1, [p]⟩
  | .loadPermit t p c x => some ⟨t, 0x4B, 3, [p, c, x]⟩
  | .readPermit t p => some ⟨t, 0x4C, 1, [p]⟩
  | .loadClass t c s m g p e => some ⟨t, 0x4D, 7, [c, s] ++ halfBytes m ++ [g, p, e]⟩
  | .readClass t c => some ⟨t, 0x4E, 1, [c]⟩
  | .readPeriod t => some ⟨t, 0x4F, 0, []⟩
  | .setChannelPriority t c f => some ⟨t, 0x50, 2, [c, f]⟩
  | .clearChannel t c => some ⟨t, 0x51, 1, [c]⟩
  | .readChannel t c => some ⟨t, 0x52, 1, [c]⟩
  | .readQueue t => some ⟨t, 0x53, 0, []⟩
  | .fetchTicket t => some ⟨t, 0x60, 0, []⟩
  | .releaseTicket t n => some ⟨t, 0x61, 2, halfBytes n⟩
  | .readTicketCounts t => some ⟨t, 0x62, 0, []⟩
  | .loadWatch t w e m u l k h => some ⟨t, 0x70, 7, [w, e, m, u, l, k, h]⟩
  | .readWatch t w => some ⟨t, 0x71, 1, [w]⟩
  | .ackAlert t w => some ⟨t, 0x72, 1, [w]⟩
  | .openService t => some ⟨t, 0x80, 0, []⟩
  | .drainService t => some ⟨t, 0x81, 0, []⟩
  | .closeService t => some ⟨t, 0x82, 0, []⟩
  | .restart t => some ⟨t, 0x83, 0, []⟩
  | .readParameters t => some ⟨t, 0x84, 0, []⟩
  | .readCounters t => some ⟨t, 0x85, 0, []⟩
  | .powerOn _ | .resetN _ | .resetNRelease | .ringBurst _ | .dcdUp _ | .dcdDown _ | .characterReceived _ _ | .lineBreak _ | .characterSent _
  | .noticeBegin _ | .noticeEnd _ | .prompt _ | .lineDrainEnd _ | .ringGapExpiry _ | .answerTimerExpiry _ | .signOnTimerExpiry _ | .carrierLoss _
  | .drainTimerExpiry _ | .guardTimerExpiry _ | .idleTimerExpiry _ | .lookupCompletion _ | .grant | .noticeTimerExpiry _ | .waitExpiry _
  | .offerTimeout _ | .closeTimeout _ | .graceExpiry _ | .expelExpiry _ | .stageExpiry | .writeCompletion | .protectionWriteCompletion
  | .secondBoundary _ | .sampleExpiry | .trunkLoss | .downwardBlock _ _ | .dataSegment _ _ | .accept _ | .reject _ _ | .close _ | .closed _
  | .flow _ _ | .upwardBlock | .serviceBlock => none

/-- R200: the parameter length that each command of the index requires; none for the two commands with a text (R183 step 5). -/
def requiredLength (code : Byte) : Option Nat :=
  if code ∈ [0x21, 0x22, 0x27, 0x28, 0x29, 0x41, 0x48, 0x4F, 0x53, 0x60, 0x62, 0x80, 0x81, 0x82, 0x83, 0x84, 0x85] then some 0
  else if code ∈ [0x13, 0x14, 0x15, 0x16, 0x26, 0x33, 0x44, 0x46, 0x4A, 0x4C, 0x4E, 0x51, 0x52, 0x71, 0x72] then some 1
  else if code ∈ [0x23, 0x25, 0x31, 0x47, 0x50, 0x61] then some 2
  else if code ∈ [0x43, 0x4B] then some 3
  else if code ∈ [0x32, 0x49] then some 4
  else if code ∈ [0x24, 0x45] then some 6
  else if code ∈ [0x40, 0x4D, 0x70] then some 7
  else if code ∈ [0x30, 0x42] then some 12
  else if code = 0x10 then some 14
  else if code = 0x20 then some 20
  else none

/-- R183 step 5: a parameter length, of 58 at most, that is not what the command requires: the fixed one, or that of the text whose length the second (LOAD MESSAGE) or the first (BROADCAST) parameter byte gives. -/
def CommandBlock.WrongLength (b : CommandBlock) : Prop :=
  (∃ n, requiredLength b.code = some n ∧ b.length ≠ n) ∨
  (b.code = 0x11 ∧ (b.length < 2 ∨ b.length ≠ 2 + (b.bytes.getD 1 0).toNat)) ∨
  (b.code = 0x12 ∧ (b.length < 1 ∨ b.length ≠ 1 + (b.bytes.getD 0 0).toNat))

/-- Log 5: the input levels that a command row states agree with those of its block. -/
def LevelsAgree (lv : InputLevels) (s : State) : Instr → Prop
  | .unprotectAll _ key | .readProtection _ key => key = lv.key
  | .readLine _ line ring => line.toNat < 32 → ring = lv.ring.getLsbD line.toNat
  | .continuation _ _ _ _ levels => levels = lv
  | .unknownCommand _ _ => s.levels = lv
  | _ => True

/-- R171: the trunk after a valid block: UP, the trunk-loss timer at 3 s, and "trunk restarted" set when it was DOWN. -/
def State.heard (s : State) : State :=
  { s with
    trunk := { s.trunk with up := true, lossTimer := some (s.now + 30) }
    mgt := { s.mgt with sticky := { s.mgt.sticky with restarted := s.mgt.sticky.restarted || !s.trunk.up } } }

/-- R141, R177, R178: one protocol error more, with the sticky warning. -/
def State.warnedOfProtocol (s : State) : State :=
  { s with
    trunk := { s.trunk with counters := { s.trunk.counters with
      protocol := if s.trunk.counters.protocol < 65535 then s.trunk.counters.protocol + 1 else s.trunk.counters.protocol } }
    mgt := { s.mgt with sticky := { s.mgt.sticky with warning := true } } }

end Sys2Proof.Machine
end

