-- ==== Sys2Proof/WellFormed.lean ====
section
/-! DEFINITION. Which terms of Syntax.lean are commands that the part's surroundings can make: the checks that the operand types do not make. -/

namespace Sys2Proof

/-- A command is well formed when:
SECOND_BOUNDARY names no meter twice;
a data segment carries 1..59 characters (R177);
UNKNOWN_COMMAND carries a code outside the command index (R183);
a continuation block carries at most 58 parameter bytes (R200);
a text and its other parameters fit the one-byte parameter length (R200);
a user code is 6 bytes and a password 8 bytes (R196);
the bytes between two DNSYNC marks are at least the byte that the mark stands at (R197). -/
def Instr.wellFormed : Instr → Bool
  | .secondBoundary order => decide order.Nodup
  | .downwardBlock bytes _ => decide (1 ≤ bytes.length)
  | .dataSegment _ chars => decide (1 ≤ chars.length) && decide (chars.length ≤ 59)
  | .unknownCommand _ code => !commandCodes.contains code
  | .continuation _ _ _ bytes _ => decide (bytes.length ≤ 58)
  | .loadMessage _ _ _ text => decide (text.length ≤ 253)
  | .broadcast _ _ text => decide (text.length ≤ 254)
  | .stageEntry _ _ code _ password _ _ _ => decide (code.length = 6) && decide (password.length = 8)
  | .findUser _ code => decide (code.length = 6)
  | .powerOn _ | .resetN _ | .resetNRelease | .ringBurst _ | .dcdUp _ | .dcdDown _ | .characterReceived _ _ | .lineBreak _ | .characterSent _
  | .noticeBegin _ | .noticeEnd _ | .prompt _ | .lineDrainEnd _ | .ringGapExpiry _ | .answerTimerExpiry _ | .signOnTimerExpiry _ | .carrierLoss _
  | .drainTimerExpiry _ | .guardTimerExpiry _ | .idleTimerExpiry _ | .lookupCompletion _ | .grant | .noticeTimerExpiry _ | .waitExpiry _
  | .offerTimeout _ | .closeTimeout _ | .graceExpiry _ | .expelExpiry _ | .stageExpiry | .writeCompletion | .protectionWriteCompletion | .sampleExpiry
  | .trunkLoss | .accept _ | .reject _ _ | .close _ | .closed _ | .flow _ _ | .upwardBlock | .serviceBlock | .loadGroup _ _ _ _ _ _ _ _ _ _ _ _ _ _ _
  | .lineOutOfService _ _ | .lineReturn _ _ | .forceClear _ _ | .readLine _ _ _ | .commitPage _ | .discardStage _ | .readEntry _ _ | .unlockUser _ _
  | .protectBlock _ _ | .protectTariffs _ | .unprotectAll _ _ | .readProtection _ _ | .setAccount _ _ _ _ _ _ _ | .setAccountState _ _ _
  | .creditAccount _ _ _ | .readAccount _ _ | .setClock _ _ _ _ _ _ _ _ | .readClock _ | .loadHoliday _ _ _ _ | .readHoliday _ _
  | .loadSchedule _ _ _ _ _ _ _ | .readSchedule _ _ | .loadDaystart _ _ _ | .readDaystart _ | .loadRate _ _ _ _ | .readRate _ _ | .loadPermit _ _ _ _
  | .readPermit _ _ | .loadClass _ _ _ _ _ _ _ | .readClass _ _ | .readPeriod _ | .setChannelPriority _ _ _ | .clearChannel _ _ | .readChannel _ _
  | .readQueue _ | .fetchTicket _ | .releaseTicket _ _ | .readTicketCounts _ | .loadWatch _ _ _ _ _ _ _ _ | .readWatch _ _ | .ackAlert _ _
  | .openService _ | .drainService _ | .closeService _ | .restart _ | .loadParameters _ _ _ _ _ _ _ _ _ _ _ _ _ | .readParameters _ | .readCounters _ => true

end Sys2Proof
end

