-- ==== Sys2Proof/Certificates/Slice0/Obligations.lean ====
section
/-! DEFINITION. The statements for the provers. -/

open Sys2Proof Sys2Proof.Machine

/-! ## The machine -/

/-- A step of the part takes the command at the front of its queue with the queue's rest; with no command waiting, a tenth of a second passes and nothing else changes (the model's choice, log 2). -/
def Obligations.StepTakesFront : Prop :=
  (∀ (c : Instr) (rest : List Instr) (s : State), step { s with pending := c :: rest } = exec c { s with pending := rest }) ∧
  (∀ s : State, s.pending = [] → step s = .next { s with now := s.now + 1 })

/-- Every command ends in a next state from every state, and leaves the commands that wait as they were: the manual names no condition that stops the part. While RESET_N is asserted no command but its release has an effect, save that a modem input keeps its new level (R159, R173; log 23); the release starts the sample timer toward one second later. -/
def Obligations.EveryCommandCompletes : Prop :=
  (∀ (i : Instr) (s : State), ∃ t, exec i s = .next t ∧ t.pending = s.pending) ∧
  (∀ (i : Instr) (s : State), s.inReset = true →
      match i with
      | .powerOn _ | .resetN _ => True
      | .resetNRelease => exec i s = .next { s with inReset := false, sample := some (s.now + 10) }
      | .ringBurst l => exec i s = .next (s.updLine l fun ln => { ln with ri := true })
      | .dcdUp l => exec i s = .next (s.updLine l fun ln => { ln with dcd := true })
      | .dcdDown l => exec i s = .next (s.updLine l fun ln => { ln with dcd := false })
      | _ => exec i s = .next s)

/-- R24: what POWER_ON and RESET_N leave of the lines, the groups and the message table, with the values of R4 and R6. -/
def Obligations.PowerOnLines : Prop :=
  ∀ (w : Byte) (s : State), ∃ t, exec (.powerOn w) s = .next t ∧ exec (.resetN w) s = .next t ∧
    (∀ l, (t.line l).state = .idle ∧ (t.line l).state.dtr = false ∧ (t.line l).timers = ⟨none, none, none, none, none, none, none⟩ ∧
      (t.line l).group = none ∧ (t.line l).admission = none ∧ (t.line l).channel = none ∧ (t.line l).notices = [] ∧
      (t.line l).counters = ⟨0, 0, 0, 0⟩ ∧ (t.line l).rings = 0 ∧ (t.line l).attempts = 0 ∧ (t.line l).outOfService = false ∧
      (t.line l).idleWarned = false ∧ (t.line l).rx = [] ∧ (t.line l).tx = [] ∧ (t.line l).sending = none) ∧
    (∀ g : Fin 4, t.groups[g] = ⟨decide (g = 0), 0, 32, 2, 30, 5, 90, 3, 0, 5, 1, 16, 0xFF⟩) ∧ ∀ m, t.message m = []

/-- What POWER_ON and RESET_N leave of the other blocks: the power-on values of R26, R49, R52, R62, R69, R89, R96, R98, R99, R103, R104, R106, R124, R146, R147, R159, R182, R188, R189 and R195; by the model's choice the minute last evaluated is 0 and no second boundary runs (log 27), the code and the deferral of a lookup stand empty in the dialogue record (log 20, log 27), and the time, the queue of commands, the key level and the levels of the modem inputs stand as they were (log 23). R48: every entry outside an interrupted page commit stands, and each entry of the commit, and each block flag, is old or new as a whole, as the operand says (log 7). -/
def Obligations.PowerOnBlocks : Prop :=
  (∀ (w : Byte) (s : State), ∃ t, exec (.powerOn w) s = .next t ∧ exec (.resetN w) s = .next t ∧
      t.inReset = true ∧ t.pending = s.pending ∧ t.now = s.now ∧ t.key = s.key ∧
      (∀ l, (t.line l).dialogue = ⟨.none, [], [], .none, [], false⟩ ∧ (t.line l).ri = (s.line l).ri ∧ (t.line l).dcd = (s.line l).dcd) ∧
      ((∀ i, t.dir.shadowOf i = ⟨0, false⟩) ∧ t.dir.tariffs = false ∧ t.dir.stage = ⟨.empty, none, [], .none, none, false⟩) ∧
      (∀ a, t.account a = ⟨.closed, 0, 0, 0, 0, 0, false⟩) ∧
      (t.cal.clock = ⟨0, 0, 0, 0, 0, 0, 0⟩ ∧ t.cal.valid = false ∧ t.cal.holiday = false ∧ t.cal.weekday = 0 ∧ t.cal.period = 0 ∧
        t.cal.minute = 0 ∧ t.cal.boundary = none ∧ (∀ i : Fin 16, t.cal.holidays[i] = none) ∧
        (∀ i : Fin 16, t.cal.schedule[i] = ⟨false, 0, 0, 0, 0⟩) ∧ (∀ w : Fin 7, t.cal.dayStart[w] = 0) ∧
        (∀ p k : Fin 8, t.cal.rates[p][k] = 0 ∧ t.cal.permits[p][k] = .closed) ∧
        ∀ k : Fin 8, t.cal.classes[k] = ⟨0, 60, 60, false, false⟩) ∧
      (∀ c, t.meter c = none ∧ t.channel c = ⟨.free, none, none, false, .go, none, 0, 0⟩ ∧ t.trunk.announced[c] = .go) ∧
      t.queue = [] ∧ (∀ r, t.row r = .free) ∧ t.tickets.closeList = [] ∧ t.tickets.serial = 1 ∧
      (∀ k : Fin 4, t.watches[k] = ⟨false, .comparator, 255, 0, 255, 0, 0, false, false, false, false⟩) ∧ t.sample = none ∧
      (t.trunk.up = false ∧ t.trunk.lossTimer = none ∧ t.trunk.counter = 0 ∧ t.trunk.nd = 15 ∧ t.trunk.controls = [] ∧
        t.trunk.pointer = 23 ∧ t.trunk.counters = ⟨0, 0, 0, 0⟩) ∧
      t.mgt = ⟨.closed, [], none, none, ⟨false, false, false, false⟩⟩ ∧ t.params = ⟨5, 10, 60, 10, 10, 5, 0, 15, 0, 1, none, false⟩) ∧
  (∀ (w : Byte) (s : State), s.dir.wf = true → s.dir.stage.Sound → ∃ t, exec (.powerOn w) s = .next t ∧ exec (.resetN w) s = .next t ∧
      (∀ i, (s.dir.stage.write = .page → ∀ e ∈ s.dir.stage.staged, e.index.val ≠ i) → t.dir.entry i = s.dir.entry i) ∧
      (s.dir.stage.write = .page → ∀ e ∈ s.dir.stage.staged, t.dir.entry e.index.val =
        if w.getLsbD (e.index.val % 8) then e.written (s.dir.entry e.index.val) else s.dir.entry e.index.val) ∧
      (∀ b : Fin 8, t.dir.protect.getLsbD b.val =
        if w.getLsbD b.val then
          (match s.dir.stage.write with
            | .protectBlock k => s.dir.protect.getLsbD b.val || decide (b = k)
            | .unprotectAll => false
            | .none | .page => s.dir.protect.getLsbD b.val)
        else s.dir.protect.getLsbD b.val))

/-! ## Lines (chapter 1) -/

/-- R5, R7, R8: a ring burst in IDLE or RINGING is counted, and the answer decision is made; elsewhere it only shows on RI. The ring-gap expiry gives the ringing up; an expiry is taken at its deadline or later (log 3, here and in every statement about a timer). -/
def Obligations.RingsCountedAndAnswered : Prop :=
  ∀ (s : State) (l : Fin 32), s.inReset = false →
    (∀ g n, (((s.line l).state = .idle ∧ s.CapturesAt l g ∧ n = 1) ∨
        ((s.line l).state = .ringing ∧ g = (s.line l).group ∧ n = if (s.line l).rings < 255 then (s.line l).rings + 1 else (s.line l).rings)) →
      let ringing : Line := { s.line l with
        state := .ringing, rings := n, group := g, ri := true, timers := { (s.line l).timers with ringGap := some (s.now + 80) } }
      ((∀ k, g = some k → ¬ s.AnswersAt k n) → exec (.ringBurst l) s = .next (s.setLine l ringing)) ∧
      ∀ k, g = some k → s.AnswersAt k n →
        let answering : Line := { ringing with
          state := .answering
          timers := { ringing.timers with ringGap := none, answer := some (s.now + s.groups[k].answerTimeout * 10) } }
        ((s.line l).dcd = false → exec (.ringBurst l) s = .next (s.setLine l answering)) ∧
        ((s.line l).dcd = true → exec (.ringBurst l) s = exec (.dcdUp l) (s.setLine l answering))) ∧
    ((s.line l).state ≠ .idle → (s.line l).state ≠ .ringing →
      exec (.ringBurst l) s = .next (s.setLine l { s.line l with ri := true })) ∧
    (∀ d, (s.line l).state = .ringing → (s.line l).timers.ringGap = some d →
      exec (.ringGapExpiry l) s = .next ({ s with now := max s.now d }.setLine l { s.line l with
        state := .idle, rings := 0, group := none, timers := { (s.line l).timers with ringGap := none } }))

/-- R9, R26, R27: carrier in ANSWERING hands the line to the sign-on unit: SIGNON, no attempts, the sign-on timer, phase ANNOUNCE, the banner; then the prompt in its turn, as PROMPT places it, in the same event when it may (log 14); the record it begins with keeps the code and the deferral of a lookup too, both empty (the model's choice, log 20). R10, R1: in the watched states DCD down starts the carrier-loss timer and DCD up stops it; in the others, ANSWERING apart, only the level changes. -/
def Obligations.CarrierReports : Prop :=
  (∀ (s : State) (l : Fin 32), s.inReset = false → (s.line l).state = .answering →
      exec (.dcdUp l) s = exec (.prompt l) (s.setLine l (Line.placeAll
        { s.line l with
          dcd := true
          state := .signon
          attempts := 0
          timers := { (s.line l).timers with answer := none, signOn := some (s.now + (s.groupOf (s.line l)).signOnLimit * 10) }
          dialogue := ⟨.announce, [], [], .none, [], false⟩ }
        (if s.message 0 = [] then [] else [0x0D, 0x0A] ++ s.message 0 ++ [0x0D, 0x0A])))) ∧
  (∀ (s : State) (l : Fin 32), s.inReset = false →
      ((s.line l).state ∈ [.signon, .checking, .waiting, .offered, .connected, .draining] →
        exec (.dcdUp l) s = .next (s.setLine l { s.line l with dcd := true, timers := { (s.line l).timers with carrier := none } }) ∧
        exec (.dcdDown l) s = .next (s.setLine l { s.line l with
          dcd := false
          timers := { (s.line l).timers with carrier := some (s.now + (s.groupOf (s.line l)).carrierLoss) } })) ∧
      ((s.line l).state ∈ [.idle, .ringing, .clearing, .blocked] →
        exec (.dcdUp l) s = .next (s.setLine l { s.line l with dcd := true })) ∧
      ((s.line l).state ∈ [.idle, .ringing, .answering, .clearing, .blocked] →
        exec (.dcdDown l) s = .next (s.setLine l { s.line l with dcd := false })))

/-- R3, R27: characters placed in the transmit buffer join it in order up to 128; those beyond are discarded and counted. R175: a control replaces the pending one of its channel and slot in its place, and joins at the tail when there is none. R18: a notice request replaces the value of a pending notice of the same message, else joins at the tail, the oldest being dropped and counted when 4 are pending; in the six states that take notices, and in no other. -/
def Obligations.BoundedQueues : Prop :=
  (∀ (ln : Line) (cs : List Byte), ln.tx.length ≤ 128 → ln.counters.discards ≤ 65535 →
      ln.placeAll cs = { ln with
        tx := (ln.tx ++ cs).take 128
        counters := { ln.counters with discards := min 65535 (ln.counters.discards + (ln.tx.length + cs.length - 128)) } }) ∧
  (∀ (s : State) (c : Fin 24) (k : ControlKind),
      ((∀ x ∈ s.trunk.controls, x.place ≠ (c, k.slot)) →
        handControl c k s = { s with trunk := { s.trunk with controls := s.trunk.controls ++ [⟨c, k⟩] } }) ∧
      ∀ a x b, s.trunk.controls = a ++ x :: b → x.place = (c, k.slot) → s.SlotsDistinct →
        handControl c k s = { s with trunk := { s.trunk with controls := a ++ ⟨c, k⟩ :: b } }) ∧
  (∀ (now : Nat) (m : Fin 24) (v : Int) (ln : Line),
      (ln.state ∉ [.signon, .checking, .waiting, .offered, .connected, .draining] → Line.request now m v ln = ln) ∧
      (ln.state ∈ [.signon, .checking, .waiting, .offered, .connected, .draining] →
        (∀ a n b, ln.notices = a ++ n :: b → n.msg = m → (ln.notices.map (·.msg)).Nodup →
          Line.request now m v ln = { ln with notices := a ++ { n with value := v } :: b }) ∧
        ((∀ n ∈ ln.notices, n.msg ≠ m) → ln.notices.length < 4 →
          Line.request now m v ln = { ln with notices := ln.notices ++ [⟨m, v, now⟩] }) ∧
        (∀ n rest, (∀ x ∈ ln.notices, x.msg ≠ m) → ln.notices = n :: rest → rest.length = 3 →
          Line.request now m v ln = { ln with
            notices := rest ++ [⟨m, v, now⟩]
            counters := { ln.counters with drops := if ln.counters.drops < 65535 then ln.counters.drops + 1 else ln.counters.drops } })))

/-- R2, R17: a character on a connected line enters the receive FIFO, or is discarded and counted when the FIFO holds 64, and counts as activity, the discarded one too (log 17); in every other state but SIGNON, and while a prompt waits, it is lost. R180, R175: a break on a connected line hands up one BREAK for its channel, merged with a pending one. R3, R19, R178: the oldest character of the transmit buffer is sent, unless a notice is being sent, and at a fill of 32 under an announced STOP it hands up FLOW GO; the model's choice: its taking and its sending are one event (log 30), it stays the last character sent until the next (log 18), and such a command with an empty buffer changes nothing (log 4). -/
def Obligations.LineActivity : Prop :=
  (∀ (s : State) (l : Fin 32) (c : Byte), s.inReset = false →
      ((s.line l).state = .connected →
        exec (.characterReceived l c) s = .next (s.setLine l (Line.supervised (s.groupOf (s.line l)) s.now 0
          (if (s.line l).rx.length < 64 then { s.line l with rx := (s.line l).rx ++ [c] }
          else { s.line l with counters := { (s.line l).counters with
            overruns := if (s.line l).counters.overruns < 65535 then (s.line l).counters.overruns + 1 else (s.line l).counters.overruns } })))) ∧
      ((s.line l).state ≠ .connected → (s.line l).state ≠ .signon → exec (.characterReceived l c) s = .next s) ∧
      ((s.line l).state = .signon → (s.line l).dialogue.phase ≠ .user → (s.line l).dialogue.phase ≠ .password →
        exec (.characterReceived l c) s = .next s)) ∧
  (∀ (s : State) (l : Fin 32), s.inReset = false →
      (∀ c, (s.line l).state = .connected → (s.line l).channel = some c →
        exec (.lineBreak l) s = .next
          { s.setLine l (Line.supervised (s.groupOf (s.line l)) s.now 2 (s.line l)) with
            trunk := { s.trunk with controls :=
              if (⟨c, .lineBreak⟩ : Control) ∈ s.trunk.controls then s.trunk.controls else s.trunk.controls ++ [⟨c, .lineBreak⟩] } }) ∧
      ((s.line l).state ≠ .connected → exec (.lineBreak l) s = .next s)) ∧
  (∀ (s : State) (l : Fin 32), s.inReset = false →
      (∀ b rest, (s.line l).tx = b :: rest → (s.line l).sending = none →
        let ln : Line := { s.line l with tx := rest, lastSent := some b }
        let sent := s.setLine l (if ln.state = .connected then Line.supervised (s.groupOf ln) s.now 1 ln else ln)
        (∀ c, ln.state = .connected → ln.channel = some c → rest.length = 32 → s.trunk.announced[c] = .stop →
          exec (.characterSent l) s = .next { sent with trunk := { s.trunk with
            announced := s.trunk.announced.set c .go
            controls := joinControls s.trunk.controls ⟨c, .flow .go⟩ } }) ∧
        ((∀ c, ln.state = .connected → ln.channel = some c → rest.length = 32 → s.trunk.announced[c] ≠ .stop) →
          exec (.characterSent l) s = .next sent)) ∧
      ((s.line l).tx = [] ∨ (s.line l).sending ≠ none → exec (.characterSent l) s = .next s))

/-- R19: the head notice begins in its state's condition with its text read whole, and an empty message is removed unsent; a notice's end begins the next one with a text at once (log 13). The model's choice: a beginning without its occasion, or an end when no notice is sent, changes nothing (log 4), and the last character sent is that of the buffer, kept across notices and calls (log 18). The value stands in decimal: '-' before a negative one, then digits that read back as its size, without a leading zero unless the size is 0. -/
def Obligations.NoticesSent : Prop :=
  (∀ (s : State) (l : Fin 32), s.inReset = false →
      let ln := s.line l
      let may (n : Notice) := (ln.state ∈ [.connected, .draining] ∧ (ln.lastSent = some 0x0D ∨ ln.tx = [] ∨ n.joined + 20 ≤ s.now)) ∨
        (ln.state ∈ [.signon, .checking, .waiting, .offered] ∧ ln.tx = [])
      let whole (n : Notice) : Sending := ⟨n.msg, [0x0D, 0x0A] ++
        (s.message n.msg).flatMap (fun c => if c = 0x23 then decimalText n.value else [c]) ++ [0x0D, 0x0A]⟩
      (∀ n rest, ln.notices = n :: rest → ln.sending = none →
        (may n → s.message n.msg ≠ [] → exec (.noticeBegin l) s = .next (s.setLine l { ln with notices := rest, sending := some (whole n) })) ∧
        (may n → s.message n.msg = [] → exec (.noticeBegin l) s = .next (s.setLine l { ln with notices := rest })) ∧
        (¬ may n → exec (.noticeBegin l) s = .next s)) ∧
      (ln.notices = [] ∨ ln.sending ≠ none → exec (.noticeBegin l) s = .next s) ∧
      (ln.sending ≠ none →
        (∀ n rest, ln.notices.dropWhile (fun x => decide (s.message x.msg = [])) = n :: rest →
          exec (.noticeEnd l) s = .next (s.setLine l { ln with notices := rest, sending := some (whole n) })) ∧
        (ln.notices.dropWhile (fun x => decide (s.message x.msg = [])) = [] →
          exec (.noticeEnd l) s = .next (s.setLine l { ln with notices := [], sending := none }))) ∧
      (ln.sending = none → exec (.noticeEnd l) s = .next s)) ∧
  (∀ v : Int, v.natAbs < 10000000 → ∃ ds : List Nat, (∀ d ∈ ds, d < 10) ∧ ds.foldl (fun a d => 10 * a + d) 0 = v.natAbs ∧
      ds ≠ [] ∧ (ds.head? = some 0 → ds = [0]) ∧
      decimalText v = (if v < 0 then [0x2D] else []) ++ ds.map (fun d => BitVec.ofNat 8 (0x30 + d)))

/-- R9, R11, R12: the end of a drain, the drain timer and the answer timer take the line into CLEARING: buffers, notices and the notice being sent dropped, idle-warned clear, every timer stopped and the guard timer at 2 s; the guard timer ends CLEARING in BLOCKED, when out-of-service is pending, and else in IDLE, with rings, attempts and captured group gone. R17: the idle timer with idle-warned clear queues M14 with the group's idle clear, sets idle-warned and runs on for the idle clear. -/
def Obligations.LineTimers : Prop :=
  (∀ (s : State) (l : Fin 32), s.inReset = false →
      let cleared (now : Nat) : State := { s with now := now }.setLine l { s.line l with
        state := .clearing, rx := [], tx := [], notices := [], sending := none, idleWarned := false
        timers := ⟨none, none, none, none, none, none, some (now + 20)⟩ }
      ((s.line l).state = .draining → (s.line l).tx = [] → (s.line l).notices = [] → (s.line l).sending = none →
        exec (.lineDrainEnd l) s = .next (cleared s.now)) ∧
      (∀ d, (s.line l).state = .draining → (s.line l).timers.drain = some d →
        exec (.drainTimerExpiry l) s = .next (cleared (max s.now d))) ∧
      (∀ d, (s.line l).state = .answering → (s.line l).timers.answer = some d →
        exec (.answerTimerExpiry l) s = .next (cleared (max s.now d)))) ∧
  (∀ (s : State) (l : Fin 32) (d : Nat), s.inReset = false → (s.line l).state = .clearing → (s.line l).timers.guard = some d →
      exec (.guardTimerExpiry l) s = .next ({ s with now := max s.now d }.setLine l { s.line l with
        state := if (s.line l).outOfService = true then .blocked else .idle
        outOfService := false, rings := 0, attempts := 0, group := none
        timers := { (s.line l).timers with guard := none } })) ∧
  (∀ (s : State) (l : Fin 32) (d : Nat), s.inReset = false → (s.line l).state = .connected → (s.line l).timers.idle = some d →
      (s.line l).idleWarned = false →
      let now := max s.now d
      let g := s.groupOf (s.line l)
      let ln := Line.request now 14 g.idleClear (s.line l)
      exec (.idleTimerExpiry l) s = .next ({ s with now := now }.setLine l { ln with
        idleWarned := true, timers := { ln.timers with idle := some (now + g.idleClear * 600) } }))

/-- R13: LINE OUT OF SERVICE. R14: LINE RETURN. -/
def Obligations.LineServiceCommands : Prop :=
  (∀ (s : State) (tag line : Byte), s.Ready →
      (31 < line.toNat → exec (.lineOutOfService tag line) s = .next (s.replied tag 0x13 .badValue [])) ∧
      ∀ l : Fin 32, l.val = line.toNat →
        ((s.line l).state ∈ [.idle, .ringing] →
          exec (.lineOutOfService tag line) s = .next ((s.setLine l { s.line l with
            state := .blocked, rings := 0, group := none
            timers := { (s.line l).timers with ringGap := none } }).replied tag 0x13 .done [])) ∧
        ((s.line l).state ∉ [.idle, .ringing, .blocked] →
          exec (.lineOutOfService tag line) s = .next ((s.setLine l { s.line l with outOfService := true }).replied tag 0x13 .done [])) ∧
        ((s.line l).state = .blocked → exec (.lineOutOfService tag line) s = .next (s.replied tag 0x13 .badState []))) ∧
  (∀ (s : State) (tag line : Byte), s.Ready →
      (31 < line.toNat → exec (.lineReturn tag line) s = .next (s.replied tag 0x14 .badValue [])) ∧
      ∀ l : Fin 32, l.val = line.toNat →
        ((s.line l).state = .blocked →
          exec (.lineReturn tag line) s = .next ((s.setLine l { s.line l with state := .idle }).replied tag 0x14 .done [])) ∧
        ((s.line l).state ≠ .blocked → (s.line l).outOfService = true →
          exec (.lineReturn tag line) s = .next ((s.setLine l { s.line l with outOfService := false }).replied tag 0x14 .done [])) ∧
        ((s.line l).state ≠ .blocked → (s.line l).outOfService = false →
          exec (.lineReturn tag line) s = .next (s.replied tag 0x14 .badState [])))

/-- R23, R196: READ LINE returns the call record with the present signal levels and then sets the four counters to 0; DTR is high exactly from ANSWERING to DRAINING (R8, R9, R12, R13); the RI level is the command's operand and is kept as last read (log 5). -/
def Obligations.ReadLine : Prop :=
  ∀ (s : State) (tag line : Byte) (ring : Bool), s.Ready →
    (31 < line.toNat → exec (.readLine tag line ring) s = .next (s.replied tag 0x16 .badValue [])) ∧
    ∀ l : Fin 32, l.val = line.toNat →
      let ln := s.line l
      exec (.readLine tag line ring) s = .next ((s.setLine l { ln with ri := ring, counters := ⟨0, 0, 0, 0⟩ }).replied tag 0x16 .done
        ([ln.state.code, (match ln.group with | some g => byteOf g.val | none => 0xFF), byteOf ln.rings, byteOf ln.attempts,
            flagByte ln.outOfService, flagByte ln.idleWarned, (match ln.channel with | some c => byteOf (c.val + 1) | none => 0)] ++
          (match ln.admission with
            | some a => (a.user ++ List.replicate 6 0x20).take 6 ++ [byteOf a.account.val]
            | none => List.replicate 6 0x20 ++ [0]) ++
          [byteOf ln.notices.length,
            byteOf ((if ring then 1 else 0) + (if ln.dcd then 2 else 0) + (if ln.state ∈ [.answering, .signon, .checking, .waiting, .offered, .connected, .draining] then 4 else 0))] ++
          be16 ln.counters.overruns ++ be16 ln.counters.discards ++ be16 ln.counters.drops ++ be16 ln.counters.failures))

/-- R4: LOAD GROUP replaces the descriptor when the group and every field are in range. R20, R21, R183, R184: LOAD MESSAGE replaces the slot's text; BROADCAST loads M23 and queues it with value 0 to every line in CONNECTED or WAITING, answering how many those are. A text that runs past the block is held as a partial command with its first 58 bytes; what is out of range is refused. That such a row stands for its first block is the model's choice (log 9). -/
def Obligations.LineTables : Prop :=
  (∀ (s : State) (tag group e f z r t c g a w k m x p : Byte), s.Ready →
      let i : Instr := .loadGroup tag group e f z r t c g a w k m x p
      let ok := e.toNat ≤ 1 ∧ f.toNat ≤ 31 ∧ z.toNat ∈ [1, 2, 4, 8, 16, 32] ∧ f.toNat % z.toNat = 0 ∧ r.toNat ≤ 15 ∧
        5 ≤ t.toNat ∧ t.toNat ≤ 60 ∧ 1 ≤ c.toNat ∧ c.toNat ≤ 20 ∧ 10 ≤ g.toNat ∧ 1 ≤ a.toNat ∧ a.toNat ≤ 7 ∧ 1 ≤ k.toNat ∧
        m.toNat ≤ 7 ∧ x.toNat ≤ 63
      let d : Group := ⟨decide (e = 1), f.toNat, z.toNat, r.toNat, t.toNat, c.toNat, g.toNat, a.toNat, w.toNat, k.toNat, m.setWidth 3, x.toNat, p⟩
      (∀ n : Fin 4, n.val = group.toNat → ok → exec i s = .next ({ s with groups := s.groups.set n d }.replied tag 0x10 .done [])) ∧
      (3 < group.toNat ∨ ¬ ok → exec i s = .next (s.replied tag 0x10 .badValue []))) ∧
  (∀ (s : State) (tag slot n : Byte) (text : List Byte), s.Ready →
      (∀ m : Fin 24, m.val = slot.toNat → text.length = n.toNat → text.length ≤ 56 →
        exec (.loadMessage tag slot n text) s = .next ({ s with messages := s.messages.set m text }.replied tag 0x11 .done [])) ∧
      (text.length ≤ 56 → 23 < slot.toNat ∨ text.length ≠ n.toNat →
        exec (.loadMessage tag slot n text) s = .next (s.replied tag 0x11 .badValue [])) ∧
      (56 < text.length → text.length ≤ 114 →
        exec (.loadMessage tag slot n text) s = .next { s with mgt := { s.mgt with
          held := some ⟨tag, 0x11, text.length + 2, slot :: n :: text.take 56⟩ } }) ∧
      (114 < text.length → exec (.loadMessage tag slot n text) s = .next (s.replied tag 0x11 .badValue []))) ∧
  (∀ (s : State) (tag n : Byte) (text : List Byte), s.Ready →
      let hears (k : Fin 32) : Bool := decide ((s.line k).state = .connected) || decide ((s.line k).state = .waiting)
      (text.length = n.toNat → text.length ≤ 57 → ∃ t, exec (.broadcast tag n text) s = .next t ∧
        t = { s.replied tag 0x12 .done [byteOf ((List.finRange 32).filter hears).length] with
          lines := t.lines, messages := s.messages.set 23 text } ∧
        ∀ k, t.line k = if hears k then Line.request s.now 23 0 (s.line k) else s.line k) ∧
      (text.length ≤ 57 → text.length ≠ n.toNat → exec (.broadcast tag n text) s = .next (s.replied tag 0x12 .badValue [])) ∧
      (57 < text.length → text.length ≤ 115 →
        exec (.broadcast tag n text) s = .next { s with mgt := { s.mgt with
          held := some ⟨tag, 0x12, text.length + 1, n :: text.take 57⟩ } }) ∧
      (115 < text.length → exec (.broadcast tag n text) s = .next (s.replied tag 0x12 .badValue [])))

/-! ## Sign-on (chapter 2) -/

/-- R28: a waiting prompt is placed, and the phase advances, exactly when the transmit buffer is empty and no notice is being sent. R29, R30: the rows of the tables of the user and the password field, the character taken without its eighth bit; the prompt that a CR in the user field calls for is placed in the same event when it may (the model's reading, log 14), and a PROMPT with none waiting changes nothing (the model's choice, log 4). R31, R51: a CR in the password begins the lookup of the code, padded to 6 characters and deferred exactly when a page commit in progress has the code at one of its two places, a stored entry of its page or a staged entry, and the line enters CHECKING; that the code and the deferral stand in the dialogue record is the model's choice (log 20). -/
def Obligations.DialogueFields : Prop :=
  (∀ (s : State) (l : Fin 32), s.inReset = false → (s.line l).state = .signon →
      let text (m : Fin 24) : List Byte := if s.message m = [] then [] else [0x0D, 0x0A] ++ s.message m
      let placed (m : Fin 24) (p : Phase) : State :=
        s.setLine l { (s.line l).placeAll (text m) with dialogue := { (s.line l).dialogue with phase := p } }
      ((s.line l).tx = [] → (s.line l).sending = none →
        ((s.line l).dialogue.phase = .announce ∨ (s.line l).dialogue.phase = .userPrompt → exec (.prompt l) s = .next (placed 1 .user)) ∧
        ((s.line l).dialogue.phase = .passwordPrompt → exec (.prompt l) s = .next (placed 2 .password))) ∧
      ((s.line l).tx ≠ [] ∨ (s.line l).sending ≠ none ∨ (s.line l).dialogue.phase ∉ [.announce, .userPrompt, .passwordPrompt] →
        exec (.prompt l) s = .next s)) ∧
  (∀ (s : State) (l : Fin 32) (c : Byte), s.inReset = false → (s.line l).state = .signon → (s.line l).dialogue.phase = .user →
      let d := (s.line l).dialogue
      let n := (c &&& 0x7F).toNat
      let letter := (0x41 ≤ n ∧ n ≤ 0x5A) ∨ (0x30 ≤ n ∧ n ≤ 0x39)
      let take (x : Byte) : Line := { (s.line l).placeAll [x] with dialogue := { d with user := d.user ++ [x] } }
      (n = 0x0D → exec (.characterReceived l c) s = exec (.prompt l) (s.setLine l
        { s.line l with dialogue := { d with phase := if d.user = [] then .userPrompt else .passwordPrompt } })) ∧
      (n = 0x08 ∨ n = 0x7F → d.user = [] → exec (.characterReceived l c) s = .next s) ∧
      (n = 0x08 ∨ n = 0x7F → d.user ≠ [] → exec (.characterReceived l c) s = .next (s.setLine l
        { (s.line l).placeAll [0x08, 0x20, 0x08] with dialogue := { d with user := d.user.dropLast } })) ∧
      (letter → d.user.length < 6 → exec (.characterReceived l c) s = .next (s.setLine l (take (BitVec.ofNat 8 n)))) ∧
      (0x61 ≤ n ∧ n ≤ 0x7A → d.user.length < 6 → exec (.characterReceived l c) s = .next (s.setLine l (take (BitVec.ofNat 8 (n - 0x20))))) ∧
      (letter ∨ (0x61 ≤ n ∧ n ≤ 0x7A) → 6 ≤ d.user.length → exec (.characterReceived l c) s = .next s) ∧
      (n ≠ 0x0D → n ≠ 0x08 → n ≠ 0x7F → ¬ letter → ¬ (0x61 ≤ n ∧ n ≤ 0x7A) → exec (.characterReceived l c) s = .next s)) ∧
  (∀ (s : State) (l : Fin 32) (c : Byte), s.inReset = false → (s.line l).state = .signon → (s.line l).dialogue.phase = .password →
      let d := (s.line l).dialogue
      let n := (c &&& 0x7F).toNat
      let code := (d.user ++ List.replicate 6 0x20).take 6
      (n = 0x0D → ∃ waits : Bool, (waits = true ↔ s.dir.DefersCode code) ∧ exec (.characterReceived l c) s = .next (s.setLine l
        { s.line l with
          state := .checking
          dialogue := { d with phase := .lookup, lookup := .inFlight, code := code, deferred := waits } })) ∧
      (n = 0x08 ∨ n = 0x7F → exec (.characterReceived l c) s = .next (s.setLine l
        { s.line l with dialogue := { d with password := d.password.dropLast } })) ∧
      (0x21 ≤ n ∧ n ≤ 0x7E → d.password.length < 8 → exec (.characterReceived l c) s = .next (s.setLine l
        { s.line l with dialogue := { d with password := d.password ++ [BitVec.ofNat 8 n] } })) ∧
      (0x21 ≤ n ∧ n ≤ 0x7E → 8 ≤ d.password.length → exec (.characterReceived l c) s = .next s) ∧
      (n ≠ 0x0D → n ≠ 0x08 → n ≤ 0x20 → exec (.characterReceived l c) s = .next s))

/-- R32: the sign-on timer in SIGNON or CHECKING places M22 as a refusal line, ends the dialogue, marks a lookup in flight discarded and takes the line into DRAINING; a drain of the service that this completes ends (R191). R35, R51: the completion of a discarded lookup only clears the lookup field; while a page commit defers it, there is no completion; with no lookup in flight a completion changes nothing (the model's choice, log 4). -/
def Obligations.DialogueCutShort : Prop :=
  (∀ (s : State) (l : Fin 32) (d : Nat), s.inReset = false → (s.line l).state ∈ [.signon, .checking] →
      (s.line l).timers.signOn = some d →
      let now := max s.now d
      let ln := (s.line l).refused (s.message 22)
        (if (s.line l).dialogue.lookup = .inFlight then .discarded else (s.line l).dialogue.lookup)
      exec (.signOnTimerExpiry l) s = .next (drainEnd ({ s with now := now }.setLine l { ln with
        state := .draining, timers := { ln.timers with signOn := none, idle := none, drain := some (now + 100) } }))) ∧
  (∀ (s : State) (l : Fin 32), s.inReset = false →
      ((s.line l).dialogue.deferred = false → (s.line l).dialogue.lookup = .discarded →
        exec (.lookupCompletion l) s = .next (s.setLine l
          { s.line l with dialogue := { (s.line l).dialogue with lookup := .none } })) ∧
      ((s.line l).dialogue.deferred = true ∨ (s.line l).dialogue.lookup = .none → exec (.lookupCompletion l) s = .next s))

/-- R36, R37, R41 to R45: at a completion in CHECKING, the first failing check of steps 1 and 4 to 8 places its message as a refusal line, ends the dialogue and takes the line into DRAINING. R38 to R40, R49: a wrong password or an unknown code (M3), or a locked entry (M4), counts an attempt and a sign-on failure, and the wrong password a failure against the entry; the line goes back to SIGNON for the M1 prompt (in the same event when it may: log 14) while attempts remain, and else to DRAINING. -/
def Obligations.LookupRefuses : Prop :=
  (∀ (s : State) (l : Fin 32), s.inReset = false → (s.line l).state = .checking → (s.line l).dialogue.lookup = .inFlight →
      (s.line l).dialogue.deferred = false →
      let refusedWith (m : Fin 24) : State := drainEnd (s.setLine l { (s.line l).refused (s.message m) .none with
        state := .draining, timers := { (s.line l).timers with signOn := none, idle := none, drain := some (s.now + 100) } })
      (s.mgt.service ≠ .opened → exec (.lookupCompletion l) s = .next (refusedWith 21)) ∧
      ∀ i e, s.mgt.service = .opened → s.dir.find (s.line l).dialogue.code = some (i, e) →
        e.password = ((s.line l).dialogue.password ++ List.replicate 8 0x20).take 8 → (s.dir.shadowOf i).locked = false →
        let a := s.account e.account
        let usable := e.enabled = true ∧ a.state = .active ∧ -(a.overdraft : Int) < a.balance
        let open_ := s.cal.permits[s.cal.period][e.cls] = .opened
        let kept := s.shedding = false ∨ s.cal.classes[e.cls].essential = true
        (¬ usable → exec (.lookupCompletion l) s = .next (refusedWith 5)) ∧
        (usable → ¬ open_ → exec (.lookupCompletion l) s = .next (refusedWith 6)) ∧
        (usable → open_ → ¬ kept → exec (.lookupCompletion l) s = .next (refusedWith 7)) ∧
        (usable → open_ → kept → a.limit ≤ a.openCount → exec (.lookupCompletion l) s = .next (refusedWith 8)) ∧
        (usable → open_ → kept → a.openCount < a.limit → 16 ≤ s.queue.length → exec (.lookupCompletion l) s = .next (refusedWith 9))) ∧
  (∀ (s : State) (l : Fin 32), s.inReset = false → (s.line l).state = .checking → (s.line l).dialogue.lookup = .inFlight →
      (s.line l).dialogue.deferred = false → s.mgt.service = .opened →
      let found := s.dir.find (s.line l).dialogue.code
      let given := ((s.line l).dialogue.password ++ List.replicate 8 0x20).take 8
      let refusedBy (m : Fin 24) (dir : Directory) : Prop :=
        let ln := (s.line l).placeAll (framedText (s.message m))
        let counted : Line := { ln with
          attempts := ln.attempts + 1
          counters := { ln.counters with failures := if ln.counters.failures < 65535 then ln.counters.failures + 1 else ln.counters.failures } }
        ((s.line l).attempts + 1 < (s.groupOf (s.line l)).attempts →
          exec (.lookupCompletion l) s = exec (.prompt l) ({ s with dir := dir }.setLine l { counted with
            state := .signon
            dialogue := { (s.line l).dialogue with phase := .userPrompt, user := [], password := [], lookup := .none } })) ∧
        ((s.groupOf (s.line l)).attempts ≤ (s.line l).attempts + 1 →
          exec (.lookupCompletion l) s = .next (drainEnd ({ s with dir := dir }.setLine l { counted with
            state := .draining
            timers := { (s.line l).timers with signOn := none, idle := none, drain := some (s.now + 100) }
            dialogue := { (s.line l).dialogue with phase := .none, user := [], password := [], lookup := .none } })))
      (found = none → refusedBy 3 s.dir) ∧
      (∀ i e, found = some (i, e) → e.password ≠ given →
        let n := min 7 ((s.dir.shadowOf i).failures + 1)
        refusedBy 3 (s.dir.setShadow i ⟨n, (s.dir.shadowOf i).locked || decide (s.params.lockout ≤ n)⟩)) ∧
      (∀ i e, found = some (i, e) → e.password = given → (s.dir.shadowOf i).locked = true → refusedBy 4 s.dir))

/-- R46, R126, R83: a completion that passes every check clears the entry's failures, writes the admission record, raises the account's open count, ends the dialogue and takes the line into WAITING, in the queue behind its priority, with its timers and M10 with its position. -/
def Obligations.LookupAdmits : Prop :=
  ∀ (s : State) (l : Fin 32) (i : Nat) (e : Entry), s.inReset = false → (s.line l).state = .checking →
    (s.line l).dialogue.lookup = .inFlight → (s.line l).dialogue.deferred = false → s.mgt.service = .opened →
    s.dir.find (s.line l).dialogue.code = some (i, e) →
    e.password = ((s.line l).dialogue.password ++ List.replicate 8 0x20).take 8 → (s.dir.shadowOf i).locked = false →
    e.enabled = true → (s.account e.account).state = .active →
    -((s.account e.account).overdraft : Int) < (s.account e.account).balance →
    s.cal.permits[s.cal.period][e.cls] = .opened → (s.shedding = false ∨ s.cal.classes[e.cls].essential = true) →
    (s.account e.account).openCount < (s.account e.account).limit → s.queue.length < 16 → (∀ w ∈ s.queue, w.line ≠ l) →
    let priority := s.cal.classes[e.cls].priority
    let ahead := if priority then s.queue.takeWhile (·.priority) else s.queue
    let behind := if priority then s.queue.dropWhile (·.priority) else []
    let w : Waiter := ⟨l, priority, s.now, s.now + s.params.queueWait * 600,
      if s.params.queueNotice = 0 then none else some (s.now + s.params.queueNotice * 10)⟩
    exec (.lookupCompletion l) s = .next ({ s with
      dir := s.dir.setShadow i { s.dir.shadowOf i with failures := 0 }
      accounts := s.accounts.set e.account { s.account e.account with openCount := (s.account e.account).openCount + 1 }
      queue := ahead ++ w :: behind }.setLine l (Line.request s.now 10 (ahead.length + 1 : Nat) { s.line l with
        state := .waiting
        admission := some ⟨(s.line l).dialogue.code, e.account, e.cls, priority⟩
        timers := { (s.line l).timers with signOn := none }
        dialogue := { (s.line l).dialogue with phase := .none, user := [], password := [], lookup := .none } }))

/-- R10, R12: carrier loss in SIGNON, CHECKING, WAITING and DRAINING: the dialogue or the wait ends without a message and the line goes straight to CLEARING. R15: FORCE CLEAR in SIGNON, CHECKING and WAITING, and the states that refuse it: the same end, with the line going to DRAINING. R26, R33: the dialogue record is emptied, and a lookup in flight is discarded. R84, R129: a waiter leaves the queue, and its admission and its account's count of it end. R191: the end of the last call of a drain closes the service. -/
def Obligations.CallCleared : Prop :=
  (∀ (s : State) (l : Fin 32) (d : Nat), s.inReset = false → (s.line l).timers.carrier = some d →
      let now := max s.now d
      let cleared (ln : Line) : Line := { ln with
        state := .clearing, rx := [], tx := [], notices := [], sending := none, idleWarned := false
        timers := ⟨none, none, none, none, none, none, some (now + 20)⟩ }
      ((s.line l).state ∈ [.signon, .checking] →
        exec (.carrierLoss l) s = .next (drainEnd ({ s with now := now }.setLine l (cleared { s.line l with
          dialogue := { (s.line l).dialogue with
            phase := .none, user := [], password := []
            lookup := if (s.line l).dialogue.lookup = Lookup.inFlight then Lookup.discarded else (s.line l).dialogue.lookup } })))) ∧
      (∀ a, (s.line l).state = .waiting → (∃ w ∈ s.queue, w.line = l) → (s.line l).admission = some a →
        exec (.carrierLoss l) s = .next (drainEnd ({ s with
          now := now
          queue := s.queue.filter (fun w => !decide (w.line = l))
          accounts := s.accounts.set a.account { s.account a.account with openCount := (s.account a.account).openCount - 1 }
          }.setLine l (cleared { s.line l with admission := none })))) ∧
      ((s.line l).state = .draining → exec (.carrierLoss l) s = .next ({ s with now := now }.setLine l (cleared (s.line l))))) ∧
  (∀ (s : State) (tag line : Byte), s.Ready →
      (31 < line.toNat → exec (.forceClear tag line) s = .next (s.replied tag 0x15 .badValue [])) ∧
      ∀ l : Fin 32, l.val = line.toNat →
        let draining (ln : Line) : Line := { ln with
          state := .draining, timers := { ln.timers with signOn := none, idle := none, drain := some (s.now + 100) } }
        ((s.line l).state ∈ [.signon, .checking] →
          exec (.forceClear tag line) s = .next ((drainEnd (s.setLine l (draining { s.line l with
            dialogue := { (s.line l).dialogue with
              phase := .none, user := [], password := []
              lookup := if (s.line l).dialogue.lookup = Lookup.inFlight then Lookup.discarded else (s.line l).dialogue.lookup } }))).replied
                tag 0x15 .done [])) ∧
        (∀ a, (s.line l).state = .waiting → (∃ w ∈ s.queue, w.line = l) → (s.line l).admission = some a →
          exec (.forceClear tag line) s = .next ((drainEnd ({ s with
            queue := s.queue.filter (fun w => !decide (w.line = l))
            accounts := s.accounts.set a.account { s.account a.account with openCount := (s.account a.account).openCount - 1 }
            }.setLine l (draining { s.line l with admission := none, channel := none }))).replied tag 0x15 .done [])) ∧
        ((s.line l).state ∈ [.idle, .ringing, .answering, .draining, .clearing, .blocked] →
          exec (.forceClear tag line) s = .next (s.replied tag 0x15 .badState [])))

/-! ## User directory (chapter 3) -/

/-- R53, R55, R203: STAGE ENTRY: its checks in order, and the entry in its place among the staged ones; a refused one only restarts the stage timer of a STAGING buffer. R54: DISCARD STAGE. -/
def Obligations.StageCommands : Prop :=
  (∀ (s : State) (tag : Byte) (index : Half) (code : List Byte) (keep : Byte) (password : List Byte) (account cls enabled : Byte),
      s.Ready → s.dir.stage.Ordered →
      let i : Instr := .stageEntry tag index code keep password account cls enabled
      let ok := index.toNat < 1024 ∧ cls.toNat < 8 ∧ keep.toNat ≤ 1 ∧ enabled.toNat ≤ 1 ∧ CodeField code ∧
        (keep = 1 ∨ PasswordField password)
      let g := s.dir.stage
      (¬ ok → exec i s = .next (s.timerRestarted.replied tag 0x20 .badValue [])) ∧
      (ok → g.state = .committing → exec i s = .next (s.replied tag 0x20 .busy [])) ∧
      (ok → g.state ≠ .committing → s.dir.protect.getLsbD (index.toNat / 128) = true →
        exec i s = .next (s.timerRestarted.replied tag 0x20 .isProtected [])) ∧
      (ok → g.state = .staging → s.dir.protect.getLsbD (index.toNat / 128) = false → (∀ p : Fin 128, g.page = some p → p.val ≠ index.toNat / 8) →
        exec i s = .next (s.timerRestarted.replied tag 0x20 .badState [])) ∧
      (∀ (k : Fin 1024) (p : Fin 128) (a : Fin 256) (c : Fin 8), ok → k.val = index.toNat → p.val = index.toNat / 8 →
        a.val = account.toNat → c.val = cls.toNat → g.state ≠ .committing → s.dir.protect.getLsbD (index.toNat / 128) = false →
        (g.state = .empty ∨ g.page = some p) →
        let e : Staged := ⟨k, code, if keep = 1 then none else some password, a, c, decide (enabled = 1)⟩
        let staged := g.staged.filter (fun x => decide (x.index < k)) ++ e :: g.staged.filter (fun x => decide (k < x.index))
        exec i s = .next ({ s with dir := { s.dir with stage := { g with
          state := .staging, page := some p, staged := staged, timer := some (s.now + 300) } } }.replied
            tag 0x20 .done [byteOf staged.length]))) ∧
  (∀ (s : State) (tag : Byte), s.Ready →
      (s.dir.stage.state = .staging → exec (.discardStage tag) s = .next ({ s with dir := { s.dir with
        stage := ⟨.empty, none, [], .none, none, false⟩ } }.replied tag 0x22 .done [])) ∧
      (s.dir.stage.state = .empty → exec (.discardStage tag) s = .next (s.replied tag 0x22 .done [])) ∧
      (s.dir.stage.state = .committing → exec (.discardStage tag) s = .next (s.replied tag 0x22 .busy [])))

/-- R57, R51: COMMIT PAGE: its checks in order; a DUPLICATE names the lowest staged index in conflict and the lowest other index that carries its code; when every check passes the page commit begins, the lookups it covers are deferred and no reply is queued yet. -/
def Obligations.CommitPage : Prop :=
  ∀ (s : State) (tag : Byte), s.Ready → s.dir.wf = true → s.dir.stage.Ordered →
    let g := s.dir.stage
    (g.state = .committing → exec (.commitPage tag) s = .next (s.replied tag 0x21 .busy [])) ∧
    (g.state = .empty → exec (.commitPage tag) s = .next (s.replied tag 0x21 .badState [])) ∧
    ∀ p : Fin 128, g.state = .staging → g.page = some p →
      (s.dir.protect.getLsbD (p.val / 16) = true → exec (.commitPage tag) s = .next (s.timerRestarted.replied tag 0x21 .isProtected [])) ∧
      (s.dir.protect.getLsbD (p.val / 16) = false → ∀ (e : Staged) (r : Nat), e ∈ g.staged → s.dir.Conflict e →
        (∀ x ∈ g.staged, s.dir.Conflict x → e.index ≤ x.index) → r ≠ e.index.val → s.dir.Carries r e.code →
        (∀ j, j ≠ e.index.val → s.dir.Carries j e.code → r ≤ j) →
        exec (.commitPage tag) s = .next (s.timerRestarted.replied tag 0x21 .duplicate (be16 e.index.val ++ be16 r))) ∧
      (s.dir.protect.getLsbD (p.val / 16) = false → (∀ e ∈ g.staged, ¬ s.dir.Conflict e) → ∃ t, exec (.commitPage tag) s = .next t ∧
        t = { s with
          lines := t.lines
          dir := { s.dir with stage := { g with state := .committing, write := .page, timer := none } }
          mgt := { s.mgt with writing := some (tag, 0x21) } } ∧
        ∀ l,
          let d := (s.line l).dialogue
          let covered := (∃ k < 8, (s.dir.entry (8 * p.val + k)).code = d.code) ∨ ∃ e ∈ g.staged, e.code = d.code
          (d.lookup ≠ .none → covered → t.line l = { s.line l with dialogue := { d with deferred := true } }) ∧
          (d.lookup = .none ∨ ¬ covered → t.line l = s.line l))

/-- R58, R51: the completion of a page commit writes every staged entry and clears its shadow, leaves every other entry and shadow, empties the buffer, lets the deferred lookups go on and queues the DONE with the number of entries written. R61, R64, R56: the completion of a protection write changes the block flags, returns the buffer to STAGING when it holds entries and no expiry is held, and else to EMPTY, with a held expiry flagged, and queues the DONE. R56: the stage timer empties a STAGING buffer and sets the stage-expired flag; during a protection write the expiry is held, past a RESTART too (the model's reading, log 16). A completion when no such write is in progress changes nothing (the model's choice, log 4). -/
def Obligations.StoreEvents : Prop :=
  (∀ (s : State), s.inReset = false → s.dir.wf = true → s.dir.stage.Ordered →
      (∀ tag code, s.dir.stage.write = .page → s.mgt.writing = some (tag, code) → ∃ t, exec .writeCompletion s = .next t ∧
        t = { s with
          lines := t.lines
          dir := { t.dir with protect := s.dir.protect, tariffs := s.dir.tariffs, stage := ⟨.empty, none, [], .none, none, false⟩ }
          mgt := { s.mgt with
            writing := none
            replies := s.mgt.replies ++ [⟨tag, code, .done, [byteOf s.dir.stage.staged.length]⟩] } } ∧
        (∀ l, t.line l = { s.line l with dialogue := { (s.line l).dialogue with deferred := false } }) ∧
        (∀ e ∈ s.dir.stage.staged, t.dir.shadowOf e.index.val = ⟨0, false⟩ ∧
          (e.code = List.replicate 6 0x20 →
            t.dir.entry e.index.val = ⟨List.replicate 6 0x20, List.replicate 8 0x20, 0, 0, false⟩) ∧
          (e.code ≠ List.replicate 6 0x20 → t.dir.entry e.index.val =
            ⟨e.code, (match e.password with | some p => p | none => (s.dir.entry e.index.val).password), e.account, e.cls, e.enabled⟩)) ∧
        ∀ i, (∀ e ∈ s.dir.stage.staged, e.index.val ≠ i) → t.dir.entry i = s.dir.entry i ∧ t.dir.shadowOf i = s.dir.shadowOf i) ∧
      (s.dir.stage.write ≠ .page → exec .writeCompletion s = .next s)) ∧
  (∀ (s : State) (tag code : Byte), s.inReset = false → s.mgt.writing = some (tag, code) →
      let g := s.dir.stage
      let finished (protect : Byte) : State := { s with
        dir := { s.dir with
          protect := protect
          stage := if g.expired = true ∨ g.staged = [] then ⟨.empty, none, [], .none, none, false⟩
            else { g with state := .staging, write := .none } }
        mgt := { s.mgt with
          writing := none
          replies := s.mgt.replies ++ [⟨tag, code, .done, []⟩]
          sticky := { s.mgt.sticky with stageExpired := s.mgt.sticky.stageExpired || g.expired } } }
      (∀ b : Fin 8, g.write = .protectBlock b → ∃ f : Byte, exec .protectionWriteCompletion s = .next (finished f) ∧
        ∀ k : Fin 8, f.getLsbD k.val = (s.dir.protect.getLsbD k.val || decide (k = b))) ∧
      (g.write = .unprotectAll → exec .protectionWriteCompletion s = .next (finished 0))) ∧
  (∀ (s : State), s.inReset = false → s.dir.stage.write = .none ∨ s.dir.stage.write = .page →
      exec .protectionWriteCompletion s = .next s) ∧
  (∀ (s : State) (d : Nat), s.inReset = false → s.dir.stage.timer = some d →
      (s.dir.stage.state = .staging → exec .stageExpiry s = .next { s with
        now := max s.now d
        dir := { s.dir with stage := ⟨.empty, none, [], .none, none, false⟩ }
        mgt := { s.mgt with sticky := { s.mgt.sticky with stageExpired := true } } }) ∧
      (s.dir.stage.state = .committing → exec .stageExpiry s = .next { s with
        now := max s.now d
        dir := { s.dir with stage := { s.dir.stage with timer := none, expired := true } } }))

/-- R61, R62, R64, R60: PROTECT BLOCK, PROTECT TARIFFS and UNPROTECT ALL, each with its checks in order; the key level is read as UNPROTECT ALL is taken, and kept as last read (log 5). -/
def Obligations.ProtectionCommands : Prop :=
  ∀ (s : State) (tag block : Byte) (key : Bool), s.Ready →
    let g := s.dir.stage
    (7 < block.toNat → exec (.protectBlock tag block) s = .next (s.replied tag 0x26 .badValue [])) ∧
    (∀ b : Fin 8, b.val = block.toNat →
      (g.state = .committing → exec (.protectBlock tag block) s = .next (s.replied tag 0x26 .busy [])) ∧
      (g.state ≠ .committing → s.dir.protect.getLsbD b.val = true →
        exec (.protectBlock tag block) s = .next (s.replied tag 0x26 .done [])) ∧
      (g.state ≠ .committing → s.dir.protect.getLsbD b.val = false →
        exec (.protectBlock tag block) s = .next { s with
          dir := { s.dir with stage := { g with state := .committing, write := .protectBlock b } }
          mgt := { s.mgt with writing := some (tag, 0x26) } })) ∧
    exec (.protectTariffs tag) s = .next ({ s with dir := { s.dir with tariffs := true } }.replied tag 0x27 .done []) ∧
    (key = false → exec (.unprotectAll tag key) s = .next ({ s with key := key }.replied tag 0x28 .noKey [])) ∧
    (key = true → g.state = .committing → exec (.unprotectAll tag key) s = .next ({ s with key := key }.replied tag 0x28 .busy [])) ∧
    (key = true → g.state ≠ .committing → s.dir.protect = 0 →
      exec (.unprotectAll tag key) s = .next ({ s with key := key, dir := { s.dir with tariffs := false } }.replied tag 0x28 .done [])) ∧
    (key = true → g.state ≠ .committing → s.dir.protect ≠ 0 →
      exec (.unprotectAll tag key) s = .next { s with
        key := key
        dir := { s.dir with tariffs := false, stage := { g with state := .committing, write := .unprotectAll } }
        mgt := { s.mgt with writing := some (tag, 0x28) } })

/-- R65 to R68, R203: READ PROTECTION, READ ENTRY, FIND USER and UNLOCK USER: BAD VALUE first, then BUSY while a write is in progress, then their effect on the store as it stands; the key level is READ PROTECTION's operand and is kept as last read (log 5). -/
def Obligations.EntryCommands : Prop :=
  ∀ (s : State) (tag : Byte) (index : Half) (code : List Byte) (key : Bool), s.Ready → s.dir.wf = true →
    let busyNow := s.dir.stage.state = .committing
    (busyNow → exec (.readProtection tag key) s = .next ({ s with key := key }.replied tag 0x29 .busy [])) ∧
    (¬ busyNow → exec (.readProtection tag key) s = .next ({ s with key := key }.replied tag 0x29 .done
      [s.dir.protect, if s.dir.tariffs then 1 else 0, if key then 1 else 0])) ∧
    (1023 < index.toNat → exec (.readEntry tag index) s = .next (s.replied tag 0x23 .badValue []) ∧
      exec (.unlockUser tag index) s = .next (s.replied tag 0x25 .badValue [])) ∧
    (index.toNat < 1024 → busyNow → exec (.readEntry tag index) s = .next (s.replied tag 0x23 .busy []) ∧
      exec (.unlockUser tag index) s = .next (s.replied tag 0x25 .busy [])) ∧
    (index.toNat < 1024 → ¬ busyNow →
      let e := s.dir.entry index.toNat
      let x := s.dir.shadowOf index.toNat
      exec (.readEntry tag index) s = .next (s.replied tag 0x23 .done ((e.code ++ List.replicate 6 0x20).take 6 ++ List.replicate 8 0x20 ++
        [byteOf e.account.val, byteOf e.cls.val, flagByte e.enabled, byteOf x.failures, flagByte x.locked])) ∧
      ∃ t, exec (.unlockUser tag index) s = .next t ∧
        t = { s.replied tag 0x25 .done [] with dir := { s.dir with shadow := t.dir.shadow } } ∧
        t.dir.shadowOf index.toNat = ⟨0, false⟩ ∧ ∀ j, j ≠ index.toNat → t.dir.shadowOf j = s.dir.shadowOf j) ∧
    (¬ CodeField code → exec (.findUser tag code) s = .next (s.replied tag 0x24 .badValue [])) ∧
    (CodeField code → busyNow → exec (.findUser tag code) s = .next (s.replied tag 0x24 .busy [])) ∧
    (CodeField code → ¬ busyNow →
      (∀ i, code ≠ List.replicate 6 0x20 → (s.dir.entry i).code = code → (∀ j < i, (s.dir.entry j).code ≠ code) →
        exec (.findUser tag code) s = .next (s.replied tag 0x24 .done (be16 i))) ∧
      ((code = List.replicate 6 0x20 ∨ ∀ i, (s.dir.entry i).code ≠ code) →
        exec (.findUser tag code) s = .next (s.replied tag 0x24 .notFound [])))

/-! ## Accounts (chapter 4) -/

/-- R71 to R74, R80, R81, R203: SET ACCOUNT, SET ACCOUNT STATE, CREDIT ACCOUNT and READ ACCOUNT: their checks, the new record with warned re-armed at the threshold, the exhausted sessions restored above the floor, and the data read. -/
def Obligations.AccountCommands : Prop :=
  ∀ (s : State) (tag account state : Byte) (balance overdraft warn amount : Triple) (limit : Byte), s.Ready →
    ∀ a : Fin 256, a.val = account.toNat →
    let x := s.account a
    let i : Instr := .setAccount tag account state balance overdraft warn limit
    let ok := state.toNat ≤ 2 ∧ overdraft.toNat ≤ 8388608 ∧ limit.toNat ≤ 15 ∧ -(overdraft.toNat : Int) ≤ balance.toInt
    let total := x.balance + amount.toInt
    let b := if 8388607 < total then 8388607 else total
    let running (m : Meter) : Bool := decide (m.account = a)
    (¬ ok → exec i s = .next (s.replied tag 0x30 .badValue [])) ∧
    (∀ st : AccountState, st.code = state → ok → exec i s = .next ((s.withAccount a { x with
      state := st, balance := balance.toInt, overdraft := overdraft.toNat, warn := warn.toInt, limit := limit.toNat
      warned := if warn.toInt ≤ balance.toInt then false else x.warned }).replied tag 0x30 .done [])) ∧
    (2 < state.toNat → exec (.setAccountState tag account state) s = .next (s.replied tag 0x31 .badValue [])) ∧
    (∀ st : AccountState, st.code = state → exec (.setAccountState tag account state) s =
      .next ({ s with accounts := s.accounts.set a { x with state := st } }.replied tag 0x31 .done [])) ∧
    (total < -(x.overdraft : Int) → exec (.creditAccount tag account amount) s = .next (s.replied tag 0x32 .badValue [])) ∧
    (-(x.overdraft : Int) ≤ total → exec (.creditAccount tag account amount) s =
      .next ((s.withAccount a { x with balance := b, warned := if x.warn ≤ b then false else x.warned }).replied tag 0x32 .done
        (threeBytes b ++ [if 8388607 < total then 1 else 0]))) ∧
    exec (.readAccount tag account) s = .next (s.replied tag 0x33 .done
      ([x.state.code] ++ threeBytes x.balance ++ threeBytes x.overdraft ++ threeBytes x.warn ++
        [byteOf x.limit, byteOf x.openCount, flagByte x.warned,
          byteOf ((List.finRange 24).filter fun c => (s.meter c).any running).length,
          byteOf ((List.finRange 24).filter fun c => (s.meter c).any fun m => running m && m.exhausted).length]))

/-! ## Calendar and tariff unit (chapter 5) -/

/-- R92, R93, R95, R102: SET CLOCK, READ CLOCK and READ PERIOD: an acceptable time is set, the clock is valid, the next boundary stands one second away, the day is recomputed, every running meter is flagged, and the period is evaluated with its reports (`PeriodMoves`). -/
def Obligations.ClockCommands : Prop :=
  ∀ (s : State) (tag se mi ho wd da mo ye : Byte), s.Ready →
    let days := if mo = 2 then (if ye.toNat % 4 = 0 then 29 else 28) else if mo ∈ [4, 6, 9, 11] then 30 else 31
    let ok := se.toNat ≤ 59 ∧ mi.toNat ≤ 59 ∧ ho.toNat ≤ 23 ∧ wd.toNat ≤ 6 ∧ 1 ≤ mo.toNat ∧ mo.toNat ≤ 12 ∧ ye.toNat ≤ 99 ∧
      1 ≤ da.toNat ∧ da.toNat ≤ days
    let cal := Calendar.withDay s.params.holidayWeekday { s.cal with
      clock := ⟨se.toNat, mi.toNat, ho.toNat, wd.toNat, da.toNat, mo.toNat, ye.toNat⟩, valid := true, boundary := some (s.now + 10) }
    let k := s.cal.clock
    (¬ ok → exec (.setClock tag se mi ho wd da mo ye) s = .next (s.replied tag 0x40 .badValue [])) ∧
    (ok → exec (.setClock tag se mi ho wd da mo ye) s = .next ((reevaluate { s with
      cal := cal, meters := Vector.ofFn fun c => (s.meter c).map fun m => { m with clockChanged := true } }).replied tag 0x40 .done [])) ∧
    exec (.readClock tag) s = .next (s.replied tag 0x41 .done
      [byteOf k.seconds, byteOf k.minutes, byteOf k.hours, byteOf k.weekday, byteOf k.day, byteOf k.month, byteOf k.year,
        if s.cal.valid then 1 else 0]) ∧
    exec (.readPeriod tag) s = .next (s.replied tag 0x4F .done
      [byteOf s.cal.period.val, byteOf s.cal.weekday, if s.cal.holiday then 1 else 0, byteOf (s.cal.minute / 256), byteOf s.cal.minute])

/-- R100, R101, R105, R114: an evaluation between boundaries: the period that R100 gives becomes current; when it differs, every running meter opens its segment, and the classes whose permit has changed are reported. R105: after a change of period a permit report goes out for each class whose permit differs between the two periods; no rule states the value of the M6 that a removed waiter gets, and 0 is the model's choice (log 39); a report to EXPEL leaves a running expel timer as it is (the model's reading, log 21). -/
def Obligations.PeriodMoves : Prop :=
  (∀ s : State, s.Coherent → s.cal.weekday < 7 → (∀ c m, s.meter c = some m → m.segments ≠ []) →
      ∃ q, s.cal.Gives q ∧
        let s1 : State := { s with cal := s.cal.evaluated q }
        (q = s.cal.period → reevaluate s = s1) ∧
        (q ≠ s.cal.period →
          State.Reported
            { s1 with meters := Vector.ofFn fun c => (s.meter c).map fun m => { m with
              segments := match m.segments.getLast? with
                | some g => segmentsAt q.val m.segments.dropLast g
                | none => [] } }
            (fun k => decide (s.cal.permits[s.cal.period][k] ≠ s.cal.permits[q][k])) (reevaluate s))) ∧
  (∀ (s : State) (old : Fin 8), s.Coherent →
      s.Reported (fun k => decide (s.cal.permits[old][k] ≠ s.cal.permits[s.cal.period][k])) (permitReports old s))

/-- R62, R96 to R106: the six tariff loads: PROTECTED first, BAD VALUE next, and then the table is written; LOAD HOLIDAY recomputes the day, and it, LOAD SCHEDULE and LOAD DAYSTART evaluate the period (`PeriodMoves`). A LOAD PERMIT that changes the permit in force reports it (R105): no rule states the value of the M6 that a removed waiter gets, and 0 is the model's choice (log 39); a report to EXPEL leaves a running expel timer as it is (the model's reading, log 21). -/
def Obligations.TariffLoads : Prop :=
  ∀ (s : State) (tag entry month day enabled weekdays hour minute period cls permit setup grace priority essential : Byte) (rate maximum : Half), s.Ready →
    let holiday : Instr := .loadHoliday tag entry month day
    let sched : Instr := .loadSchedule tag entry enabled weekdays hour minute period
    let daystart : Instr := .loadDaystart tag entry period
    let rateOf : Instr := .loadRate tag period cls rate
    let permitFor : Instr := .loadPermit tag period cls permit
    let class_ : Instr := .loadClass tag cls setup maximum grace priority essential
    let okHoliday := entry.toNat ≤ 15 ∧ ((month = 0 ∧ day = 0) ∨ (1 ≤ month.toNat ∧ month.toNat ≤ 12 ∧ 1 ≤ day.toNat ∧
      day.toNat ≤ if month = 2 then 29 else if month ∈ [4, 6, 9, 11] then 30 else 31))
    let okSched := entry.toNat ≤ 15 ∧ enabled.toNat ≤ 1 ∧ weekdays.toNat ≤ 127 ∧ hour.toNat ≤ 23 ∧ minute.toNat ≤ 59 ∧ period.toNat ≤ 7
    let okClass := cls.toNat ≤ 7 ∧ 1 ≤ maximum.toNat ∧ maximum.toNat ≤ 1440 ∧ priority.toNat ≤ 1 ∧ essential.toNat ≤ 1
    let c := s.cal
    let date := if month = 0 then none else some (month.toNat, day.toNat)
    let listed (e : Fin 16) : Calendar := Calendar.withDay s.params.holidayWeekday { c with holidays := c.holidays.set e date }
    (s.dir.tariffs = true →
      exec holiday s = .next (s.replied tag 0x43 .isProtected []) ∧ exec sched s = .next (s.replied tag 0x45 .isProtected []) ∧
      exec daystart s = .next (s.replied tag 0x47 .isProtected []) ∧ exec rateOf s = .next (s.replied tag 0x49 .isProtected []) ∧
      exec permitFor s = .next (s.replied tag 0x4B .isProtected []) ∧ exec class_ s = .next (s.replied tag 0x4D .isProtected [])) ∧
    (s.dir.tariffs = false →
      (¬ okHoliday → exec holiday s = .next (s.replied tag 0x43 .badValue [])) ∧
      (∀ e : Fin 16, e.val = entry.toNat → okHoliday → exec holiday s = .next ((reevaluate { s with cal := listed e }).replied tag 0x43 .done [])) ∧
      (¬ okSched → exec sched s = .next (s.replied tag 0x45 .badValue [])) ∧
      (∀ e : Fin 16, e.val = entry.toNat → ∀ p : Fin 8, p.val = period.toNat → okSched →
        exec sched s = .next ((reevaluate { s with cal := { c with
          schedule := c.schedule.set e ⟨decide (enabled = 1), weekdays.setWidth 7, hour.toNat, minute.toNat, p⟩ } }).replied tag 0x45 .done [])) ∧
      (6 < entry.toNat ∨ 7 < period.toNat → exec daystart s = .next (s.replied tag 0x47 .badValue [])) ∧
      (∀ w : Fin 7, w.val = entry.toNat → ∀ p : Fin 8, p.val = period.toNat →
        exec daystart s = .next ((reevaluate { s with cal := { c with dayStart := c.dayStart.set w p } }).replied tag 0x47 .done [])) ∧
      (7 < period.toNat ∨ 7 < cls.toNat → exec rateOf s = .next (s.replied tag 0x49 .badValue []) ∧
        exec permitFor s = .next (s.replied tag 0x4B .badValue [])) ∧
      (2 < permit.toNat → exec permitFor s = .next (s.replied tag 0x4B .badValue [])) ∧
      (∀ p : Fin 8, p.val = period.toNat → ∀ k : Fin 8, k.val = cls.toNat →
        exec rateOf s = .next ({ s with cal := { c with rates := c.rates.set p (c.rates[p].set k rate.toNat) } }.replied tag 0x49 .done []) ∧
        ∀ x : Permit, x.code = permit →
          let s1 : State := { s with cal := { c with permits := c.permits.set p (c.permits[p].set k x) } }
          (p ≠ c.period ∨ x = c.permits[p][k] → exec permitFor s = .next (s1.replied tag 0x4B .done [])) ∧
          (p = c.period → x ≠ c.permits[p][k] → s.Coherent → ∃ t, exec permitFor s = .next t ∧
            s1.Reported (fun j => decide (j = k)) { t with mgt := { t.mgt with replies := s.mgt.replies } } ∧
            t.mgt.replies = s.mgt.replies ++ [⟨tag, 0x4B, .done, []⟩])) ∧
      (¬ okClass → exec class_ s = .next (s.replied tag 0x4D .badValue [])) ∧
      (∀ k : Fin 8, k.val = cls.toNat → okClass → exec class_ s = .next ({ s with cal := { c with
        classes := c.classes.set k ⟨setup.toNat, maximum.toNat, grace.toNat, decide (priority = 1), decide (essential = 1)⟩ } }.replied
          tag 0x4D .done [])))

/-- R96, R98, R99, R103, R104, R106: the reads of the six tables, and BAD VALUE for a number out of range; nothing else changes. That READ HOLIDAY answers an empty entry with month 0 and day 0 is the model's reading (log 37). -/
def Obligations.TariffReads : Prop :=
  ∀ (s : State) (tag n : Byte), s.Ready →
    let c := s.cal
    (15 < n.toNat → exec (.readHoliday tag n) s = .next (s.replied tag 0x44 .badValue []) ∧
      exec (.readSchedule tag n) s = .next (s.replied tag 0x46 .badValue [])) ∧
    (∀ e : Fin 16, e.val = n.toNat →
      exec (.readHoliday tag n) s = .next (s.replied tag 0x44 .done
        (match c.holidays[e] with | some (m, d) => [byteOf m, byteOf d] | none => [0, 0])) ∧
      exec (.readSchedule tag n) s = .next (s.replied tag 0x46 .done
        [flagByte c.schedule[e].enabled, c.schedule[e].weekdays.setWidth 8, byteOf c.schedule[e].hour, byteOf c.schedule[e].minute,
          byteOf c.schedule[e].period.val])) ∧
    exec (.readDaystart tag) s = .next (s.replied tag 0x48 .done ((List.finRange 7).map fun w => byteOf c.dayStart[w].val)) ∧
    (7 < n.toNat → exec (.readRate tag n) s = .next (s.replied tag 0x4A .badValue []) ∧
      exec (.readPermit tag n) s = .next (s.replied tag 0x4C .badValue []) ∧
      exec (.readClass tag n) s = .next (s.replied tag 0x4E .badValue [])) ∧
    (∀ p : Fin 8, p.val = n.toNat →
      exec (.readRate tag n) s = .next (s.replied tag 0x4A .done
        ((List.finRange 8).flatMap fun k => [byteOf (c.rates[p][k] / 256), byteOf c.rates[p][k]])) ∧
      exec (.readPermit tag n) s = .next (s.replied tag 0x4C .done ((List.finRange 8).map fun k => c.permits[p][k].code)) ∧
      exec (.readClass tag n) s = .next (s.replied tag 0x4E .done
        [byteOf c.classes[p].setup, byteOf (c.classes[p].maximum / 256), byteOf c.classes[p].maximum, byteOf c.classes[p].grace,
          flagByte c.classes[p].priority, flagByte c.classes[p].essential]))

/-- R90, R91, R78: a second boundary: the clock moves on one second, a midnight recomputes the day, a minute rollover evaluates the period, every meter takes the boundary report once in the order the operand gives (log 6), and a changed period then reports its permits (log 15). An invalid clock has no boundary. -/
def Obligations.SecondBoundary : Prop :=
  ∀ (s : State) (order : List (Fin 24)), s.inReset = false → order.Nodup →
    (∀ d, s.cal.boundary = some d → s.cal.valid = true → s.cal.weekday < 7 → s.cal.clock.weekday < 7 → s.params.holidayWeekday < 7 →
      let k := s.cal.clock
      let days := if k.month = 2 then (if k.year % 4 = 0 then 29 else 28) else if k.month ∈ [4, 6, 9, 11] then 30 else 31
      let minuteOver := 59 ≤ k.seconds
      let hourOver := minuteOver ∧ 59 ≤ k.minutes
      let midnight := hourOver ∧ 23 ≤ k.hours
      let monthOver := midnight ∧ days ≤ k.day
      let yearOver := monthOver ∧ 12 ≤ k.month
      let clock : Clock :=
        ⟨if minuteOver then 0 else k.seconds + 1, if hourOver then 0 else if minuteOver then k.minutes + 1 else k.minutes,
          if midnight then 0 else if hourOver then k.hours + 1 else k.hours, if midnight then (k.weekday + 1) % 7 else k.weekday,
          if monthOver then 1 else if midnight then k.day + 1 else k.day,
          if yearOver then 1 else if monthOver then k.month + 1 else k.month,
          if yearOver then (if k.year < 99 then k.year + 1 else 0) else k.year⟩
      let c1 : Calendar := { s.cal with clock := clock, boundary := some (d + 10) }
      let c2 := if midnight then c1.withDay s.params.holidayWeekday else c1
      ∃ q, (minuteOver → c2.Gives q) ∧ (¬ minuteOver → q = s.cal.period) ∧
        let s1 : State := { s with now := max s.now d, cal := if minuteOver then c2.evaluated q else c2 }
        let served := (order ++ (List.finRange 24).filter fun c => decide (c ∉ order)).foldl (fun t c => meterBoundary s.cal.period q c t) s1
        (q = s.cal.period → exec (.secondBoundary order) s = .next served) ∧
        (q ≠ s.cal.period → exec (.secondBoundary order) s = .next (permitReports s.cal.period served))) ∧
    (s.cal.valid = false ∨ s.cal.boundary = none → exec (.secondBoundary order) s = .next s)

/-! ## Metering (chapter 6) -/

/-- R76, R77, R79, R110, R112, R116: a charge of `n` units to a running session: charge, segment and debit (`chargedWith`); a shortfall exhausts the session, with M17 and its grace timer, and closes it at once when the class grace is 0. -/
def Obligations.SessionCharged : Prop :=
  ∀ (s : State) (c : Fin 24) (n : Nat), ∀ m, s.meter c = some m → ∀ gs g, m.segments = gs ++ [g] →
    -((s.account m.account).overdraft : Int) ≤ (s.account m.account).balance →
    let available := ((s.account m.account).balance + (s.account m.account).overdraft).toNat
    let t := s.chargedWith c m gs g n
    let grace := s.cal.classes[m.cls].grace
    (n = 0 → chargeUnits c n s = (s, 0) ∧ chargeSession c n s = s) ∧
    (0 < n → chargeUnits c n s = (t, n - available)) ∧
    (0 < n → n ≤ available ∨ m.exhausted = true → chargeSession c n s = t) ∧
    (available < n → m.exhausted = false →
      let dry (x : Meter) : Meter := { x with exhausted := true, grace := if grace = 0 then x.grace else some (s.now + grace * 10) }
      let u : State := State.updLine { t with meters := t.meters.set c ((t.meter c).map dry) } m.line (Line.request s.now 17 grace)
      (grace ≠ 0 → chargeSession c n s = u) ∧
      (grace = 0 → chargeSession c n s = closeSession c .budget u))

/-- R111 to R113, R115, R123: a FREE meter takes nothing at a second boundary; and what a running meter does at a second boundary with ended period `p` and current period `q`: the accrual at the effective rate, the whole units charged, the second counted, the segments moved, the time warning and the time limit. -/
def Obligations.MeterAccrues : Prop :=
  (∀ (s : State) (p q : Fin 8) (c : Fin 24), s.meter c = none → meterBoundary p q c s = s) ∧
  ∀ (s : State) (p q : Fin 8) (c : Fin 24), ∀ m, s.meter c = some m → ∀ gs g, m.segments = gs ++ [g] →
    gs.length < 3 →
    let rate := s.cal.rates[p][m.cls] * m.factor / 16
    let a := m.accumulator + if 65535 < rate then 65535 else rate
    let charged := chargeSession c (a / 3600) { s with meters := s.meters.set c (some { m with
      accumulator := a % 3600, elapsed := m.elapsed + 1, segments := gs ++ [{ g with seconds := g.seconds + 1 }] }) }
    (charged.meter c = none → meterBoundary p q c s = charged) ∧
    ∀ m2, charged.meter c = some m2 →
      let moved : Meter := { m2 with segments := segmentsAt q.val gs { g with seconds := g.seconds + 1, units := g.units + a / 3600 } }
      (m2.elapsed = m2.maximum → meterBoundary p q c s = closeSession c .timeLimit { charged with meters := charged.meters.set c (some moved) }) ∧
      (m2.elapsed ≠ m2.maximum → 300 < m2.maximum → m2.elapsed + 300 = m2.maximum →
        meterBoundary p q c s = { charged with meters := charged.meters.set c (some { moved with timeWarned := true }) }.updLine m2.line
          (Line.request s.now 15 5)) ∧
      (m2.elapsed ≠ m2.maximum → m2.maximum ≤ 300 ∨ m2.elapsed + 300 ≠ m2.maximum →
        meterBoundary p q c s = { charged with meters := charged.meters.set c (some moved) })

/-- R121, R122, R138, R139, R151, R152, R86: the close of the session on channel `c`: the half unit rounded up, the ticket with its figures, its serial and its place in the close list, the open count, the meter freed, the line on its way, the channel and its controls; the serial counter moves to the next value that no CLOSED row carries. -/
def Obligations.SessionCloses : Prop :=
  ∀ (s : State) (c : Fin 24) (why : CloseReason), ∀ m0, s.meter c = some m0 → (s.line m0.line).state = .connected →
    ∀ x, s.row m0.row = .reserved x → x.channel = c →
    let s1 := if 1800 ≤ m0.accumulator then (chargeUnits c 1 s).1 else s
    ∀ m, s1.meter c = some m →
    ∃ n, closeSession c why s = drainEnd { s1 with
        tickets := {
          rows := s.tickets.rows.set m0.row (.closed
            ⟨x.line, x.user, x.account, x.cls, x.start, s.tickets.serial,
              ⟨s.cal.clock.year, s.cal.clock.month, s.cal.clock.day, s.cal.clock.hours, s.cal.clock.minutes, s.cal.clock.seconds⟩,
              m.elapsed, m.charge, m.debited, m.excess, why,
              ⟨m.clockChanged, m.timeWarned, m.expelNoticed, m0.exhausted, (s.line m0.line).idleWarned⟩, m.segments⟩)
          closeList := s.tickets.closeList ++ [m0.row]
          serial := n }
        accounts := s1.accounts.set m0.account { s1.account m0.account with openCount := (s1.account m0.account).openCount - 1 }
        meters := s1.meters.set c none
        lines := s1.lines.set m0.line (Line.ended s.now why (s1.line m0.line))
        channels := s.channels.set c (Channel.ended (s.now + s.params.close * 10) why (s.channel c))
        trunk := { s.trunk with controls := controlsEnded c why s.trunk.controls } } ∧
      (1 ≤ s.tickets.serial → s.tickets.serial ≤ 65535 →
        ∃ k, 1 ≤ k ∧ k ≤ 65 ∧ n = serialAfter s.tickets.serial k ∧
          (∀ r, (closeSession c why s).row r ≠ .free → ((closeSession c why s).row r).serial ≠ some n) ∧
          ∀ j, 1 ≤ j → j < k → ∃ r, ((closeSession c why s).row r).serial = some (serialAfter s.tickets.serial j))

/-- R17, R116, R119, R120, R138, R15, R10: the events that close the session on channel `c` for line `l`, each with its reason, and their second part. -/
def Obligations.CloseCauses : Prop :=
  ∀ (s : State) (c : Fin 24) (tag line : Byte), s.inReset = false → ∀ m, s.meter c = some m → ∀ l, (s.channel c).line = some l → m.line = l →
    (s.channel c).state = .connected → (s.line l).state = .connected → (s.line l).channel = some c →
    (∀ d, m.grace = some d → exec (.graceExpiry c) s = .next (closeSession c .budget { s with now := max s.now d })) ∧
    (∀ d, m.expel = some d → exec (.expelExpiry c) s = .next (closeSession c .expelled { s with now := max s.now d })) ∧
    exec (.close c) s = .next (closeSession c .hostLogoff s) ∧
    (∀ d, (s.line l).timers.idle = some d → (s.line l).idleWarned = true →
      exec (.idleTimerExpiry l) s = .next (closeSession c .idle { s with now := max s.now d })) ∧
    (∀ d, (s.line l).timers.carrier = some d →
      let t := closeSession c .carrierLost { s with now := max s.now d }
      exec (.carrierLoss l) s = .next (t.setLine l (Line.clearing (max s.now d) (t.line l)))) ∧
    (s.Ready → l.val = line.toNat →
      exec (.forceClear tag line) s = .next ((closeSession c .operator s).replied tag 0x15 .done []))

/-! ## Channels (chapter 7) -/

/-- R131, R132, R148, R175: GRANT, when the grant conditions hold as it is taken: the head waiter gets its lowest-numbered usable channel and the lowest-numbered free row, in one event; when they do not hold, nothing happens. That the conditions as GRANT is taken decide, with no memory of what caused them, is the model's choice (log 29). -/
def Obligations.Grant : Prop :=
  ∀ s : State, s.inReset = false →
    let usable (w : Waiter) (c : Fin 24) := (s.channel c).state = .free ∧ (∀ x ∈ s.trunk.controls, x.channel = c → x.kind.slot ≠ 0) ∧
      ((s.channel c).priorityOnly = true → w.priority = true)
    (∀ w rest, s.queue = w :: rest → (s.line w.line).state = .waiting → (∀ v ∈ rest, v.line ≠ w.line) →
      ∀ a, (s.line w.line).admission = some a → ∀ c, usable w c → (∀ j, j < c → ¬ usable w j) →
      ∀ r, s.row r = .free → (∀ j, j < r → s.row j ≠ .free) →
      exec .grant s = .next { s with
        queue := rest
        lines := s.lines.set w.line { s.line w.line with state := .offered, channel := some c }
        channels := s.channels.set c { s.channel c with
          state := .offered, line := some w.line, row := some r, timer := some (s.now + s.params.offer * 10) }
        tickets := { s.tickets with rows := s.tickets.rows.set r (.reserved ⟨c, w.line, a.user, a.account, a.cls, none⟩) }
        trunk := { s.trunk with controls := s.trunk.controls ++ [⟨c, .opened w.line a.user a.account a.cls⟩] } }) ∧
    (s.queue = [] → exec .grant s = .next s) ∧
    (∀ w rest, s.queue = w :: rest → (∀ c, ¬ usable w c) → exec .grant s = .next s) ∧
    ((∀ r, s.row r ≠ .free) → exec .grant s = .next s)

/-- R134, R109, R110, R149: an ACCEPT of an offer makes it a session: the channel, the line with its idle supervision, the meter at its start, the start stamp; then the setup charge, and M13 and the expel notice unless that charge closed the session. -/
def Obligations.OfferAccepted : Prop :=
  ∀ (s : State) (c : Fin 24), s.inReset = false → (s.channel c).state = .offered →
    ∀ l, (s.channel c).line = some l → (s.line l).state = .offered → ∀ r, (s.channel c).row = some r →
    ∀ a, (s.line l).admission = some a → ∀ x, s.row r = .reserved x → x.channel = c → x.start = none →
    let g := s.groupOf (s.line l)
    let k := s.cal.clock
    let class_ := s.cal.classes[a.cls]
    let started : State := { s with
      channels := s.channels.set c { s.channel c with state := .connected, hostFlow := .go, timer := none }
      trunk := { s.trunk with announced := s.trunk.announced.set c .go }
      lines := s.lines.set l { s.line l with
        state := .connected, idleWarned := false
        timers := { (s.line l).timers with idle := if g.idleWarn = 0 then none else some (s.now + g.idleWarn * 600) } }
      tickets := { s.tickets with rows := s.tickets.rows.set r (.reserved { x with
        start := some ⟨k.year, k.month, k.day, k.hours, k.minutes, k.seconds⟩ }) }
      meters := s.meters.set c (some
        ⟨l, a.account, a.cls, r, g.factor, 60 * class_.maximum, 0, 0, 0, 0, 0, [⟨s.cal.period.val, 0, 0⟩], false, none, none,
          false, false, false⟩) }
    let charged := chargeSession c class_.setup started
    (charged.meter c = none → exec (.accept c) s = .next charged) ∧
    ∀ m, charged.meter c = some m →
      let greeted := charged.updLine l (Line.request s.now 13 0)
      (s.cal.permits[s.cal.period][a.cls] ≠ .expel → exec (.accept c) s = .next greeted) ∧
      (s.cal.permits[s.cal.period][a.cls] = .expel → exec (.accept c) s = .next ({ greeted with
        meters := greeted.meters.set c (some { m with expelNoticed := true, expel := some (s.now + s.params.expelGrace * 600) }) }.updLine
          m.line (Line.request s.now 18 s.params.expelGrace)))

/-- R135 to R137, R85, R150: the ends of an offer: REJECT and CLOSE free the channel; the offer timeout quarantines it and takes an unsent OPEN back; carrier loss and FORCE CLEAR abandon the offer with a CLOSE. The row is freed, the admission ends, and the line leaves with its message; no rule states the value of M12, and 0 is the model's choice (log 39); an abandoned offer leaves the channel's last close reason as it was (the model's reading, log 35). -/
def Obligations.OfferEnds : Prop :=
  ∀ (s : State) (c : Fin 24) (reason tag line : Byte), s.inReset = false → (s.channel c).state = .offered →
    ∀ l, (s.channel c).line = some l → (s.line l).state = .offered → (s.line l).channel = some c → ∀ r, (s.channel c).row = some r →
    ∀ a, (s.line l).admission = some a → ∀ x, s.row r = .reserved x → x.channel = c →
    let k := s.channel c
    let gone (ln : Line) : Line := { ln with admission := none, channel := none }
    let ended (now : Nat) (ln : Line) (k : Channel) (q : List Control) : State := drainEnd { s with
      now := now
      tickets := { s.tickets with rows := s.tickets.rows.set r .free }
      accounts := s.accounts.set a.account { s.account a.account with openCount := (s.account a.account).openCount - 1 }
      lines := s.lines.set l ln
      channels := s.channels.set c k
      trunk := { s.trunk with controls := q } }
    let closing (now : Nat) : Channel := { k with state := .closing, row := none, timer := some (now + s.params.close * 10) }
    let refused (now : Nat) : Line := Line.draining now (gone (Line.request now 12 0 (s.line l)))
    exec (.reject c reason) s = .next (ended s.now (refused s.now)
      { k with state := .free, line := none, row := none, timer := none, lastReject := reason } s.trunk.controls) ∧
    exec (.close c) s = exec (.reject c 0) s ∧
    (∀ d, k.timer = some d → exec (.offerTimeout c) s = .next (ended (max s.now d) (refused (max s.now d))
      { k with state := .quarantined, row := none, timer := none }
      (s.trunk.controls.filter fun y => match y.kind with
        | .opened _ _ _ _ => decide (y.channel ≠ c)
        | _ => true))) ∧
    (∀ d, (s.line l).timers.carrier = some d → exec (.carrierLoss l) s = .next (ended (max s.now d)
      (Line.clearing (max s.now d) (gone (s.line l))) (closing (max s.now d)) (joinControls s.trunk.controls ⟨c, .close .carrierLost⟩))) ∧
    (s.Ready → l.val = line.toNat → exec (.forceClear tag line) s = .next ((ended s.now (Line.draining s.now (gone (s.line l)))
      (closing s.now) (joinControls s.trunk.controls ⟨c, .close .operator⟩)).replied tag 0x15 .done []))

/-- R138, R140, R141, R178: the downward controls and data in the states that take them, ignore them, or count them as a protocol error with the sticky warning; and the close timeout. R178, R3: a data segment for a connected channel fills the transmit buffer of its line; a fill of 112 or more under an announced GO hands up FLOW STOP (judged once, after the segment: log 33). -/
def Obligations.DownwardControls : Prop :=
  (∀ (s : State) (c : Fin 24) (reason : Byte) (go : Bool) (chars : List Byte), s.inReset = false →
      let k := s.channel c
      let wrong : State := { s with
        trunk := { s.trunk with counters := { s.trunk.counters with
          protocol := if s.trunk.counters.protocol < 65535 then s.trunk.counters.protocol + 1 else s.trunk.counters.protocol } }
        mgt := { s.mgt with sticky := { s.mgt.sticky with warning := true } } }
      let confirmed : State := { s with channels := s.channels.set c { k with state := .free, line := none, timer := none } }
      (k.state = .connected → exec (.flow c go) s = .next { s with channels := s.channels.set c { k with
        hostFlow := if go then .go else .stop } }) ∧
      (k.state = .closing → exec (.closed c) s = .next confirmed ∧ exec (.close c) s = .next confirmed ∧ exec (.accept c) s = .next s ∧
        exec (.reject c reason) s = .next s ∧ exec (.flow c go) s = .next s ∧
        ∀ d, k.timer = some d → exec (.closeTimeout c) s = .next { s with
          now := max s.now d, channels := s.channels.set c { k with state := .quarantined, timer := none } }) ∧
      (k.state = .free ∨ k.state = .quarantined → exec (.accept c) s = .next wrong ∧ exec (.reject c reason) s = .next wrong ∧
        exec (.close c) s = .next wrong ∧ exec (.closed c) s = .next wrong ∧ exec (.flow c go) s = .next wrong ∧
        exec (.dataSegment c chars) s = .next wrong) ∧
      (k.state = .offered → exec (.closed c) s = .next wrong ∧ exec (.flow c go) s = .next wrong) ∧
      (k.state = .connected → exec (.accept c) s = .next wrong ∧ exec (.reject c reason) s = .next wrong ∧ exec (.closed c) s = .next wrong) ∧
      (k.state = .offered ∨ k.state = .closing → exec (.dataSegment c chars) s = .next s)) ∧
  (∀ (s : State) (c : Fin 24) (chars : List Byte), s.inReset = false → (s.channel c).state = .connected →
      ∀ l, (s.channel c).line = some l →
      let ln := (s.line l).placeAll chars
      (ln.tx.length < 112 ∨ s.trunk.announced[c] = .stop → exec (.dataSegment c chars) s = .next (s.setLine l ln)) ∧
      (112 ≤ ln.tx.length → s.trunk.announced[c] = .go → exec (.dataSegment c chars) s = .next { s.setLine l ln with trunk := { s.trunk with
        announced := s.trunk.announced.set c .stop
        controls := joinControls s.trunk.controls ⟨c, .flow .stop⟩ } }))

/-- R127, R128: a waiter's notice timer queues M10 with its present position and starts again unless the interval is 0; its wait timer takes it out of the queue with M11; no rule states the value of M11, and 0 is the model's choice (log 39). -/
def Obligations.WaiterTimers : Prop :=
  ∀ (s : State) (l : Fin 32), s.inReset = false → (s.line l).state = .waiting →
    ∀ ahead w behind, s.queue = ahead ++ w :: behind → w.line = l → (∀ v ∈ ahead, v.line ≠ l) → (∀ v ∈ behind, v.line ≠ l) →
    (∀ d, w.notice = some d → exec (.noticeTimerExpiry l) s = .next { s with
      now := max s.now d
      lines := s.lines.set l (Line.request (max s.now d) 10 (ahead.length + 1 : Nat) (s.line l))
      queue := ahead ++ { w with
        notice := if s.params.queueNotice = 0 then none else some (max s.now d + s.params.queueNotice * 10) } :: behind }) ∧
    ∀ a, (s.line l).admission = some a → exec (.waitExpiry l) s = .next (drainEnd { s with
      now := max s.now w.wait
      queue := ahead ++ behind
      accounts := s.accounts.set a.account { s.account a.account with openCount := (s.account a.account).openCount - 1 }
      lines := s.lines.set l (Line.draining (max s.now w.wait)
        { Line.request (max s.now w.wait) 11 0 (s.line l) with admission := none, channel := none }) })

/-- R142: SET CHANNEL PRIORITY. R143: CLEAR CHANNEL. R144: READ CHANNEL, a row or line of 0 also when absent. R145: READ QUEUE, the waiters head first with the whole seconds since their entry, at most 3600 (log 28). Whole seconds are rounded down (log 10). -/
def Obligations.ChannelCommands : Prop :=
  ∀ (s : State) (tag channel flag : Byte), s.Ready →
    (channel = 0 ∨ 24 < channel.toNat → exec (.setChannelPriority tag channel flag) s = .next (s.replied tag 0x50 .badValue []) ∧
      exec (.clearChannel tag channel) s = .next (s.replied tag 0x51 .badValue []) ∧
      exec (.readChannel tag channel) s = .next (s.replied tag 0x52 .badValue [])) ∧
    (1 < flag.toNat → exec (.setChannelPriority tag channel flag) s = .next (s.replied tag 0x50 .badValue [])) ∧
    (∀ c : Fin 24, c.val + 1 = channel.toNat →
      let k := s.channel c
      (flag.toNat ≤ 1 → exec (.setChannelPriority tag channel flag) s =
        .next ({ s with channels := s.channels.set c { k with priorityOnly := decide (flag = 1) } }.replied tag 0x50 .done [])) ∧
      (k.state = .quarantined → exec (.clearChannel tag channel) s =
        .next ({ s with channels := s.channels.set c { k with state := .free, line := none } }.replied tag 0x51 .done [])) ∧
      (k.state ≠ .quarantined → exec (.clearChannel tag channel) s = .next (s.replied tag 0x51 .badState [])) ∧
      exec (.readChannel tag channel) s = .next (s.replied tag 0x52 .done
        [k.state.code, (match k.line with | some l => byteOf l.val | none => 0), (match k.row with | some r => byteOf r.val | none => 0),
          flagByte k.priorityOnly, (match k.hostFlow with | .go => 1 | .stop => 0),
          (match k.timer with | some d => byteOf ((d - s.now) / 10) | none => 0), k.lastReject, byteOf k.lastClose])) ∧
    exec (.readQueue tag) s = .next (s.replied tag 0x53 .done (byteOf s.queue.length :: s.queue.flatMap fun w =>
      let n := min 3600 ((s.now - w.entered) / 10)
      [byteOf (w.line.val + if w.priority then 128 else 0), byteOf (n / 256), byteOf n]))

/-! ## Tickets and load monitor (chapters 8 and 9) -/

/-- R154 to R156, R202: FETCH TICKET returns the head of the close list in 56 bytes, or EMPTY; RELEASE TICKET frees the CLOSED row that carries the serial; READ TICKET COUNTS returns the three counts and the next serial. -/
def Obligations.TicketCommands : Prop :=
  ∀ (s : State) (tag : Byte) (serial : Half), s.Ready →
    let three (n : Nat) : List Byte := [byteOf (n / 65536), byteOf (n / 256), byteOf n]
    let stamp (k : Stamp) : List Byte := [byteOf k.year, byteOf k.month, byteOf k.day, byteOf k.hours, byteOf k.minutes, byteOf k.seconds]
    let bit (b : Bool) (n : Nat) : Nat := if b then n else 0
    let segments (t : Ticket) : List Byte := t.segments.flatMap fun g => byteOf g.period :: (three g.seconds ++ three g.units)
    let count (p : Row → Bool) : Byte := byteOf ((List.finRange 64).filter fun r => p (s.row r)).length
    (s.tickets.closeList = [] → exec (.fetchTicket tag) s = .next (s.replied tag 0x60 .empty [])) ∧
    (∀ r rest, s.tickets.closeList = r :: rest → ∀ t, s.row r = .closed t →
      exec (.fetchTicket tag) s = .next (s.replied tag 0x60 .done
        (([byteOf (t.serial / 256), byteOf t.serial, byteOf t.line.val] ++ (t.user ++ List.replicate 6 0x20).take 6 ++
          [byteOf t.account.val, byteOf t.cls.val] ++ (match t.start with | some k => stamp k | none => List.replicate 6 0) ++
          stamp t.stop ++ three t.elapsed ++ three t.charge ++ three t.excess ++
          [byteOf t.reason.code, byteOf (bit t.flags.clockChanged 1 + bit t.flags.timeWarned 2 + bit t.flags.expelNoticed 4 +
            bit t.flags.exhausted 8 + bit t.flags.idleWarned 16), byteOf t.segments.length] ++
          segments t ++ List.replicate 56 0).take 56))) ∧
    (serial = 0 → exec (.releaseTicket tag serial) s = .next (s.replied tag 0x61 .badValue [])) ∧
    (serial ≠ 0 →
      (∀ r, (s.row r).serial = some serial.toNat → (∀ j, j ≠ r → (s.row j).serial ≠ some serial.toNat) →
        exec (.releaseTicket tag serial) s = .next ({ s with tickets := { s.tickets with
          rows := s.tickets.rows.set r .free
          closeList := s.tickets.closeList.filter (fun x => decide (x ≠ r)) } }.replied tag 0x61 .done [])) ∧
      ((∀ r, (s.row r).serial ≠ some serial.toNat) →
        exec (.releaseTicket tag serial) s = .next (s.replied tag 0x61 .notFound []))) ∧
    exec (.readTicketCounts tag) s = .next (s.replied tag 0x62 .done
      [count fun r => decide (r = .free), count fun r => match r with | .reserved _ => true | .free | .closed _ => false,
        count fun r => r.serial.isSome, byteOf (s.tickets.serial / 256), byteOf s.tickets.serial])

/-- R159 to R163, R165 to R167: a sample (log 3) stores every quantity (W2 by R160, the model's reading against a remark of R168: log 38) and decides the flags and the event of the enabled watches; LOAD WATCH starts a watch afresh from its stored value; ACK ALERT clears the event of an enabled LATCHED watch; READ WATCH returns it all with the ALERT and shed states (its flags and event as one set, log 11). R164: the ALERT pin is high while ALERT is asserted under active high, and while it is clear under active low; in reset it is high (a LOAD PARAMETERS gives it the level of the new polarity at once: ParametersAndCounters). -/
def Obligations.LoadMonitor : Prop :=
  ∀ (s : State) (tag n enabled mode upper lower critical hysteresis : Byte), s.inReset = false →
    (∀ d, s.sample = some d → exec .sampleExpiry s = .next { s with
      now := max s.now d
      sample := some (d + 10)
      watches := Vector.ofFn fun k => Watch.sampled s.watches[k] (s.sampledQuantity k) }) ∧
    (s.params.alertHigh = true → (s.alertPin = true ↔ ∃ j : Fin 4, s.watches[j].enabled = true ∧ s.watches[j].event = true)) ∧
    (s.params.alertHigh = false → (s.alertPin = false ↔ ∃ j : Fin 4, s.watches[j].enabled = true ∧ s.watches[j].event = true)) ∧
    (∃ t, exec (.resetN n) s = .next t ∧ exec (.powerOn n) s = .next t ∧ t.alertPin = true) ∧
    (s.Ready →
      let load : Instr := .loadWatch tag n enabled mode upper lower critical hysteresis
      let ok := n.toNat ≤ 3 ∧ enabled.toNat ≤ 1 ∧ mode.toNat ≤ 2 ∧ hysteresis.toNat ≤ 3
      (¬ ok → exec load s = .next (s.replied tag 0x70 .badValue [])) ∧
      (3 < n.toNat → exec (.readWatch tag n) s = .next (s.replied tag 0x71 .badValue []) ∧
        exec (.ackAlert tag n) s = .next (s.replied tag 0x72 .badValue [])) ∧
      ∀ k : Fin 4, k.val = n.toNat →
        let w := s.watches[k]
        let flags : Nat := (if w.high then 1 else 0) + (if w.low then 2 else 0) + (if w.crit then 4 else 0) + if w.event then 8 else 0
        let alert : Bool := decide (∃ j : Fin 4, s.watches[j].enabled = true ∧ s.watches[j].event = true)
        let shed : Bool := match s.params.shedSource with
          | some j => s.watches[j].enabled && s.watches[j].crit
          | none => false
        let seen : Watch := if w.enabled = true ∧ w.mode = .latched then { w with event := false } else w
        (∀ m : WatchMode, m.code = mode → ok →
          let fresh : Watch := ⟨decide (enabled = 1), m, upper.toNat, lower.toNat, critical.toNat, hysteresis.toNat, w.value, false, false, false, false⟩
          exec load s = .next ({ s with watches := s.watches.set k (fresh.sampled w.value) }.replied tag 0x70 .done [])) ∧
        exec (.ackAlert tag n) s = .next ({ s with watches := s.watches.set k seen }.replied tag 0x72 .done [flagByte w.event]) ∧
        exec (.readWatch tag n) s = .next (s.replied tag 0x71 .done
          [flagByte w.enabled, w.mode.code, byteOf w.upper, byteOf w.lower, byteOf w.critical, byteOf w.hysteresis, byteOf w.value,
            byteOf flags, flagByte alert, flagByte shed]))

/-! ## Service control (chapter 11) -/

/-- R190, R191: OPEN SERVICE and DRAIN SERVICE by the service state and the clock; and the end of a drain (`drainEnd`, taken where an admission ends or a line leaves SIGNON or CHECKING): when no line holds an admission and none is in SIGNON or CHECKING, the service is CLOSED; else nothing changes. -/
def Obligations.ServiceState : Prop :=
  ∀ (s : State) (tag : Byte),
    let rest := ∀ l, (s.line l).admission = none ∧ (s.line l).state ≠ .signon ∧ (s.line l).state ≠ .checking
    let at_ (v : Service) : State := { s with mgt := { s.mgt with service := v } }
    (s.mgt.service = .draining → rest → drainEnd s = at_ .closed) ∧
    (s.mgt.service ≠ .draining ∨ ¬ rest → drainEnd s = s) ∧
    (s.Ready →
      (s.cal.valid = true → exec (.openService tag) s = .next ((at_ .opened).replied tag 0x80 .done [])) ∧
      (s.cal.valid = false → exec (.openService tag) s = .next (s.replied tag 0x80 .badState [])) ∧
      (s.mgt.service = .opened → rest → exec (.drainService tag) s = .next ((at_ .closed).replied tag 0x81 .done [])) ∧
      (s.mgt.service = .opened → ¬ rest → exec (.drainService tag) s = .next ((at_ .draining).replied tag 0x81 .done [])) ∧
      (s.mgt.service = .draining → exec (.drainService tag) s = .next (s.replied tag 0x81 .done [])) ∧
      (s.mgt.service = .closed → exec (.drainService tag) s = .next (s.replied tag 0x81 .badState [])))

/-- R192, R158: CLOSE SERVICE ends every call that holds or seeks an admission, with M21 and reason OPERATOR. The next state is the service CLOSED, then the dialogues abandoned, the waiters removed and the channels taken in channel order, each session by the closing arithmetic (`closeSession`, SessionCloses) after its line got M21; then the DONE. What that leaves: the lines on their way out, the sessions' tickets, the offered and connected channels in CLOSING with their CLOSE handed up; every other line, channel and control stands. An abandoned offer leaves the channel's last close reason as it was (the model's reading, log 35). No rule states the value of M21; 0 is the model's choice (log 39). -/
def Obligations.CloseService : Prop :=
  ∀ (s : State) (tag : Byte), s.Ready → s.Coherent →
    let t := (State.callsEnded 21 .operator { s with mgt := { s.mgt with service := .closed } }).replied tag 0x82 .done []
    exec (.closeService tag) s = .next t ∧
    t = { s with
      lines := t.lines, accounts := t.accounts, meters := t.meters, queue := [], channels := t.channels, tickets := t.tickets
      trunk := { s.trunk with controls := t.trunk.controls }
      mgt := { s.mgt with service := .closed, replies := s.mgt.replies ++ [⟨tag, 0x82, .done, []⟩] } } ∧
    s.TornDown .operator t ∧
    (∀ l, Line.TornDown s.now 21 (s.message 21) .operator (s.line l) (t.line l)) ∧
    (∀ c, t.channel c = match (s.channel c).state with
      | .offered => { s.channel c with state := .closing, row := none, timer := some (s.now + s.params.close * 10) }
      | .connected => Channel.ended (s.now + s.params.close * 10) .operator (s.channel c)
      | .free | .closing | .quarantined => s.channel c) ∧
    (∀ c, (s.channel c).state ∈ [.offered, .connected] → (⟨c, .close .operator⟩ : Control) ∈ t.trunk.controls) ∧
    (∀ x ∈ t.trunk.controls, x = ⟨x.channel, .close .operator⟩ ∧ (s.channel x.channel).state ∈ [.offered, .connected] ∨
      x ∈ s.trunk.controls ∧ (s.channel x.channel).state ≠ .connected) ∧
    ∀ x ∈ s.trunk.controls, (s.channel x.channel).state ∉ [.offered, .connected] → x ∈ t.trunk.controls

/-- R193, R25, R52, R59, R146, R158, R182: RESTART. The next state is the teardown of CLOSE SERVICE with reason RESTART (`State.callsEnded`), then every channel free, no control pending, every announced flow GO and the trunk counters 0, a STAGING buffer emptied and a write left running with an expiry it holds (the model's reading, log 16), the notice queues and line counters empty, a partial command dropped, and the DONE the only reply. What that leaves of the lines, the tickets, the accounts and the channels; an abandoned offer leaves the channel's last close reason as it was (the model's reading, log 35). No rule states the value of M21; 0 is the model's choice (log 39). -/
def Obligations.Restart : Prop :=
  ∀ (s : State) (tag : Byte), s.Ready → s.Coherent →
    let e := State.callsEnded 21 .restart { s with mgt := { s.mgt with service := .closed } }
    let t : State := { e with
      lines := Vector.ofFn fun l => { e.line l with notices := [], counters := ⟨0, 0, 0, 0⟩ }
      channels := Vector.ofFn fun c => { e.channel c with state := .free, line := none, row := none, timer := none }
      dir := { s.dir with stage :=
        if s.dir.stage.write = .none then ⟨.empty, none, [], .none, none, false⟩
        else if s.dir.stage.write = .page then s.dir.stage
        else { s.dir.stage with page := none, staged := [], timer := none } }
      trunk := { e.trunk with controls := [], announced := Vector.replicate 24 .go, counters := ⟨0, 0, 0, 0⟩ }
      mgt := { e.mgt with held := none, replies := [⟨tag, 0x83, .done, []⟩] } }
    exec (.restart tag) s = .next t ∧
    t = { s with
      lines := t.lines, accounts := t.accounts, meters := t.meters, queue := [], channels := t.channels, tickets := t.tickets
      dir := t.dir
      trunk := { s.trunk with controls := [], announced := Vector.replicate 24 .go, counters := ⟨0, 0, 0, 0⟩ }
      mgt := { s.mgt with service := .closed, held := none, replies := [⟨tag, 0x83, .done, []⟩] } } ∧
    s.TornDown .restart t ∧
    (∀ l, t.line l = { (s.line l).torn s.now (s.message 21) with notices := [], counters := ⟨0, 0, 0, 0⟩ }) ∧
    ∀ c, let k := s.channel c
      t.channel c = { k with
        state := .free, line := none, row := none, timer := none
        hostFlow := if k.state = .connected then .go else k.hostFlow
        lastClose := if k.state = .connected then 9 else k.lastClose }

/-- R172, R137, R139, R146, R158, R184: the trunk-loss timer (log 3). The next state is the trunk DOWN and the service CLOSED, then the dialogues abandoned, the waiters removed and the channels taken in channel order with M20 and reason HOST LOST, each session by the closing arithmetic (`closeSession`, SessionCloses) after its line got M20; then no control pending, every announced flow GO, and a held partial command answered BAD VALUE. What that leaves of the lines, the tickets, the accounts and the channels, every one free; an offer that ends leaves its channel's last close reason as it was (the model's reading, log 35). No rule states the value of M20; 0 is the model's choice (log 39). -/
def Obligations.TrunkLoss : Prop :=
  ∀ s : State, s.inReset = false → s.Coherent → ∀ d, s.trunk.lossTimer = some d →
    let now := max s.now d
    let e := State.callsEnded 20 .hostLost { s with
      now := now, trunk := { s.trunk with up := false, lossTimer := none }, mgt := { s.mgt with service := .closed } }
    let t : State := { e with
      trunk := { e.trunk with controls := [], announced := Vector.replicate 24 .go }
      mgt := { e.mgt with
        held := none
        replies := s.mgt.replies ++ (match s.mgt.held with | some p => [⟨p.tag, p.code, .badValue, []⟩] | none => []) } }
    exec .trunkLoss s = .next t ∧
    t = { s with
      now := now
      lines := t.lines, accounts := t.accounts, meters := t.meters, queue := [], channels := t.channels, tickets := t.tickets
      trunk := { s.trunk with up := false, lossTimer := none, controls := [], announced := Vector.replicate 24 .go }
      mgt := { s.mgt with service := .closed, held := none, replies := t.mgt.replies } } ∧
    s.TornDown .hostLost t ∧
    (∀ l, Line.TornDown now 20 (s.message 20) .hostLost (s.line l) (t.line l)) ∧
    ∀ c, let k := s.channel c
      t.channel c = { k with
        state := .free, line := none, row := none, timer := none
        hostFlow := if k.state = .connected then .go else k.hostFlow
        lastClose := if k.state = .connected then 8 else k.lastClose }

/-- R189: LOAD PARAMETERS replaces the table when every value is in range, and a changed holiday weekday recomputes the day and evaluates the period; R164: the ALERT pin has the level of the loaded polarity at once. READ PARAMETERS returns the table. R194: READ COUNTERS returns the four trunk counters and sets them to 0. -/
def Obligations.ParametersAndCounters : Prop :=
  ∀ (s : State) (tag a b c d e f g h i j k m : Byte), s.Ready →
    let load : Instr := .loadParameters tag a b c d e f g h i j k m
    let ok := 1 ≤ a.toNat ∧ a.toNat ≤ 7 ∧ 1 ≤ b.toNat ∧ b.toNat ≤ 60 ∧ 1 ≤ d.toNat ∧ d.toNat ≤ 60 ∧ 1 ≤ e.toNat ∧ e.toNat ≤ 60 ∧
      1 ≤ f.toNat ∧ f.toNat ≤ 30 ∧ g.toNat ≤ 6 ∧ 1 ≤ h.toNat ∧ h.toNat ≤ 64 ∧ i.toNat ≤ 7 ∧ j.toNat ≤ 7 ∧ k.toNat ≤ 4 ∧ m.toNat ≤ 1
    let p := s.params
    let n := s.trunk.counters
    (¬ ok → exec load s = .next (s.replied tag 0x42 .badValue [])) ∧
    (∀ x : Fin 8, x.val = i.toNat → ∀ y : Fin 8, y.val = j.toNat → ∀ w : Option (Fin 4), (w = none → k = 0) → (∀ v, w = some v → v.val + 1 = k.toNat) → ok →
      let s1 : State := { s with params :=
        ⟨a.toNat, b.toNat, c.toNat, d.toNat, e.toNat, f.toNat, g.toNat, h.toNat, x, y, w, decide (m = 1)⟩ }
      (g.toNat = p.holidayWeekday → exec load s = .next (s1.replied tag 0x42 .done [])) ∧
      (g.toNat ≠ p.holidayWeekday →
        exec load s = .next ((reevaluate { s1 with cal := s.cal.withDay g.toNat }).replied tag 0x42 .done []))) ∧
    (ok → ∃ t, exec load s = .next t ∧
      (t.alertPin = true ↔ (m = 1 ↔ ∃ j : Fin 4, s.watches[j].enabled = true ∧ s.watches[j].event = true))) ∧
    exec (.readParameters tag) s = .next (s.replied tag 0x84 .done
      [byteOf p.lockout, byteOf p.queueWait, byteOf p.queueNotice, byteOf p.offer, byteOf p.close, byteOf p.expelGrace,
        byteOf p.holidayWeekday, byteOf p.nd, byteOf p.selector1.val, byteOf p.selector2.val,
        (match p.shedSource with | some w => byteOf (w.val + 1) | none => 0), if p.alertHigh then 1 else 0]) ∧
    exec (.readCounters tag) s = .next ({ s with trunk := { s.trunk with counters := ⟨0, 0, 0, 0⟩ } }.replied tag 0x85 .done
      (be16 n.crc ++ be16 n.kind ++ be16 n.protocol ++ be16 n.discarded))

/-- R183, R184, R185: what the management unit does with a command block before its owner sees it: an unknown code is answered UNKNOWN; a parameter length above 116, or one up to 58 that the command does not have, is answered BAD VALUE and no owner sees the block (nor does it restart the stage timer, the model's reading, log 36), and one of 59 to 116 makes a partial command of any code; a full reply FIFO (its replies, with a place for a write in progress, number 16) discards the block, counted and flagged; a held partial command is completed by the block that owes its length, and has the effect and the reply of the whole command (R20, R21), and else is dropped with BAD VALUE before the block is taken. -/
def Obligations.CommandBlocks : Prop :=
  ∀ (s : State) (i : Instr), s.inReset = false → ∀ b, blockOf i = some b → i.wellFormed = true →
    let n := s.trunk.counters
    let discarded : State := { s with
      trunk := { s.trunk with counters := { n with discarded := if n.discarded < 65535 then n.discarded + 1 else n.discarded } }
      mgt := { s.mgt with sticky := { s.mgt.sticky with overflow := true } } }
    (s.mgt.held = none → 16 ≤ s.mgt.replies.length + (if s.mgt.writing.isSome then 1 else 0) → exec i s = .next discarded) ∧
    (s.Ready → b.code ∉ commandCodes → exec i s = .next (s.replied b.tag b.code .unknown [])) ∧
    (s.Ready → b.code ∈ commandCodes →
      (116 < b.length → exec i s = .next (s.replied b.tag b.code .badValue [])) ∧
      (58 < b.length → b.length ≤ 116 → exec i s = .next { s with mgt := { s.mgt with
        held := some ⟨b.tag, b.code, b.length, (b.bytes ++ List.replicate 58 0).take 58⟩ } }) ∧
      (b.length ≤ 58 → b.WrongLength → exec i s = .next (s.replied b.tag b.code .badValue []))) ∧
    ∀ p, s.mgt.held = some p → s.PartialSound →
      let freed : State := { s with mgt := { s.mgt with held := none } }
      (¬ (b.tag = p.tag ∧ b.code = p.code ∧ b.length + 58 = p.length) → exec i s = exec i (freed.replied p.tag p.code .badValue [])) ∧
      (b.tag = p.tag → b.code = p.code → b.length + 58 = p.length → b.bytes.length = b.length →
        let q := p.bytes ++ b.bytes
        (p.code ≠ 0x11 → p.code ≠ 0x12 → exec i s = .next (freed.replied p.tag p.code .badValue [])) ∧
        (∀ k rest, q = k :: rest → ∀ m text, rest = m :: text → p.code = 0x11 →
          (∀ slot : Fin 24, slot.val = k.toNat → text.length = m.toNat → text.length ≤ 64 →
            exec i s = .next ({ freed with messages := s.messages.set slot text }.replied p.tag 0x11 .done [])) ∧
          (23 < k.toNat ∨ text.length ≠ m.toNat ∨ 64 < text.length → exec i s = .next (freed.replied p.tag 0x11 .badValue []))) ∧
        (∀ k text, q = k :: text → p.code = 0x12 →
          let hears (l : Fin 32) : Bool := decide ((s.line l).state = .connected) || decide ((s.line l).state = .waiting)
          (text.length = k.toNat → text.length ≤ 64 → ∃ t, exec i s = .next t ∧
            t = { freed.replied p.tag 0x12 .done [byteOf ((List.finRange 32).filter hears).length] with
              lines := t.lines, messages := s.messages.set 23 text } ∧
            ∀ l, t.line l = if hears l then Line.request s.now 23 0 (s.line l) else s.line l) ∧
          (text.length ≠ k.toNat ∨ 64 < text.length → exec i s = .next (freed.replied p.tag 0x12 .badValue []))))

/-! ## Trunk framer and formats (chapters 10 and 12) -/

/-- R173, R174, R176, R197: while the block counter is below the ND in use, an upward block carries the controls from the head of the queue that fit whole, each in its layout of R199 (`upwardSegment`), then one turn of data segments after the round-robin pointer, zeros after them; what it carries has left the part, and the counter rises. At the ND in use it is not this row's turn, and the command changes nothing (the model's choice, log 4). The block stands in the model's own field `sent` (log 25). -/
def Obligations.UpwardBlock : Prop :=
  ∀ s : State, s.inReset = false → s.Coherent →
    (s.trunk.nd ≤ s.trunk.counter → exec .upwardBlock s = .next s) ∧
    (s.trunk.counter < s.trunk.nd → ∃ k ≤ s.trunk.controls.length,
      let taken := (s.trunk.controls.take k).flatMap upwardSegment
      let turn := ((List.finRange 24).filter fun c => decide (s.trunk.pointer < c)) ++ (List.finRange 24).filter fun c => decide (c ≤ s.trunk.pointer)
      let given := s.schedule turn (61 - taken.length)
      let pay := taken ++ given.flatMap fun x => [byteOf (x.1.val + 1), byteOf x.2.2] ++ (s.line x.2.1).rx.take x.2.2
      taken.length ≤ 61 ∧ pay.length ≤ 61 ∧ (∀ x, s.trunk.controls[k]? = some x → 61 < taken.length + (upwardSegment x).length) ∧
      ∃ t, exec .upwardBlock s = .next t ∧
        t = { s with
          lines := t.lines
          trunk := { s.trunk with
            counter := s.trunk.counter + 1
            controls := s.trunk.controls.drop k
            pointer := match given.getLast? with
              | some x => x.1
              | none => s.trunk.pointer
            sent := blockBytes (if pay = [] then 0x11 else 0x12) pay } } ∧
        ∀ l, t.line l = { s.line l with rx := (s.line l).rx.drop ((given.filter fun x => decide (x.2.1 = l)).map (·.2.2)).sum })

/-- R186 to R188, R173, R201, R189: the service block, when the counter equals the ND in use: the status byte, then the oldest reply or the two auto-report items; the sticky flags cleared, the reply gone, the counter 0 and the ND parameter in use. At another count the command changes nothing (the model's choice, log 4). The block stands in the model's own field `sent` (log 25). -/
def Obligations.ServiceBlock : Prop :=
  ∀ s : State, s.inReset = false →
    let bit (b : Bool) (n : Nat) : Nat := if b then n else 0
    let alert : Bool := decide (∃ j : Fin 4, s.watches[j].enabled = true ∧ s.watches[j].event = true)
    let service : Nat := match s.mgt.service with | .closed => 0 | .opened => 1 | .draining => 2
    let status := byteOf (service + bit alert 4 + bit s.cal.valid 8 + bit s.mgt.sticky.overflow 16 + bit s.mgt.sticky.warning 32 +
      bit s.mgt.sticky.restarted 64 + bit s.mgt.sticky.stageExpired 128)
    let rows (p : Row → Bool) : Byte := byteOf ((List.finRange 64).filter fun r => p (s.row r)).length
    let flags (j : Fin 4) : Nat := bit s.watches[j].high 1 + bit s.watches[j].low 2 + bit s.watches[j].crit 4 + bit s.watches[j].event 8
    let item (i : Fin 8) : List Byte := match i with
      | 0 => [byteOf service, 0]
      | 1 => [byteOf s.queue.length, 0]
      | 2 => [byteOf ((List.finRange 24).filter fun c => decide ((s.channel c).state = .free)).length, 0]
      | 3 => [rows fun r => r.serial.isSome, 0]
      | 4 => [rows fun r => decide (r = .free), 0]
      | 5 => [byteOf (flags 0 + 16 * flags 1), byteOf (flags 2 + 16 * flags 3)]
      | 6 => [byteOf s.cal.clock.hours, byteOf s.cal.clock.minutes]
      | 7 => [(match s.dir.stage.state with | .empty => 0 | .staging => 1 | .committing => 2), byteOf s.dir.stage.staged.length]
    let sends (pay : List Byte) (rest : List Reply) : State := { s with
      mgt := { s.mgt with sticky := ⟨false, false, false, false⟩, replies := rest }
      trunk := { s.trunk with counter := 0, nd := s.params.nd, sent := blockBytes 0x13 (status :: pay) } }
    (s.trunk.counter ≠ s.trunk.nd → exec .serviceBlock s = .next s) ∧
    (s.trunk.counter = s.trunk.nd →
      (∀ r rest, s.mgt.replies = r :: rest → exec .serviceBlock s = .next (sends ([0x00, r.tag, r.code, r.result.code] ++ r.data) rest)) ∧
      (s.mgt.replies = [] → exec .serviceBlock s = .next (sends
        ([0x01, byteOf s.params.selector1.val] ++ item s.params.selector1 ++ [byteOf s.params.selector2.val] ++ item s.params.selector2) [])))

/-- R169, R170, R171: a downward block of fewer than 64 bytes or with a CRC that differs only counts; one of another kind only counts; a valid one keeps the trunk UP, and an IDLE block does nothing more. That the bytes between two marks are one operand, those after the 64th ignored, is the model's reading (log 32). -/
def Obligations.DownwardBlock : Prop :=
  ∀ (s : State) (bytes : List Byte) (lv : InputLevels), s.inReset = false →
    let n := s.trunk.counters
    let good := 64 ≤ bytes.length ∧ (bytes.drop 62).take 2 = be16 (crc (bytes.take 62)).toNat
    (¬ good → exec (.downwardBlock bytes lv) s = .next { s with trunk := { s.trunk with counters := { n with
      crc := if n.crc < 65535 then n.crc + 1 else n.crc } } }) ∧
    (∀ k rest, bytes = k :: rest → good →
      (k ∉ [0x21, 0x22, 0x23] → exec (.downwardBlock bytes lv) s = .next { s with trunk := { s.trunk with counters := { n with
        kind := if n.kind < 65535 then n.kind + 1 else n.kind } } }) ∧
      (k = 0x21 → exec (.downwardBlock bytes lv) s = .next s.heard))

/-- R197, R198: what the part puts on the trunk: a block of 64 bytes, its kind, its payload with zeros after it, and the CRC of the first 62 bytes, high byte first. R196 and section 6.8: the codes of every enumeration, in the order of its table. -/
def Obligations.BlockLayout : Prop :=
  (∀ (kind : Byte) (pay : List Byte), pay.length ≤ 61 →
    let b := blockBytes kind pay
    b.length = 64 ∧ b.take 62 = kind :: (pay ++ List.replicate (61 - pay.length) 0) ∧
      b.drop 62 = [(crc (b.take 62)).extractLsb' 8 8, (crc (b.take 62)).extractLsb' 0 8]) ∧
  (crc [] = 0xFFFF ∧ ∀ (bs : List Byte) (x : Byte), crc (bs ++ [x]) =
    (List.range 8).foldl (fun (r : BitVec 16) _ => if r.getLsbD 15 = true then (r <<< 1) ^^^ 0x1021 else r <<< 1) (crc bs ^^^ ((x.setWidth 16) <<< 8))) ∧
  ([.idle, .ringing, .answering, .signon, .checking, .waiting, .offered, .connected, .draining, .clearing, .blocked].map LineState.code =
      [0, 1, 2, 3, 4, 5, 6, 7, 8, 9, 10] ∧
    [.free, .offered, .connected, .closing, .quarantined].map ChannelState.code = [0, 1, 2, 3, 4] ∧
    [.closed, .opened, .draining].map Service.code = [0, 1, 2] ∧ [.closed, .active, .suspended].map AccountState.code = [0, 1, 2] ∧
    [.closed, .opened, .expel].map Permit.code = [0, 1, 2] ∧ [.comparator, .latched, .criticalOnly].map WatchMode.code = [0, 1, 2] ∧
    [.empty, .staging, .committing].map StageState.code = [0, 1, 2] ∧
    [none, some 0, some 1, some 2, some 3].map shedSourceCode = [0, 1, 2, 3, 4] ∧
    [.done, .empty, .busy, .isProtected, .noKey, .badValue, .badState, .duplicate, .notFound, .unknown].map Result.code =
      [0, 1, 2, 3, 4, 5, 6, 7, 8, 9] ∧
    [.carrierLost, .hostLogoff, .idle, .timeLimit, .budget, .expelled, .operator, .hostLost, .restart].map CloseReason.code =
      [1, 2, 3, 4, 5, 6, 7, 8, 9])

/-- R170, R177, R199: the segments of a TRAFFIC block act one after another as their rows do; a malformed segment after them (a bad header, a count of 0 or above 59, a code outside the five, a FLOW argument that is neither STOP nor GO, a length that carries it past byte 61), at whatever position, is one protocol error more, and the rest of the block is discarded. A header byte of 0 ends the segments, whatever follows it. One step takes the whole block (the model's choice, log 8). -/
def Obligations.TrafficOnWire : Prop :=
  ∀ (s : State) (lv : InputLevels) (is : List Instr) (segs : List (List Byte)), s.inReset = false → is.map segmentOf = segs.map some →
    segs.flatten.length ≤ 61 →
    exec (.downwardBlock (blockBytes 0x22 segs.flatten) lv) s = .next (runRows is s.heard) ∧
    (∀ rest : List Byte, segs.flatten.length + 1 + rest.length ≤ 61 →
      exec (.downwardBlock (blockBytes 0x22 (segs.flatten ++ 0 :: rest)) lv) s = .next (runRows is s.heard)) ∧
    ∀ rest : List Byte, segs.flatten.length + rest.length ≤ 61 →
      MalformedSegment (rest ++ List.replicate (61 - segs.flatten.length - rest.length) 0) →
      exec (.downwardBlock (blockBytes 0x22 (segs.flatten ++ rest)) lv) s = .next (runRows is s.heard).warnedOfProtocol

/-- R170, R183, R184, R200, R203: every command row, with every operand at every value, acts as the COMMAND block that carries it: the block of a row's tag, code, length and first 58 parameter bytes has the row's effect once the trunk has heard it. That a row stands for such a block, with input levels that agree, is the model's choice (log 5, log 9, log 22). -/
def Obligations.CommandOnWire : Prop :=
  ∀ (s : State) (i : Instr) (lv : InputLevels), s.inReset = false → s.PartialSound → ∀ b, blockOf i = some b → i.wellFormed = true →
    LevelsAgree lv s i →
    exec (.downwardBlock (blockBytes 0x23 (b.tag :: b.code :: byteOf b.length :: b.bytes.take 58)) lv) s = exec i s.heard

/-! ## What every step keeps -/

/-- R47, R49, R52, R185: every step keeps the store and the shadow in canonical form within the 1024 entries, and the stage buffer sound: one page, each index once, a reply place reserved exactly while a write is in progress. -/
def Obligations.StoreKept : Prop :=
  ∀ s t : State, s.dir.wf = true → s.StageSound → step s = .next t → t.dir.wf = true ∧ t.StageSound

/-- R2, R3, R6, R18, R22: every step keeps every line within its sizes, and no two notices of a line with the same message. -/
def Obligations.LinesKept : Prop :=
  ∀ s t : State, s.LinesBounded → s.NoticesDistinct → step s = .next t → t.LinesBounded ∧ t.NoticesDistinct

/-- R173, R175, R181, R184, R185, R89, R97: every step keeps the replies and reservations to 16, the partial command within its lengths, one control for each slot of a channel, the block counter at most the ND in use, the trunk counters within 65535, and the weekdays within 0..6. -/
def Obligations.FramesKept : Prop :=
  ∀ s t : State, step s = .next t →
    (s.RepliesBounded → t.RepliesBounded) ∧ (s.PartialSound → t.PartialSound) ∧ (s.SlotsDistinct → t.SlotsDistinct) ∧
    (s.CycleSound → t.CycleSound) ∧ (s.CountersBounded → t.CountersBounded) ∧ (s.WeekdaysSound → t.WeekdaysSound)

/-- R69, R108, R112, R122: every step keeps every balance between its floor and 8,388,607, and the laws of the running meters and the CLOSED tickets: the charge is what was debited and what was in excess, and the sum of the segments' units; the seconds are the sum of the segments' seconds. -/
def Obligations.MoneyKept : Prop :=
  ∀ s t : State, step s = .next t →
    (s.BalancesInRange → t.BalancesInRange) ∧ (s.MetersSound → s.TicketsSound → t.MetersSound ∧ t.TicketsSound)

/-- R147, R152, R153: every step keeps the serials of the CLOSED rows distinct, the serial counter within 1..65535 and away from them, and the close list holding each CLOSED row once. -/
def Obligations.SerialsKept : Prop :=
  ∀ s t : State, s.SerialsDistinct → s.CloseListSound → step s = .next t → t.SerialsDistinct ∧ t.CloseListSound

/-- R108, R125, R130, R147, and R83 to R86 of section 4.6: every step keeps the call path coherent: the queue holds exactly the waiting lines, priority first, at most 16; offered and connected channels and lines name each other, with their row and their meter; a channel's timer runs in OFFERED and CLOSING alone; every account's open count is the number of lines that hold an admission naming it. -/
def Obligations.CallsKept : Prop :=
  ∀ s t : State, s.Coherent → s.QueueBounded → step s = .next t → t.Coherent ∧ t.QueueBounded

/-- The model's reset state (log 1) is the one that POWER_ON and the release of RESET_N leave of a part as shipped, taken at once; and everything that every step keeps holds there. -/
def Obligations.ResetState : Prop :=
  (∀ w, ∃ t, exec (.powerOn w) State.reset = .next t ∧ exec .resetNRelease t = .next State.reset) ∧
    (State.reset.dir.wf = true ∧ State.reset.StageSound ∧ State.reset.LinesBounded ∧ State.reset.NoticesDistinct) ∧
    (State.reset.RepliesBounded ∧ State.reset.PartialSound ∧ State.reset.SlotsDistinct ∧ State.reset.CycleSound ∧
      State.reset.CountersBounded ∧ State.reset.WeekdaysSound) ∧
    (State.reset.BalancesInRange ∧ State.reset.MetersSound ∧ State.reset.TicketsSound) ∧
    (State.reset.SerialsDistinct ∧ State.reset.CloseListSound) ∧ State.reset.Coherent ∧ State.reset.QueueBounded
end

