-- ==== Sys2Proof/Laws/State.lean ====
section
/-! SUPPORT. What each updater of the state does to each field and to each accessor, by definition, so that no proof unfolds a record update. -/

namespace Sys2Proof.Machine

open Sys2Proof

/-! ### setLine -/

@[simp] theorem State.setLine_pending (s : State) (l : Fin 32) (x : Line) : (s.setLine l x).pending = s.pending := rfl
@[simp] theorem State.setLine_inReset (s : State) (l : Fin 32) (x : Line) : (s.setLine l x).inReset = s.inReset := rfl
@[simp] theorem State.setLine_now (s : State) (l : Fin 32) (x : Line) : (s.setLine l x).now = s.now := rfl
@[simp] theorem State.setLine_key (s : State) (l : Fin 32) (x : Line) : (s.setLine l x).key = s.key := rfl
@[simp] theorem State.setLine_groups (s : State) (l : Fin 32) (x : Line) : (s.setLine l x).groups = s.groups := rfl
@[simp] theorem State.setLine_messages (s : State) (l : Fin 32) (x : Line) : (s.setLine l x).messages = s.messages := rfl
@[simp] theorem State.setLine_dir (s : State) (l : Fin 32) (x : Line) : (s.setLine l x).dir = s.dir := rfl
@[simp] theorem State.setLine_accounts (s : State) (l : Fin 32) (x : Line) : (s.setLine l x).accounts = s.accounts := rfl
@[simp] theorem State.setLine_cal (s : State) (l : Fin 32) (x : Line) : (s.setLine l x).cal = s.cal := rfl
@[simp] theorem State.setLine_meters (s : State) (l : Fin 32) (x : Line) : (s.setLine l x).meters = s.meters := rfl
@[simp] theorem State.setLine_queue (s : State) (l : Fin 32) (x : Line) : (s.setLine l x).queue = s.queue := rfl
@[simp] theorem State.setLine_channels (s : State) (l : Fin 32) (x : Line) : (s.setLine l x).channels = s.channels := rfl
@[simp] theorem State.setLine_tickets (s : State) (l : Fin 32) (x : Line) : (s.setLine l x).tickets = s.tickets := rfl
@[simp] theorem State.setLine_watches (s : State) (l : Fin 32) (x : Line) : (s.setLine l x).watches = s.watches := rfl
@[simp] theorem State.setLine_sample (s : State) (l : Fin 32) (x : Line) : (s.setLine l x).sample = s.sample := rfl
@[simp] theorem State.setLine_trunk (s : State) (l : Fin 32) (x : Line) : (s.setLine l x).trunk = s.trunk := rfl
@[simp] theorem State.setLine_mgt (s : State) (l : Fin 32) (x : Line) : (s.setLine l x).mgt = s.mgt := rfl
@[simp] theorem State.setLine_params (s : State) (l : Fin 32) (x : Line) : (s.setLine l x).params = s.params := rfl
@[simp] theorem State.setLine_channel (s : State) (l : Fin 32) (x : Line) (c' : Fin 24) : (s.setLine l x).channel c' = s.channel c' := rfl
@[simp] theorem State.setLine_meter (s : State) (l : Fin 32) (x : Line) (c' : Fin 24) : (s.setLine l x).meter c' = s.meter c' := rfl
@[simp] theorem State.setLine_account (s : State) (l : Fin 32) (x : Line) (a' : Fin 256) : (s.setLine l x).account a' = s.account a' := rfl
@[simp] theorem State.setLine_row (s : State) (l : Fin 32) (x : Line) (r' : Fin 64) : (s.setLine l x).row r' = s.row r' := rfl
@[simp] theorem State.setLine_message (s : State) (l : Fin 32) (x : Line) (m' : Fin 24) : (s.setLine l x).message m' = s.message m' := rfl

/-! ### updLine -/

@[simp] theorem State.updLine_pending (s : State) (l : Fin 32) (f : Line → Line) : (s.updLine l f).pending = s.pending := rfl
@[simp] theorem State.updLine_inReset (s : State) (l : Fin 32) (f : Line → Line) : (s.updLine l f).inReset = s.inReset := rfl
@[simp] theorem State.updLine_now (s : State) (l : Fin 32) (f : Line → Line) : (s.updLine l f).now = s.now := rfl
@[simp] theorem State.updLine_key (s : State) (l : Fin 32) (f : Line → Line) : (s.updLine l f).key = s.key := rfl
@[simp] theorem State.updLine_groups (s : State) (l : Fin 32) (f : Line → Line) : (s.updLine l f).groups = s.groups := rfl
@[simp] theorem State.updLine_messages (s : State) (l : Fin 32) (f : Line → Line) : (s.updLine l f).messages = s.messages := rfl
@[simp] theorem State.updLine_dir (s : State) (l : Fin 32) (f : Line → Line) : (s.updLine l f).dir = s.dir := rfl
@[simp] theorem State.updLine_accounts (s : State) (l : Fin 32) (f : Line → Line) : (s.updLine l f).accounts = s.accounts := rfl
@[simp] theorem State.updLine_cal (s : State) (l : Fin 32) (f : Line → Line) : (s.updLine l f).cal = s.cal := rfl
@[simp] theorem State.updLine_meters (s : State) (l : Fin 32) (f : Line → Line) : (s.updLine l f).meters = s.meters := rfl
@[simp] theorem State.updLine_queue (s : State) (l : Fin 32) (f : Line → Line) : (s.updLine l f).queue = s.queue := rfl
@[simp] theorem State.updLine_channels (s : State) (l : Fin 32) (f : Line → Line) : (s.updLine l f).channels = s.channels := rfl
@[simp] theorem State.updLine_tickets (s : State) (l : Fin 32) (f : Line → Line) : (s.updLine l f).tickets = s.tickets := rfl
@[simp] theorem State.updLine_watches (s : State) (l : Fin 32) (f : Line → Line) : (s.updLine l f).watches = s.watches := rfl
@[simp] theorem State.updLine_sample (s : State) (l : Fin 32) (f : Line → Line) : (s.updLine l f).sample = s.sample := rfl
@[simp] theorem State.updLine_trunk (s : State) (l : Fin 32) (f : Line → Line) : (s.updLine l f).trunk = s.trunk := rfl
@[simp] theorem State.updLine_mgt (s : State) (l : Fin 32) (f : Line → Line) : (s.updLine l f).mgt = s.mgt := rfl
@[simp] theorem State.updLine_params (s : State) (l : Fin 32) (f : Line → Line) : (s.updLine l f).params = s.params := rfl
@[simp] theorem State.updLine_channel (s : State) (l : Fin 32) (f : Line → Line) (c' : Fin 24) : (s.updLine l f).channel c' = s.channel c' := rfl
@[simp] theorem State.updLine_meter (s : State) (l : Fin 32) (f : Line → Line) (c' : Fin 24) : (s.updLine l f).meter c' = s.meter c' := rfl
@[simp] theorem State.updLine_account (s : State) (l : Fin 32) (f : Line → Line) (a' : Fin 256) : (s.updLine l f).account a' = s.account a' := rfl
@[simp] theorem State.updLine_row (s : State) (l : Fin 32) (f : Line → Line) (r' : Fin 64) : (s.updLine l f).row r' = s.row r' := rfl
@[simp] theorem State.updLine_message (s : State) (l : Fin 32) (f : Line → Line) (m' : Fin 24) : (s.updLine l f).message m' = s.message m' := rfl

/-! ### setChannel -/

@[simp] theorem State.setChannel_pending (s : State) (c : Fin 24) (x : Channel) : (s.setChannel c x).pending = s.pending := rfl
@[simp] theorem State.setChannel_inReset (s : State) (c : Fin 24) (x : Channel) : (s.setChannel c x).inReset = s.inReset := rfl
@[simp] theorem State.setChannel_now (s : State) (c : Fin 24) (x : Channel) : (s.setChannel c x).now = s.now := rfl
@[simp] theorem State.setChannel_key (s : State) (c : Fin 24) (x : Channel) : (s.setChannel c x).key = s.key := rfl
@[simp] theorem State.setChannel_groups (s : State) (c : Fin 24) (x : Channel) : (s.setChannel c x).groups = s.groups := rfl
@[simp] theorem State.setChannel_messages (s : State) (c : Fin 24) (x : Channel) : (s.setChannel c x).messages = s.messages := rfl
@[simp] theorem State.setChannel_lines (s : State) (c : Fin 24) (x : Channel) : (s.setChannel c x).lines = s.lines := rfl
@[simp] theorem State.setChannel_dir (s : State) (c : Fin 24) (x : Channel) : (s.setChannel c x).dir = s.dir := rfl
@[simp] theorem State.setChannel_accounts (s : State) (c : Fin 24) (x : Channel) : (s.setChannel c x).accounts = s.accounts := rfl
@[simp] theorem State.setChannel_cal (s : State) (c : Fin 24) (x : Channel) : (s.setChannel c x).cal = s.cal := rfl
@[simp] theorem State.setChannel_meters (s : State) (c : Fin 24) (x : Channel) : (s.setChannel c x).meters = s.meters := rfl
@[simp] theorem State.setChannel_queue (s : State) (c : Fin 24) (x : Channel) : (s.setChannel c x).queue = s.queue := rfl
@[simp] theorem State.setChannel_tickets (s : State) (c : Fin 24) (x : Channel) : (s.setChannel c x).tickets = s.tickets := rfl
@[simp] theorem State.setChannel_watches (s : State) (c : Fin 24) (x : Channel) : (s.setChannel c x).watches = s.watches := rfl
@[simp] theorem State.setChannel_sample (s : State) (c : Fin 24) (x : Channel) : (s.setChannel c x).sample = s.sample := rfl
@[simp] theorem State.setChannel_trunk (s : State) (c : Fin 24) (x : Channel) : (s.setChannel c x).trunk = s.trunk := rfl
@[simp] theorem State.setChannel_mgt (s : State) (c : Fin 24) (x : Channel) : (s.setChannel c x).mgt = s.mgt := rfl
@[simp] theorem State.setChannel_params (s : State) (c : Fin 24) (x : Channel) : (s.setChannel c x).params = s.params := rfl
@[simp] theorem State.setChannel_line (s : State) (c : Fin 24) (x : Channel) (l' : Fin 32) : (s.setChannel c x).line l' = s.line l' := rfl
@[simp] theorem State.setChannel_meter (s : State) (c : Fin 24) (x : Channel) (c' : Fin 24) : (s.setChannel c x).meter c' = s.meter c' := rfl
@[simp] theorem State.setChannel_account (s : State) (c : Fin 24) (x : Channel) (a' : Fin 256) : (s.setChannel c x).account a' = s.account a' := rfl
@[simp] theorem State.setChannel_row (s : State) (c : Fin 24) (x : Channel) (r' : Fin 64) : (s.setChannel c x).row r' = s.row r' := rfl
@[simp] theorem State.setChannel_message (s : State) (c : Fin 24) (x : Channel) (m' : Fin 24) : (s.setChannel c x).message m' = s.message m' := rfl

/-! ### updChannel -/

@[simp] theorem State.updChannel_pending (s : State) (c : Fin 24) (f : Channel → Channel) : (s.updChannel c f).pending = s.pending := rfl
@[simp] theorem State.updChannel_inReset (s : State) (c : Fin 24) (f : Channel → Channel) : (s.updChannel c f).inReset = s.inReset := rfl
@[simp] theorem State.updChannel_now (s : State) (c : Fin 24) (f : Channel → Channel) : (s.updChannel c f).now = s.now := rfl
@[simp] theorem State.updChannel_key (s : State) (c : Fin 24) (f : Channel → Channel) : (s.updChannel c f).key = s.key := rfl
@[simp] theorem State.updChannel_groups (s : State) (c : Fin 24) (f : Channel → Channel) : (s.updChannel c f).groups = s.groups := rfl
@[simp] theorem State.updChannel_messages (s : State) (c : Fin 24) (f : Channel → Channel) : (s.updChannel c f).messages = s.messages := rfl
@[simp] theorem State.updChannel_lines (s : State) (c : Fin 24) (f : Channel → Channel) : (s.updChannel c f).lines = s.lines := rfl
@[simp] theorem State.updChannel_dir (s : State) (c : Fin 24) (f : Channel → Channel) : (s.updChannel c f).dir = s.dir := rfl
@[simp] theorem State.updChannel_accounts (s : State) (c : Fin 24) (f : Channel → Channel) : (s.updChannel c f).accounts = s.accounts := rfl
@[simp] theorem State.updChannel_cal (s : State) (c : Fin 24) (f : Channel → Channel) : (s.updChannel c f).cal = s.cal := rfl
@[simp] theorem State.updChannel_meters (s : State) (c : Fin 24) (f : Channel → Channel) : (s.updChannel c f).meters = s.meters := rfl
@[simp] theorem State.updChannel_queue (s : State) (c : Fin 24) (f : Channel → Channel) : (s.updChannel c f).queue = s.queue := rfl
@[simp] theorem State.updChannel_tickets (s : State) (c : Fin 24) (f : Channel → Channel) : (s.updChannel c f).tickets = s.tickets := rfl
@[simp] theorem State.updChannel_watches (s : State) (c : Fin 24) (f : Channel → Channel) : (s.updChannel c f).watches = s.watches := rfl
@[simp] theorem State.updChannel_sample (s : State) (c : Fin 24) (f : Channel → Channel) : (s.updChannel c f).sample = s.sample := rfl
@[simp] theorem State.updChannel_trunk (s : State) (c : Fin 24) (f : Channel → Channel) : (s.updChannel c f).trunk = s.trunk := rfl
@[simp] theorem State.updChannel_mgt (s : State) (c : Fin 24) (f : Channel → Channel) : (s.updChannel c f).mgt = s.mgt := rfl
@[simp] theorem State.updChannel_params (s : State) (c : Fin 24) (f : Channel → Channel) : (s.updChannel c f).params = s.params := rfl
@[simp] theorem State.updChannel_line (s : State) (c : Fin 24) (f : Channel → Channel) (l' : Fin 32) : (s.updChannel c f).line l' = s.line l' := rfl
@[simp] theorem State.updChannel_meter (s : State) (c : Fin 24) (f : Channel → Channel) (c' : Fin 24) : (s.updChannel c f).meter c' = s.meter c' := rfl
@[simp] theorem State.updChannel_account (s : State) (c : Fin 24) (f : Channel → Channel) (a' : Fin 256) : (s.updChannel c f).account a' = s.account a' := rfl
@[simp] theorem State.updChannel_row (s : State) (c : Fin 24) (f : Channel → Channel) (r' : Fin 64) : (s.updChannel c f).row r' = s.row r' := rfl
@[simp] theorem State.updChannel_message (s : State) (c : Fin 24) (f : Channel → Channel) (m' : Fin 24) : (s.updChannel c f).message m' = s.message m' := rfl

/-! ### setMeter -/

@[simp] theorem State.setMeter_pending (s : State) (c : Fin 24) (x : Option Meter) : (s.setMeter c x).pending = s.pending := rfl
@[simp] theorem State.setMeter_inReset (s : State) (c : Fin 24) (x : Option Meter) : (s.setMeter c x).inReset = s.inReset := rfl
@[simp] theorem State.setMeter_now (s : State) (c : Fin 24) (x : Option Meter) : (s.setMeter c x).now = s.now := rfl
@[simp] theorem State.setMeter_key (s : State) (c : Fin 24) (x : Option Meter) : (s.setMeter c x).key = s.key := rfl
@[simp] theorem State.setMeter_groups (s : State) (c : Fin 24) (x : Option Meter) : (s.setMeter c x).groups = s.groups := rfl
@[simp] theorem State.setMeter_messages (s : State) (c : Fin 24) (x : Option Meter) : (s.setMeter c x).messages = s.messages := rfl
@[simp] theorem State.setMeter_lines (s : State) (c : Fin 24) (x : Option Meter) : (s.setMeter c x).lines = s.lines := rfl
@[simp] theorem State.setMeter_dir (s : State) (c : Fin 24) (x : Option Meter) : (s.setMeter c x).dir = s.dir := rfl
@[simp] theorem State.setMeter_accounts (s : State) (c : Fin 24) (x : Option Meter) : (s.setMeter c x).accounts = s.accounts := rfl
@[simp] theorem State.setMeter_cal (s : State) (c : Fin 24) (x : Option Meter) : (s.setMeter c x).cal = s.cal := rfl
@[simp] theorem State.setMeter_queue (s : State) (c : Fin 24) (x : Option Meter) : (s.setMeter c x).queue = s.queue := rfl
@[simp] theorem State.setMeter_channels (s : State) (c : Fin 24) (x : Option Meter) : (s.setMeter c x).channels = s.channels := rfl
@[simp] theorem State.setMeter_tickets (s : State) (c : Fin 24) (x : Option Meter) : (s.setMeter c x).tickets = s.tickets := rfl
@[simp] theorem State.setMeter_watches (s : State) (c : Fin 24) (x : Option Meter) : (s.setMeter c x).watches = s.watches := rfl
@[simp] theorem State.setMeter_sample (s : State) (c : Fin 24) (x : Option Meter) : (s.setMeter c x).sample = s.sample := rfl
@[simp] theorem State.setMeter_trunk (s : State) (c : Fin 24) (x : Option Meter) : (s.setMeter c x).trunk = s.trunk := rfl
@[simp] theorem State.setMeter_mgt (s : State) (c : Fin 24) (x : Option Meter) : (s.setMeter c x).mgt = s.mgt := rfl
@[simp] theorem State.setMeter_params (s : State) (c : Fin 24) (x : Option Meter) : (s.setMeter c x).params = s.params := rfl
@[simp] theorem State.setMeter_line (s : State) (c : Fin 24) (x : Option Meter) (l' : Fin 32) : (s.setMeter c x).line l' = s.line l' := rfl
@[simp] theorem State.setMeter_channel (s : State) (c : Fin 24) (x : Option Meter) (c' : Fin 24) : (s.setMeter c x).channel c' = s.channel c' := rfl
@[simp] theorem State.setMeter_account (s : State) (c : Fin 24) (x : Option Meter) (a' : Fin 256) : (s.setMeter c x).account a' = s.account a' := rfl
@[simp] theorem State.setMeter_row (s : State) (c : Fin 24) (x : Option Meter) (r' : Fin 64) : (s.setMeter c x).row r' = s.row r' := rfl
@[simp] theorem State.setMeter_message (s : State) (c : Fin 24) (x : Option Meter) (m' : Fin 24) : (s.setMeter c x).message m' = s.message m' := rfl

/-! ### updMeter -/

@[simp] theorem State.updMeter_pending (s : State) (c : Fin 24) (f : Meter → Meter) : (s.updMeter c f).pending = s.pending := rfl
@[simp] theorem State.updMeter_inReset (s : State) (c : Fin 24) (f : Meter → Meter) : (s.updMeter c f).inReset = s.inReset := rfl
@[simp] theorem State.updMeter_now (s : State) (c : Fin 24) (f : Meter → Meter) : (s.updMeter c f).now = s.now := rfl
@[simp] theorem State.updMeter_key (s : State) (c : Fin 24) (f : Meter → Meter) : (s.updMeter c f).key = s.key := rfl
@[simp] theorem State.updMeter_groups (s : State) (c : Fin 24) (f : Meter → Meter) : (s.updMeter c f).groups = s.groups := rfl
@[simp] theorem State.updMeter_messages (s : State) (c : Fin 24) (f : Meter → Meter) : (s.updMeter c f).messages = s.messages := rfl
@[simp] theorem State.updMeter_lines (s : State) (c : Fin 24) (f : Meter → Meter) : (s.updMeter c f).lines = s.lines := rfl
@[simp] theorem State.updMeter_dir (s : State) (c : Fin 24) (f : Meter → Meter) : (s.updMeter c f).dir = s.dir := rfl
@[simp] theorem State.updMeter_accounts (s : State) (c : Fin 24) (f : Meter → Meter) : (s.updMeter c f).accounts = s.accounts := rfl
@[simp] theorem State.updMeter_cal (s : State) (c : Fin 24) (f : Meter → Meter) : (s.updMeter c f).cal = s.cal := rfl
@[simp] theorem State.updMeter_queue (s : State) (c : Fin 24) (f : Meter → Meter) : (s.updMeter c f).queue = s.queue := rfl
@[simp] theorem State.updMeter_channels (s : State) (c : Fin 24) (f : Meter → Meter) : (s.updMeter c f).channels = s.channels := rfl
@[simp] theorem State.updMeter_tickets (s : State) (c : Fin 24) (f : Meter → Meter) : (s.updMeter c f).tickets = s.tickets := rfl
@[simp] theorem State.updMeter_watches (s : State) (c : Fin 24) (f : Meter → Meter) : (s.updMeter c f).watches = s.watches := rfl
@[simp] theorem State.updMeter_sample (s : State) (c : Fin 24) (f : Meter → Meter) : (s.updMeter c f).sample = s.sample := rfl
@[simp] theorem State.updMeter_trunk (s : State) (c : Fin 24) (f : Meter → Meter) : (s.updMeter c f).trunk = s.trunk := rfl
@[simp] theorem State.updMeter_mgt (s : State) (c : Fin 24) (f : Meter → Meter) : (s.updMeter c f).mgt = s.mgt := rfl
@[simp] theorem State.updMeter_params (s : State) (c : Fin 24) (f : Meter → Meter) : (s.updMeter c f).params = s.params := rfl
@[simp] theorem State.updMeter_line (s : State) (c : Fin 24) (f : Meter → Meter) (l' : Fin 32) : (s.updMeter c f).line l' = s.line l' := rfl
@[simp] theorem State.updMeter_channel (s : State) (c : Fin 24) (f : Meter → Meter) (c' : Fin 24) : (s.updMeter c f).channel c' = s.channel c' := rfl
@[simp] theorem State.updMeter_account (s : State) (c : Fin 24) (f : Meter → Meter) (a' : Fin 256) : (s.updMeter c f).account a' = s.account a' := rfl
@[simp] theorem State.updMeter_row (s : State) (c : Fin 24) (f : Meter → Meter) (r' : Fin 64) : (s.updMeter c f).row r' = s.row r' := rfl
@[simp] theorem State.updMeter_message (s : State) (c : Fin 24) (f : Meter → Meter) (m' : Fin 24) : (s.updMeter c f).message m' = s.message m' := rfl

/-! ### setAccount -/

@[simp] theorem State.setAccount_pending (s : State) (a : Fin 256) (x : Account) : (s.setAccount a x).pending = s.pending := rfl
@[simp] theorem State.setAccount_inReset (s : State) (a : Fin 256) (x : Account) : (s.setAccount a x).inReset = s.inReset := rfl
@[simp] theorem State.setAccount_now (s : State) (a : Fin 256) (x : Account) : (s.setAccount a x).now = s.now := rfl
@[simp] theorem State.setAccount_key (s : State) (a : Fin 256) (x : Account) : (s.setAccount a x).key = s.key := rfl
@[simp] theorem State.setAccount_groups (s : State) (a : Fin 256) (x : Account) : (s.setAccount a x).groups = s.groups := rfl
@[simp] theorem State.setAccount_messages (s : State) (a : Fin 256) (x : Account) : (s.setAccount a x).messages = s.messages := rfl
@[simp] theorem State.setAccount_lines (s : State) (a : Fin 256) (x : Account) : (s.setAccount a x).lines = s.lines := rfl
@[simp] theorem State.setAccount_dir (s : State) (a : Fin 256) (x : Account) : (s.setAccount a x).dir = s.dir := rfl
@[simp] theorem State.setAccount_cal (s : State) (a : Fin 256) (x : Account) : (s.setAccount a x).cal = s.cal := rfl
@[simp] theorem State.setAccount_meters (s : State) (a : Fin 256) (x : Account) : (s.setAccount a x).meters = s.meters := rfl
@[simp] theorem State.setAccount_queue (s : State) (a : Fin 256) (x : Account) : (s.setAccount a x).queue = s.queue := rfl
@[simp] theorem State.setAccount_channels (s : State) (a : Fin 256) (x : Account) : (s.setAccount a x).channels = s.channels := rfl
@[simp] theorem State.setAccount_tickets (s : State) (a : Fin 256) (x : Account) : (s.setAccount a x).tickets = s.tickets := rfl
@[simp] theorem State.setAccount_watches (s : State) (a : Fin 256) (x : Account) : (s.setAccount a x).watches = s.watches := rfl
@[simp] theorem State.setAccount_sample (s : State) (a : Fin 256) (x : Account) : (s.setAccount a x).sample = s.sample := rfl
@[simp] theorem State.setAccount_trunk (s : State) (a : Fin 256) (x : Account) : (s.setAccount a x).trunk = s.trunk := rfl
@[simp] theorem State.setAccount_mgt (s : State) (a : Fin 256) (x : Account) : (s.setAccount a x).mgt = s.mgt := rfl
@[simp] theorem State.setAccount_params (s : State) (a : Fin 256) (x : Account) : (s.setAccount a x).params = s.params := rfl
@[simp] theorem State.setAccount_line (s : State) (a : Fin 256) (x : Account) (l' : Fin 32) : (s.setAccount a x).line l' = s.line l' := rfl
@[simp] theorem State.setAccount_channel (s : State) (a : Fin 256) (x : Account) (c' : Fin 24) : (s.setAccount a x).channel c' = s.channel c' := rfl
@[simp] theorem State.setAccount_meter (s : State) (a : Fin 256) (x : Account) (c' : Fin 24) : (s.setAccount a x).meter c' = s.meter c' := rfl
@[simp] theorem State.setAccount_row (s : State) (a : Fin 256) (x : Account) (r' : Fin 64) : (s.setAccount a x).row r' = s.row r' := rfl
@[simp] theorem State.setAccount_message (s : State) (a : Fin 256) (x : Account) (m' : Fin 24) : (s.setAccount a x).message m' = s.message m' := rfl

/-! ### updAccount -/

@[simp] theorem State.updAccount_pending (s : State) (a : Fin 256) (f : Account → Account) : (s.updAccount a f).pending = s.pending := rfl
@[simp] theorem State.updAccount_inReset (s : State) (a : Fin 256) (f : Account → Account) : (s.updAccount a f).inReset = s.inReset := rfl
@[simp] theorem State.updAccount_now (s : State) (a : Fin 256) (f : Account → Account) : (s.updAccount a f).now = s.now := rfl
@[simp] theorem State.updAccount_key (s : State) (a : Fin 256) (f : Account → Account) : (s.updAccount a f).key = s.key := rfl
@[simp] theorem State.updAccount_groups (s : State) (a : Fin 256) (f : Account → Account) : (s.updAccount a f).groups = s.groups := rfl
@[simp] theorem State.updAccount_messages (s : State) (a : Fin 256) (f : Account → Account) : (s.updAccount a f).messages = s.messages := rfl
@[simp] theorem State.updAccount_lines (s : State) (a : Fin 256) (f : Account → Account) : (s.updAccount a f).lines = s.lines := rfl
@[simp] theorem State.updAccount_dir (s : State) (a : Fin 256) (f : Account → Account) : (s.updAccount a f).dir = s.dir := rfl
@[simp] theorem State.updAccount_cal (s : State) (a : Fin 256) (f : Account → Account) : (s.updAccount a f).cal = s.cal := rfl
@[simp] theorem State.updAccount_meters (s : State) (a : Fin 256) (f : Account → Account) : (s.updAccount a f).meters = s.meters := rfl
@[simp] theorem State.updAccount_queue (s : State) (a : Fin 256) (f : Account → Account) : (s.updAccount a f).queue = s.queue := rfl
@[simp] theorem State.updAccount_channels (s : State) (a : Fin 256) (f : Account → Account) : (s.updAccount a f).channels = s.channels := rfl
@[simp] theorem State.updAccount_tickets (s : State) (a : Fin 256) (f : Account → Account) : (s.updAccount a f).tickets = s.tickets := rfl
@[simp] theorem State.updAccount_watches (s : State) (a : Fin 256) (f : Account → Account) : (s.updAccount a f).watches = s.watches := rfl
@[simp] theorem State.updAccount_sample (s : State) (a : Fin 256) (f : Account → Account) : (s.updAccount a f).sample = s.sample := rfl
@[simp] theorem State.updAccount_trunk (s : State) (a : Fin 256) (f : Account → Account) : (s.updAccount a f).trunk = s.trunk := rfl
@[simp] theorem State.updAccount_mgt (s : State) (a : Fin 256) (f : Account → Account) : (s.updAccount a f).mgt = s.mgt := rfl
@[simp] theorem State.updAccount_params (s : State) (a : Fin 256) (f : Account → Account) : (s.updAccount a f).params = s.params := rfl
@[simp] theorem State.updAccount_line (s : State) (a : Fin 256) (f : Account → Account) (l' : Fin 32) : (s.updAccount a f).line l' = s.line l' := rfl
@[simp] theorem State.updAccount_channel (s : State) (a : Fin 256) (f : Account → Account) (c' : Fin 24) : (s.updAccount a f).channel c' = s.channel c' := rfl
@[simp] theorem State.updAccount_meter (s : State) (a : Fin 256) (f : Account → Account) (c' : Fin 24) : (s.updAccount a f).meter c' = s.meter c' := rfl
@[simp] theorem State.updAccount_row (s : State) (a : Fin 256) (f : Account → Account) (r' : Fin 64) : (s.updAccount a f).row r' = s.row r' := rfl
@[simp] theorem State.updAccount_message (s : State) (a : Fin 256) (f : Account → Account) (m' : Fin 24) : (s.updAccount a f).message m' = s.message m' := rfl

/-! ### setRow -/

@[simp] theorem State.setRow_pending (s : State) (r : Fin 64) (x : Row) : (s.setRow r x).pending = s.pending := rfl
@[simp] theorem State.setRow_inReset (s : State) (r : Fin 64) (x : Row) : (s.setRow r x).inReset = s.inReset := rfl
@[simp] theorem State.setRow_now (s : State) (r : Fin 64) (x : Row) : (s.setRow r x).now = s.now := rfl
@[simp] theorem State.setRow_key (s : State) (r : Fin 64) (x : Row) : (s.setRow r x).key = s.key := rfl
@[simp] theorem State.setRow_groups (s : State) (r : Fin 64) (x : Row) : (s.setRow r x).groups = s.groups := rfl
@[simp] theorem State.setRow_messages (s : State) (r : Fin 64) (x : Row) : (s.setRow r x).messages = s.messages := rfl
@[simp] theorem State.setRow_lines (s : State) (r : Fin 64) (x : Row) : (s.setRow r x).lines = s.lines := rfl
@[simp] theorem State.setRow_dir (s : State) (r : Fin 64) (x : Row) : (s.setRow r x).dir = s.dir := rfl
@[simp] theorem State.setRow_accounts (s : State) (r : Fin 64) (x : Row) : (s.setRow r x).accounts = s.accounts := rfl
@[simp] theorem State.setRow_cal (s : State) (r : Fin 64) (x : Row) : (s.setRow r x).cal = s.cal := rfl
@[simp] theorem State.setRow_meters (s : State) (r : Fin 64) (x : Row) : (s.setRow r x).meters = s.meters := rfl
@[simp] theorem State.setRow_queue (s : State) (r : Fin 64) (x : Row) : (s.setRow r x).queue = s.queue := rfl
@[simp] theorem State.setRow_channels (s : State) (r : Fin 64) (x : Row) : (s.setRow r x).channels = s.channels := rfl
@[simp] theorem State.setRow_watches (s : State) (r : Fin 64) (x : Row) : (s.setRow r x).watches = s.watches := rfl
@[simp] theorem State.setRow_sample (s : State) (r : Fin 64) (x : Row) : (s.setRow r x).sample = s.sample := rfl
@[simp] theorem State.setRow_trunk (s : State) (r : Fin 64) (x : Row) : (s.setRow r x).trunk = s.trunk := rfl
@[simp] theorem State.setRow_mgt (s : State) (r : Fin 64) (x : Row) : (s.setRow r x).mgt = s.mgt := rfl
@[simp] theorem State.setRow_params (s : State) (r : Fin 64) (x : Row) : (s.setRow r x).params = s.params := rfl
@[simp] theorem State.setRow_line (s : State) (r : Fin 64) (x : Row) (l' : Fin 32) : (s.setRow r x).line l' = s.line l' := rfl
@[simp] theorem State.setRow_channel (s : State) (r : Fin 64) (x : Row) (c' : Fin 24) : (s.setRow r x).channel c' = s.channel c' := rfl
@[simp] theorem State.setRow_meter (s : State) (r : Fin 64) (x : Row) (c' : Fin 24) : (s.setRow r x).meter c' = s.meter c' := rfl
@[simp] theorem State.setRow_account (s : State) (r : Fin 64) (x : Row) (a' : Fin 256) : (s.setRow r x).account a' = s.account a' := rfl
@[simp] theorem State.setRow_message (s : State) (r : Fin 64) (x : Row) (m' : Fin 24) : (s.setRow r x).message m' = s.message m' := rfl

/-! ### updMgt -/

@[simp] theorem State.updMgt_pending (s : State) (f : Management → Management) : (s.updMgt f).pending = s.pending := rfl
@[simp] theorem State.updMgt_inReset (s : State) (f : Management → Management) : (s.updMgt f).inReset = s.inReset := rfl
@[simp] theorem State.updMgt_now (s : State) (f : Management → Management) : (s.updMgt f).now = s.now := rfl
@[simp] theorem State.updMgt_key (s : State) (f : Management → Management) : (s.updMgt f).key = s.key := rfl
@[simp] theorem State.updMgt_groups (s : State) (f : Management → Management) : (s.updMgt f).groups = s.groups := rfl
@[simp] theorem State.updMgt_messages (s : State) (f : Management → Management) : (s.updMgt f).messages = s.messages := rfl
@[simp] theorem State.updMgt_lines (s : State) (f : Management → Management) : (s.updMgt f).lines = s.lines := rfl
@[simp] theorem State.updMgt_dir (s : State) (f : Management → Management) : (s.updMgt f).dir = s.dir := rfl
@[simp] theorem State.updMgt_accounts (s : State) (f : Management → Management) : (s.updMgt f).accounts = s.accounts := rfl
@[simp] theorem State.updMgt_cal (s : State) (f : Management → Management) : (s.updMgt f).cal = s.cal := rfl
@[simp] theorem State.updMgt_meters (s : State) (f : Management → Management) : (s.updMgt f).meters = s.meters := rfl
@[simp] theorem State.updMgt_queue (s : State) (f : Management → Management) : (s.updMgt f).queue = s.queue := rfl
@[simp] theorem State.updMgt_channels (s : State) (f : Management → Management) : (s.updMgt f).channels = s.channels := rfl
@[simp] theorem State.updMgt_tickets (s : State) (f : Management → Management) : (s.updMgt f).tickets = s.tickets := rfl
@[simp] theorem State.updMgt_watches (s : State) (f : Management → Management) : (s.updMgt f).watches = s.watches := rfl
@[simp] theorem State.updMgt_sample (s : State) (f : Management → Management) : (s.updMgt f).sample = s.sample := rfl
@[simp] theorem State.updMgt_trunk (s : State) (f : Management → Management) : (s.updMgt f).trunk = s.trunk := rfl
@[simp] theorem State.updMgt_params (s : State) (f : Management → Management) : (s.updMgt f).params = s.params := rfl
@[simp] theorem State.updMgt_line (s : State) (f : Management → Management) (l' : Fin 32) : (s.updMgt f).line l' = s.line l' := rfl
@[simp] theorem State.updMgt_channel (s : State) (f : Management → Management) (c' : Fin 24) : (s.updMgt f).channel c' = s.channel c' := rfl
@[simp] theorem State.updMgt_meter (s : State) (f : Management → Management) (c' : Fin 24) : (s.updMgt f).meter c' = s.meter c' := rfl
@[simp] theorem State.updMgt_account (s : State) (f : Management → Management) (a' : Fin 256) : (s.updMgt f).account a' = s.account a' := rfl
@[simp] theorem State.updMgt_row (s : State) (f : Management → Management) (r' : Fin 64) : (s.updMgt f).row r' = s.row r' := rfl
@[simp] theorem State.updMgt_message (s : State) (f : Management → Management) (m' : Fin 24) : (s.updMgt f).message m' = s.message m' := rfl

/-! ### updTrunk -/

@[simp] theorem State.updTrunk_pending (s : State) (f : Trunk → Trunk) : (s.updTrunk f).pending = s.pending := rfl
@[simp] theorem State.updTrunk_inReset (s : State) (f : Trunk → Trunk) : (s.updTrunk f).inReset = s.inReset := rfl
@[simp] theorem State.updTrunk_now (s : State) (f : Trunk → Trunk) : (s.updTrunk f).now = s.now := rfl
@[simp] theorem State.updTrunk_key (s : State) (f : Trunk → Trunk) : (s.updTrunk f).key = s.key := rfl
@[simp] theorem State.updTrunk_groups (s : State) (f : Trunk → Trunk) : (s.updTrunk f).groups = s.groups := rfl
@[simp] theorem State.updTrunk_messages (s : State) (f : Trunk → Trunk) : (s.updTrunk f).messages = s.messages := rfl
@[simp] theorem State.updTrunk_lines (s : State) (f : Trunk → Trunk) : (s.updTrunk f).lines = s.lines := rfl
@[simp] theorem State.updTrunk_dir (s : State) (f : Trunk → Trunk) : (s.updTrunk f).dir = s.dir := rfl
@[simp] theorem State.updTrunk_accounts (s : State) (f : Trunk → Trunk) : (s.updTrunk f).accounts = s.accounts := rfl
@[simp] theorem State.updTrunk_cal (s : State) (f : Trunk → Trunk) : (s.updTrunk f).cal = s.cal := rfl
@[simp] theorem State.updTrunk_meters (s : State) (f : Trunk → Trunk) : (s.updTrunk f).meters = s.meters := rfl
@[simp] theorem State.updTrunk_queue (s : State) (f : Trunk → Trunk) : (s.updTrunk f).queue = s.queue := rfl
@[simp] theorem State.updTrunk_channels (s : State) (f : Trunk → Trunk) : (s.updTrunk f).channels = s.channels := rfl
@[simp] theorem State.updTrunk_tickets (s : State) (f : Trunk → Trunk) : (s.updTrunk f).tickets = s.tickets := rfl
@[simp] theorem State.updTrunk_watches (s : State) (f : Trunk → Trunk) : (s.updTrunk f).watches = s.watches := rfl
@[simp] theorem State.updTrunk_sample (s : State) (f : Trunk → Trunk) : (s.updTrunk f).sample = s.sample := rfl
@[simp] theorem State.updTrunk_mgt (s : State) (f : Trunk → Trunk) : (s.updTrunk f).mgt = s.mgt := rfl
@[simp] theorem State.updTrunk_params (s : State) (f : Trunk → Trunk) : (s.updTrunk f).params = s.params := rfl
@[simp] theorem State.updTrunk_line (s : State) (f : Trunk → Trunk) (l' : Fin 32) : (s.updTrunk f).line l' = s.line l' := rfl
@[simp] theorem State.updTrunk_channel (s : State) (f : Trunk → Trunk) (c' : Fin 24) : (s.updTrunk f).channel c' = s.channel c' := rfl
@[simp] theorem State.updTrunk_meter (s : State) (f : Trunk → Trunk) (c' : Fin 24) : (s.updTrunk f).meter c' = s.meter c' := rfl
@[simp] theorem State.updTrunk_account (s : State) (f : Trunk → Trunk) (a' : Fin 256) : (s.updTrunk f).account a' = s.account a' := rfl
@[simp] theorem State.updTrunk_row (s : State) (f : Trunk → Trunk) (r' : Fin 64) : (s.updTrunk f).row r' = s.row r' := rfl
@[simp] theorem State.updTrunk_message (s : State) (f : Trunk → Trunk) (m' : Fin 24) : (s.updTrunk f).message m' = s.message m' := rfl

/-! ### updCal -/

@[simp] theorem State.updCal_pending (s : State) (f : Calendar → Calendar) : (s.updCal f).pending = s.pending := rfl
@[simp] theorem State.updCal_inReset (s : State) (f : Calendar → Calendar) : (s.updCal f).inReset = s.inReset := rfl
@[simp] theorem State.updCal_now (s : State) (f : Calendar → Calendar) : (s.updCal f).now = s.now := rfl
@[simp] theorem State.updCal_key (s : State) (f : Calendar → Calendar) : (s.updCal f).key = s.key := rfl
@[simp] theorem State.updCal_groups (s : State) (f : Calendar → Calendar) : (s.updCal f).groups = s.groups := rfl
@[simp] theorem State.updCal_messages (s : State) (f : Calendar → Calendar) : (s.updCal f).messages = s.messages := rfl
@[simp] theorem State.updCal_lines (s : State) (f : Calendar → Calendar) : (s.updCal f).lines = s.lines := rfl
@[simp] theorem State.updCal_dir (s : State) (f : Calendar → Calendar) : (s.updCal f).dir = s.dir := rfl
@[simp] theorem State.updCal_accounts (s : State) (f : Calendar → Calendar) : (s.updCal f).accounts = s.accounts := rfl
@[simp] theorem State.updCal_meters (s : State) (f : Calendar → Calendar) : (s.updCal f).meters = s.meters := rfl
@[simp] theorem State.updCal_queue (s : State) (f : Calendar → Calendar) : (s.updCal f).queue = s.queue := rfl
@[simp] theorem State.updCal_channels (s : State) (f : Calendar → Calendar) : (s.updCal f).channels = s.channels := rfl
@[simp] theorem State.updCal_tickets (s : State) (f : Calendar → Calendar) : (s.updCal f).tickets = s.tickets := rfl
@[simp] theorem State.updCal_watches (s : State) (f : Calendar → Calendar) : (s.updCal f).watches = s.watches := rfl
@[simp] theorem State.updCal_sample (s : State) (f : Calendar → Calendar) : (s.updCal f).sample = s.sample := rfl
@[simp] theorem State.updCal_trunk (s : State) (f : Calendar → Calendar) : (s.updCal f).trunk = s.trunk := rfl
@[simp] theorem State.updCal_mgt (s : State) (f : Calendar → Calendar) : (s.updCal f).mgt = s.mgt := rfl
@[simp] theorem State.updCal_params (s : State) (f : Calendar → Calendar) : (s.updCal f).params = s.params := rfl
@[simp] theorem State.updCal_line (s : State) (f : Calendar → Calendar) (l' : Fin 32) : (s.updCal f).line l' = s.line l' := rfl
@[simp] theorem State.updCal_channel (s : State) (f : Calendar → Calendar) (c' : Fin 24) : (s.updCal f).channel c' = s.channel c' := rfl
@[simp] theorem State.updCal_meter (s : State) (f : Calendar → Calendar) (c' : Fin 24) : (s.updCal f).meter c' = s.meter c' := rfl
@[simp] theorem State.updCal_account (s : State) (f : Calendar → Calendar) (a' : Fin 256) : (s.updCal f).account a' = s.account a' := rfl
@[simp] theorem State.updCal_row (s : State) (f : Calendar → Calendar) (r' : Fin 64) : (s.updCal f).row r' = s.row r' := rfl
@[simp] theorem State.updCal_message (s : State) (f : Calendar → Calendar) (m' : Fin 24) : (s.updCal f).message m' = s.message m' := rfl

/-! ### updDir -/

@[simp] theorem State.updDir_pending (s : State) (f : Directory → Directory) : (s.updDir f).pending = s.pending := rfl
@[simp] theorem State.updDir_inReset (s : State) (f : Directory → Directory) : (s.updDir f).inReset = s.inReset := rfl
@[simp] theorem State.updDir_now (s : State) (f : Directory → Directory) : (s.updDir f).now = s.now := rfl
@[simp] theorem State.updDir_key (s : State) (f : Directory → Directory) : (s.updDir f).key = s.key := rfl
@[simp] theorem State.updDir_groups (s : State) (f : Directory → Directory) : (s.updDir f).groups = s.groups := rfl
@[simp] theorem State.updDir_messages (s : State) (f : Directory → Directory) : (s.updDir f).messages = s.messages := rfl
@[simp] theorem State.updDir_lines (s : State) (f : Directory → Directory) : (s.updDir f).lines = s.lines := rfl
@[simp] theorem State.updDir_accounts (s : State) (f : Directory → Directory) : (s.updDir f).accounts = s.accounts := rfl
@[simp] theorem State.updDir_cal (s : State) (f : Directory → Directory) : (s.updDir f).cal = s.cal := rfl
@[simp] theorem State.updDir_meters (s : State) (f : Directory → Directory) : (s.updDir f).meters = s.meters := rfl
@[simp] theorem State.updDir_queue (s : State) (f : Directory → Directory) : (s.updDir f).queue = s.queue := rfl
@[simp] theorem State.updDir_channels (s : State) (f : Directory → Directory) : (s.updDir f).channels = s.channels := rfl
@[simp] theorem State.updDir_tickets (s : State) (f : Directory → Directory) : (s.updDir f).tickets = s.tickets := rfl
@[simp] theorem State.updDir_watches (s : State) (f : Directory → Directory) : (s.updDir f).watches = s.watches := rfl
@[simp] theorem State.updDir_sample (s : State) (f : Directory → Directory) : (s.updDir f).sample = s.sample := rfl
@[simp] theorem State.updDir_trunk (s : State) (f : Directory → Directory) : (s.updDir f).trunk = s.trunk := rfl
@[simp] theorem State.updDir_mgt (s : State) (f : Directory → Directory) : (s.updDir f).mgt = s.mgt := rfl
@[simp] theorem State.updDir_params (s : State) (f : Directory → Directory) : (s.updDir f).params = s.params := rfl
@[simp] theorem State.updDir_line (s : State) (f : Directory → Directory) (l' : Fin 32) : (s.updDir f).line l' = s.line l' := rfl
@[simp] theorem State.updDir_channel (s : State) (f : Directory → Directory) (c' : Fin 24) : (s.updDir f).channel c' = s.channel c' := rfl
@[simp] theorem State.updDir_meter (s : State) (f : Directory → Directory) (c' : Fin 24) : (s.updDir f).meter c' = s.meter c' := rfl
@[simp] theorem State.updDir_account (s : State) (f : Directory → Directory) (a' : Fin 256) : (s.updDir f).account a' = s.account a' := rfl
@[simp] theorem State.updDir_row (s : State) (f : Directory → Directory) (r' : Fin 64) : (s.updDir f).row r' = s.row r' := rfl
@[simp] theorem State.updDir_message (s : State) (f : Directory → Directory) (m' : Fin 24) : (s.updDir f).message m' = s.message m' := rfl

/-! ### updStage -/

@[simp] theorem State.updStage_pending (s : State) (f : Stage → Stage) : (s.updStage f).pending = s.pending := rfl
@[simp] theorem State.updStage_inReset (s : State) (f : Stage → Stage) : (s.updStage f).inReset = s.inReset := rfl
@[simp] theorem State.updStage_now (s : State) (f : Stage → Stage) : (s.updStage f).now = s.now := rfl
@[simp] theorem State.updStage_key (s : State) (f : Stage → Stage) : (s.updStage f).key = s.key := rfl
@[simp] theorem State.updStage_groups (s : State) (f : Stage → Stage) : (s.updStage f).groups = s.groups := rfl
@[simp] theorem State.updStage_messages (s : State) (f : Stage → Stage) : (s.updStage f).messages = s.messages := rfl
@[simp] theorem State.updStage_lines (s : State) (f : Stage → Stage) : (s.updStage f).lines = s.lines := rfl
@[simp] theorem State.updStage_accounts (s : State) (f : Stage → Stage) : (s.updStage f).accounts = s.accounts := rfl
@[simp] theorem State.updStage_cal (s : State) (f : Stage → Stage) : (s.updStage f).cal = s.cal := rfl
@[simp] theorem State.updStage_meters (s : State) (f : Stage → Stage) : (s.updStage f).meters = s.meters := rfl
@[simp] theorem State.updStage_queue (s : State) (f : Stage → Stage) : (s.updStage f).queue = s.queue := rfl
@[simp] theorem State.updStage_channels (s : State) (f : Stage → Stage) : (s.updStage f).channels = s.channels := rfl
@[simp] theorem State.updStage_tickets (s : State) (f : Stage → Stage) : (s.updStage f).tickets = s.tickets := rfl
@[simp] theorem State.updStage_watches (s : State) (f : Stage → Stage) : (s.updStage f).watches = s.watches := rfl
@[simp] theorem State.updStage_sample (s : State) (f : Stage → Stage) : (s.updStage f).sample = s.sample := rfl
@[simp] theorem State.updStage_trunk (s : State) (f : Stage → Stage) : (s.updStage f).trunk = s.trunk := rfl
@[simp] theorem State.updStage_mgt (s : State) (f : Stage → Stage) : (s.updStage f).mgt = s.mgt := rfl
@[simp] theorem State.updStage_params (s : State) (f : Stage → Stage) : (s.updStage f).params = s.params := rfl
@[simp] theorem State.updStage_line (s : State) (f : Stage → Stage) (l' : Fin 32) : (s.updStage f).line l' = s.line l' := rfl
@[simp] theorem State.updStage_channel (s : State) (f : Stage → Stage) (c' : Fin 24) : (s.updStage f).channel c' = s.channel c' := rfl
@[simp] theorem State.updStage_meter (s : State) (f : Stage → Stage) (c' : Fin 24) : (s.updStage f).meter c' = s.meter c' := rfl
@[simp] theorem State.updStage_account (s : State) (f : Stage → Stage) (a' : Fin 256) : (s.updStage f).account a' = s.account a' := rfl
@[simp] theorem State.updStage_row (s : State) (f : Stage → Stage) (r' : Fin 64) : (s.updStage f).row r' = s.row r' := rfl
@[simp] theorem State.updStage_message (s : State) (f : Stage → Stage) (m' : Fin 24) : (s.updStage f).message m' = s.message m' := rfl

/-! ### What an updater writes -/

@[simp] theorem State.updMgt_mgt (s : State) (f : Management → Management) : (s.updMgt f).mgt = f s.mgt := rfl
@[simp] theorem State.updTrunk_trunk (s : State) (f : Trunk → Trunk) : (s.updTrunk f).trunk = f s.trunk := rfl
@[simp] theorem State.updCal_cal (s : State) (f : Calendar → Calendar) : (s.updCal f).cal = f s.cal := rfl
@[simp] theorem State.updDir_dir (s : State) (f : Directory → Directory) : (s.updDir f).dir = f s.dir := rfl
@[simp] theorem State.updStage_dir (s : State) (f : Stage → Stage) : (s.updStage f).dir = { s.dir with stage := f s.dir.stage } := rfl

@[simp] theorem State.setLine_line_same (s : State) (l : Fin 32) (x : Line) : (s.setLine l x).line l = x := by
  simp [State.setLine, State.line]
theorem State.setLine_line (s : State) (l k : Fin 32) (x : Line) : (s.setLine l x).line k = if k = l then x else s.line k := by
  by_cases h : l = k
  · subst h; simp
  · have h' : ¬ k = l := fun e => h e.symm
    simp [State.setLine, State.line, Fin.val_inj, h, h']
@[simp] theorem State.setLine_line_other (s : State) {l k : Fin 32} (x : Line) (h : k ≠ l) : (s.setLine l x).line k = s.line k := by
  rw [State.setLine_line, if_neg h]
@[simp] theorem State.updLine_line_same (s : State) (l : Fin 32) (f : Line → Line) : (s.updLine l f).line l = f (s.line l) := by
  simp [State.updLine]
theorem State.updLine_line (s : State) (l k : Fin 32) (f : Line → Line) :
    (s.updLine l f).line k = if k = l then f (s.line l) else s.line k := by
  simp [State.updLine, State.setLine_line]
@[simp] theorem State.updLine_line_other (s : State) {l k : Fin 32} (f : Line → Line) (h : k ≠ l) :
    (s.updLine l f).line k = s.line k := by
  rw [State.updLine_line, if_neg h]

@[simp] theorem State.setChannel_channel_same (s : State) (c : Fin 24) (x : Channel) : (s.setChannel c x).channel c = x := by
  simp [State.setChannel, State.channel]
theorem State.setChannel_channel (s : State) (c k : Fin 24) (x : Channel) : (s.setChannel c x).channel k = if k = c then x else s.channel k := by
  by_cases h : c = k
  · subst h; simp
  · have h' : ¬ k = c := fun e => h e.symm
    simp [State.setChannel, State.channel, Fin.val_inj, h, h']
@[simp] theorem State.setChannel_channel_other (s : State) {c k : Fin 24} (x : Channel) (h : k ≠ c) : (s.setChannel c x).channel k = s.channel k := by
  rw [State.setChannel_channel, if_neg h]

@[simp] theorem State.updChannel_channel_same (s : State) (c : Fin 24) (f : Channel → Channel) : (s.updChannel c f).channel c = f (s.channel c) := by
  simp [State.updChannel]
theorem State.updChannel_channel (s : State) (c k : Fin 24) (f : Channel → Channel) :
    (s.updChannel c f).channel k = if k = c then f (s.channel c) else s.channel k := by
  simp [State.updChannel, State.setChannel_channel]
@[simp] theorem State.updChannel_channel_other (s : State) {c k : Fin 24} (f : Channel → Channel) (h : k ≠ c) :
    (s.updChannel c f).channel k = s.channel k := by
  rw [State.updChannel_channel, if_neg h]

@[simp] theorem State.setMeter_meter_same (s : State) (c : Fin 24) (x : Option Meter) : (s.setMeter c x).meter c = x := by
  simp [State.setMeter, State.meter]
theorem State.setMeter_meter (s : State) (c k : Fin 24) (x : Option Meter) : (s.setMeter c x).meter k = if k = c then x else s.meter k := by
  by_cases h : c = k
  · subst h; simp
  · have h' : ¬ k = c := fun e => h e.symm
    simp [State.setMeter, State.meter, Fin.val_inj, h, h']
@[simp] theorem State.setMeter_meter_other (s : State) {c k : Fin 24} (x : Option Meter) (h : k ≠ c) : (s.setMeter c x).meter k = s.meter k := by
  rw [State.setMeter_meter, if_neg h]

@[simp] theorem State.updMeter_meter_same (s : State) (c : Fin 24) (f : Meter → Meter) : (s.updMeter c f).meter c = (s.meter c).map f := by
  simp [State.updMeter]
theorem State.updMeter_meter (s : State) (c k : Fin 24) (f : Meter → Meter) :
    (s.updMeter c f).meter k = if k = c then (s.meter c).map f else s.meter k := by
  simp [State.updMeter, State.setMeter_meter]
@[simp] theorem State.updMeter_meter_other (s : State) {c k : Fin 24} (f : Meter → Meter) (h : k ≠ c) :
    (s.updMeter c f).meter k = s.meter k := by
  rw [State.updMeter_meter, if_neg h]

@[simp] theorem State.setAccount_account_same (s : State) (a : Fin 256) (x : Account) : (s.setAccount a x).account a = x := by
  simp [State.setAccount, State.account]
theorem State.setAccount_account (s : State) (a k : Fin 256) (x : Account) : (s.setAccount a x).account k = if k = a then x else s.account k := by
  by_cases h : a = k
  · subst h; simp
  · have h' : ¬ k = a := fun e => h e.symm
    simp [State.setAccount, State.account, Fin.val_inj, h, h']
@[simp] theorem State.setAccount_account_other (s : State) {a k : Fin 256} (x : Account) (h : k ≠ a) : (s.setAccount a x).account k = s.account k := by
  rw [State.setAccount_account, if_neg h]

@[simp] theorem State.updAccount_account_same (s : State) (a : Fin 256) (f : Account → Account) : (s.updAccount a f).account a = f (s.account a) := by
  simp [State.updAccount]
theorem State.updAccount_account (s : State) (a k : Fin 256) (f : Account → Account) :
    (s.updAccount a f).account k = if k = a then f (s.account a) else s.account k := by
  simp [State.updAccount, State.setAccount_account]
@[simp] theorem State.updAccount_account_other (s : State) {a k : Fin 256} (f : Account → Account) (h : k ≠ a) :
    (s.updAccount a f).account k = s.account k := by
  rw [State.updAccount_account, if_neg h]

@[simp] theorem State.setRow_row_same (s : State) (r : Fin 64) (x : Row) : (s.setRow r x).row r = x := by
  simp [State.setRow, State.row]
theorem State.setRow_row (s : State) (r k : Fin 64) (x : Row) : (s.setRow r x).row k = if k = r then x else s.row k := by
  by_cases h : r = k
  · subst h; simp
  · have h' : ¬ k = r := fun e => h e.symm
    simp [State.setRow, State.row, Fin.val_inj, h, h']
@[simp] theorem State.setRow_row_other (s : State) {r k : Fin 64} (x : Row) (h : k ≠ r) : (s.setRow r x).row k = s.row k := by
  rw [State.setRow_row, if_neg h]

@[simp] theorem State.setRow_serial (s : State) (r : Fin 64) (x : Row) : (s.setRow r x).tickets.serial = s.tickets.serial := rfl
@[simp] theorem State.setRow_closeList (s : State) (r : Fin 64) (x : Row) : (s.setRow r x).tickets.closeList = s.tickets.closeList := rfl

/-! ### Accessors of a state given field by field -/

theorem State.line_ofFn (s : State) (f : Fin 32 → Line) (k : Fin 32) : State.line { s with lines := Vector.ofFn f } k = f k := by
  simp [State.line]
theorem State.meter_ofFn (s : State) (f : Fin 24 → Option Meter) (k : Fin 24) :
    State.meter { s with meters := Vector.ofFn f } k = f k := by
  simp [State.meter]

/-- Two line vectors that agree at every line are equal. -/
theorem State.lines_ext {s t : State} (h : ∀ l, s.line l = t.line l) : s.lines = t.lines := by
  apply Vector.ext; intro i hi; exact h ⟨i, hi⟩
/-- Two channel vectors that agree at every channel are equal. -/
theorem State.channels_ext {s t : State} (h : ∀ c, s.channel c = t.channel c) : s.channels = t.channels := by
  apply Vector.ext; intro i hi; exact h ⟨i, hi⟩
/-- Two meter vectors that agree at every channel are equal. -/
theorem State.meters_ext {s t : State} (h : ∀ c, s.meter c = t.meter c) : s.meters = t.meters := by
  apply Vector.ext; intro i hi; exact h ⟨i, hi⟩
/-- Two account vectors that agree at every account are equal. -/
theorem State.accounts_ext {s t : State} (h : ∀ a, s.account a = t.account a) : s.accounts = t.accounts := by
  apply Vector.ext; intro i hi; exact h ⟨i, hi⟩
/-- Two row vectors that agree at every row are equal. -/
theorem State.rows_ext {s t : State} (h : ∀ r, s.row r = t.row r) : s.tickets.rows = t.tickets.rows := by
  apply Vector.ext; intro i hi; exact h ⟨i, hi⟩

/-- A fold of steps that each keep `g` keeps `g`. -/
theorem foldl_keeps {α β γ : Type} (g : β → γ) (f : β → α → β) (h : ∀ b a, g (f b a) = g b) (l : List α) (b : β) :
    g (l.foldl f b) = g b := by
  induction l generalizing b with
  | nil => rfl
  | cons a t ih => rw [List.foldl_cons, ih, h]

/-- A fold of steps that each keep a property keeps it. -/
theorem foldl_invariant {α β : Type} (p : β → Prop) (f : β → α → β) (h : ∀ b a, p b → p (f b a)) (l : List α) (b : β) (hb : p b) :
    p (l.foldl f b) := by
  induction l generalizing b with
  | nil => exact hb
  | cons a t ih => exact ih _ (h b a hb)

end Sys2Proof.Machine
end

