-- ==== Sys2Proof/Laws/OpsFrames.lean ====
section
/-! SUPPORT. The frame of every shared operation of Ops.lean: the fields and accessors it leaves as they were. -/

set_option linter.all false

namespace Sys2Proof.Machine

open Sys2Proof

@[simp] theorem placeMessage_frame (l : Fin 32) (m : Fin 24) (s : State) :
    (placeMessage l m s).pending = s.pending ∧ (placeMessage l m s).inReset = s.inReset ∧ (placeMessage l m s).now = s.now ∧ (placeMessage l m s).key = s.key ∧ (placeMessage l m s).groups = s.groups ∧ (placeMessage l m s).messages = s.messages ∧ (placeMessage l m s).dir = s.dir ∧ (placeMessage l m s).accounts = s.accounts ∧ (placeMessage l m s).cal = s.cal ∧ (placeMessage l m s).meters = s.meters ∧ (placeMessage l m s).queue = s.queue ∧ (placeMessage l m s).channels = s.channels ∧ (placeMessage l m s).tickets = s.tickets ∧ (placeMessage l m s).watches = s.watches ∧ (placeMessage l m s).sample = s.sample ∧ (placeMessage l m s).trunk = s.trunk ∧ (placeMessage l m s).mgt = s.mgt ∧ (placeMessage l m s).params = s.params ∧ (∀ j, (placeMessage l m s).channel j = s.channel j) ∧ (∀ j, (placeMessage l m s).meter j = s.meter j) ∧ (∀ j, (placeMessage l m s).account j = s.account j) ∧ (∀ j, (placeMessage l m s).row j = s.row j) ∧ (∀ j, (placeMessage l m s).message j = s.message j) := by
  unfold placeMessage; (try dsimp only); (refine ⟨?_, ?_, ?_, ?_, ?_, ?_, ?_, ?_, ?_, ?_, ?_, ?_, ?_, ?_, ?_, ?_, ?_, ?_, ?_, ?_, ?_, ?_, ?_⟩ <;> (try intro j) <;> (repeat' split) <;> first | (simp; done) | (simp [State.line, State.channel, State.meter, State.account, State.row, State.message, Management.load]; done) | rfl)

@[simp] theorem tryPrompt_frame (l : Fin 32) (s : State) :
    (tryPrompt l s).pending = s.pending ∧ (tryPrompt l s).inReset = s.inReset ∧ (tryPrompt l s).now = s.now ∧ (tryPrompt l s).key = s.key ∧ (tryPrompt l s).groups = s.groups ∧ (tryPrompt l s).messages = s.messages ∧ (tryPrompt l s).dir = s.dir ∧ (tryPrompt l s).accounts = s.accounts ∧ (tryPrompt l s).cal = s.cal ∧ (tryPrompt l s).meters = s.meters ∧ (tryPrompt l s).queue = s.queue ∧ (tryPrompt l s).channels = s.channels ∧ (tryPrompt l s).tickets = s.tickets ∧ (tryPrompt l s).watches = s.watches ∧ (tryPrompt l s).sample = s.sample ∧ (tryPrompt l s).trunk = s.trunk ∧ (tryPrompt l s).mgt = s.mgt ∧ (tryPrompt l s).params = s.params ∧ (∀ j, (tryPrompt l s).channel j = s.channel j) ∧ (∀ j, (tryPrompt l s).meter j = s.meter j) ∧ (∀ j, (tryPrompt l s).account j = s.account j) ∧ (∀ j, (tryPrompt l s).row j = s.row j) ∧ (∀ j, (tryPrompt l s).message j = s.message j) := by
  unfold tryPrompt; (try dsimp only); (refine ⟨?_, ?_, ?_, ?_, ?_, ?_, ?_, ?_, ?_, ?_, ?_, ?_, ?_, ?_, ?_, ?_, ?_, ?_, ?_, ?_, ?_, ?_, ?_⟩ <;> (try intro j) <;> (repeat' split) <;> first | (simp; done) | (simp [State.line, State.channel, State.meter, State.account, State.row, State.message, Management.load]; done) | rfl)

@[simp] theorem notify_frame (l : Fin 32) (m : Fin 24) (v : Int) (s : State) :
    (notify l m v s).pending = s.pending ∧ (notify l m v s).inReset = s.inReset ∧ (notify l m v s).now = s.now ∧ (notify l m v s).key = s.key ∧ (notify l m v s).groups = s.groups ∧ (notify l m v s).messages = s.messages ∧ (notify l m v s).dir = s.dir ∧ (notify l m v s).accounts = s.accounts ∧ (notify l m v s).cal = s.cal ∧ (notify l m v s).meters = s.meters ∧ (notify l m v s).queue = s.queue ∧ (notify l m v s).channels = s.channels ∧ (notify l m v s).tickets = s.tickets ∧ (notify l m v s).watches = s.watches ∧ (notify l m v s).sample = s.sample ∧ (notify l m v s).trunk = s.trunk ∧ (notify l m v s).mgt = s.mgt ∧ (notify l m v s).params = s.params ∧ (∀ j, (notify l m v s).channel j = s.channel j) ∧ (∀ j, (notify l m v s).meter j = s.meter j) ∧ (∀ j, (notify l m v s).account j = s.account j) ∧ (∀ j, (notify l m v s).row j = s.row j) ∧ (∀ j, (notify l m v s).message j = s.message j) := by
  unfold notify; (try dsimp only); (refine ⟨?_, ?_, ?_, ?_, ?_, ?_, ?_, ?_, ?_, ?_, ?_, ?_, ?_, ?_, ?_, ?_, ?_, ?_, ?_, ?_, ?_, ?_, ?_⟩ <;> (try intro j) <;> (repeat' split) <;> first | (simp; done) | (simp [State.line, State.channel, State.meter, State.account, State.row, State.message, Management.load]; done) | rfl)

@[simp] theorem notifyIf_frame (l : Fin 32) (m : Option (Fin 24)) (s : State) :
    (notifyIf l m s).pending = s.pending ∧ (notifyIf l m s).inReset = s.inReset ∧ (notifyIf l m s).now = s.now ∧ (notifyIf l m s).key = s.key ∧ (notifyIf l m s).groups = s.groups ∧ (notifyIf l m s).messages = s.messages ∧ (notifyIf l m s).dir = s.dir ∧ (notifyIf l m s).accounts = s.accounts ∧ (notifyIf l m s).cal = s.cal ∧ (notifyIf l m s).meters = s.meters ∧ (notifyIf l m s).queue = s.queue ∧ (notifyIf l m s).channels = s.channels ∧ (notifyIf l m s).tickets = s.tickets ∧ (notifyIf l m s).watches = s.watches ∧ (notifyIf l m s).sample = s.sample ∧ (notifyIf l m s).trunk = s.trunk ∧ (notifyIf l m s).mgt = s.mgt ∧ (notifyIf l m s).params = s.params ∧ (∀ j, (notifyIf l m s).channel j = s.channel j) ∧ (∀ j, (notifyIf l m s).meter j = s.meter j) ∧ (∀ j, (notifyIf l m s).account j = s.account j) ∧ (∀ j, (notifyIf l m s).row j = s.row j) ∧ (∀ j, (notifyIf l m s).message j = s.message j) := by
  unfold notifyIf; (try dsimp only); (refine ⟨?_, ?_, ?_, ?_, ?_, ?_, ?_, ?_, ?_, ?_, ?_, ?_, ?_, ?_, ?_, ?_, ?_, ?_, ?_, ?_, ?_, ?_, ?_⟩ <;> (try intro j) <;> (repeat' split) <;> first | (simp; done) | (simp [State.line, State.channel, State.meter, State.account, State.row, State.message, Management.load]; done) | rfl)

@[simp] theorem toDraining_frame (l : Fin 32) (s : State) :
    (toDraining l s).pending = s.pending ∧ (toDraining l s).inReset = s.inReset ∧ (toDraining l s).now = s.now ∧ (toDraining l s).key = s.key ∧ (toDraining l s).groups = s.groups ∧ (toDraining l s).messages = s.messages ∧ (toDraining l s).dir = s.dir ∧ (toDraining l s).accounts = s.accounts ∧ (toDraining l s).cal = s.cal ∧ (toDraining l s).meters = s.meters ∧ (toDraining l s).queue = s.queue ∧ (toDraining l s).channels = s.channels ∧ (toDraining l s).tickets = s.tickets ∧ (toDraining l s).watches = s.watches ∧ (toDraining l s).sample = s.sample ∧ (toDraining l s).trunk = s.trunk ∧ (toDraining l s).mgt = s.mgt ∧ (toDraining l s).params = s.params ∧ (∀ j, (toDraining l s).channel j = s.channel j) ∧ (∀ j, (toDraining l s).meter j = s.meter j) ∧ (∀ j, (toDraining l s).account j = s.account j) ∧ (∀ j, (toDraining l s).row j = s.row j) ∧ (∀ j, (toDraining l s).message j = s.message j) := by
  unfold toDraining; (try dsimp only); (refine ⟨?_, ?_, ?_, ?_, ?_, ?_, ?_, ?_, ?_, ?_, ?_, ?_, ?_, ?_, ?_, ?_, ?_, ?_, ?_, ?_, ?_, ?_, ?_⟩ <;> (try intro j) <;> (repeat' split) <;> first | (simp; done) | (simp [State.line, State.channel, State.meter, State.account, State.row, State.message, Management.load]; done) | rfl)

@[simp] theorem toClearing_frame (l : Fin 32) (s : State) :
    (toClearing l s).pending = s.pending ∧ (toClearing l s).inReset = s.inReset ∧ (toClearing l s).now = s.now ∧ (toClearing l s).key = s.key ∧ (toClearing l s).groups = s.groups ∧ (toClearing l s).messages = s.messages ∧ (toClearing l s).dir = s.dir ∧ (toClearing l s).accounts = s.accounts ∧ (toClearing l s).cal = s.cal ∧ (toClearing l s).meters = s.meters ∧ (toClearing l s).queue = s.queue ∧ (toClearing l s).channels = s.channels ∧ (toClearing l s).tickets = s.tickets ∧ (toClearing l s).watches = s.watches ∧ (toClearing l s).sample = s.sample ∧ (toClearing l s).trunk = s.trunk ∧ (toClearing l s).mgt = s.mgt ∧ (toClearing l s).params = s.params ∧ (∀ j, (toClearing l s).channel j = s.channel j) ∧ (∀ j, (toClearing l s).meter j = s.meter j) ∧ (∀ j, (toClearing l s).account j = s.account j) ∧ (∀ j, (toClearing l s).row j = s.row j) ∧ (∀ j, (toClearing l s).message j = s.message j) := by
  unfold toClearing; (try dsimp only); (refine ⟨?_, ?_, ?_, ?_, ?_, ?_, ?_, ?_, ?_, ?_, ?_, ?_, ?_, ?_, ?_, ?_, ?_, ?_, ?_, ?_, ?_, ?_, ?_⟩ <;> (try intro j) <;> (repeat' split) <;> first | (simp; done) | (simp [State.line, State.channel, State.meter, State.account, State.row, State.message, Management.load]; done) | rfl)

@[simp] theorem drainEnd_frame (s : State) :
    (drainEnd s).pending = s.pending ∧ (drainEnd s).inReset = s.inReset ∧ (drainEnd s).now = s.now ∧ (drainEnd s).key = s.key ∧ (drainEnd s).groups = s.groups ∧ (drainEnd s).messages = s.messages ∧ (drainEnd s).lines = s.lines ∧ (drainEnd s).dir = s.dir ∧ (drainEnd s).accounts = s.accounts ∧ (drainEnd s).cal = s.cal ∧ (drainEnd s).meters = s.meters ∧ (drainEnd s).queue = s.queue ∧ (drainEnd s).channels = s.channels ∧ (drainEnd s).tickets = s.tickets ∧ (drainEnd s).watches = s.watches ∧ (drainEnd s).sample = s.sample ∧ (drainEnd s).trunk = s.trunk ∧ (drainEnd s).params = s.params ∧ (drainEnd s).mgt.load = s.mgt.load ∧ (∀ j, (drainEnd s).line j = s.line j) ∧ (∀ j, (drainEnd s).channel j = s.channel j) ∧ (∀ j, (drainEnd s).meter j = s.meter j) ∧ (∀ j, (drainEnd s).account j = s.account j) ∧ (∀ j, (drainEnd s).row j = s.row j) ∧ (∀ j, (drainEnd s).message j = s.message j) := by
  unfold drainEnd; (try dsimp only); (refine ⟨?_, ?_, ?_, ?_, ?_, ?_, ?_, ?_, ?_, ?_, ?_, ?_, ?_, ?_, ?_, ?_, ?_, ?_, ?_, ?_, ?_, ?_, ?_, ?_, ?_⟩ <;> (try intro j) <;> (repeat' split) <;> first | (simp; done) | (simp [State.line, State.channel, State.meter, State.account, State.row, State.message, Management.load]; done) | rfl)

@[simp] theorem endAdmission_frame (l : Fin 32) (a : Fin 256) (s : State) :
    (endAdmission l a s).pending = s.pending ∧ (endAdmission l a s).inReset = s.inReset ∧ (endAdmission l a s).now = s.now ∧ (endAdmission l a s).key = s.key ∧ (endAdmission l a s).groups = s.groups ∧ (endAdmission l a s).messages = s.messages ∧ (endAdmission l a s).dir = s.dir ∧ (endAdmission l a s).cal = s.cal ∧ (endAdmission l a s).meters = s.meters ∧ (endAdmission l a s).queue = s.queue ∧ (endAdmission l a s).channels = s.channels ∧ (endAdmission l a s).tickets = s.tickets ∧ (endAdmission l a s).watches = s.watches ∧ (endAdmission l a s).sample = s.sample ∧ (endAdmission l a s).trunk = s.trunk ∧ (endAdmission l a s).params = s.params ∧ (endAdmission l a s).mgt.load = s.mgt.load ∧ (∀ j, (endAdmission l a s).channel j = s.channel j) ∧ (∀ j, (endAdmission l a s).meter j = s.meter j) ∧ (∀ j, (endAdmission l a s).row j = s.row j) ∧ (∀ j, (endAdmission l a s).message j = s.message j) := by
  unfold endAdmission; (try dsimp only); (refine ⟨?_, ?_, ?_, ?_, ?_, ?_, ?_, ?_, ?_, ?_, ?_, ?_, ?_, ?_, ?_, ?_, ?_, ?_, ?_, ?_, ?_⟩ <;> (try intro j) <;> (repeat' split) <;> first | (simp; done) | (simp [State.line, State.channel, State.meter, State.account, State.row, State.message, Management.load]; done) | rfl)

@[simp] theorem endLineAdmission_frame (l : Fin 32) (s : State) :
    (endLineAdmission l s).pending = s.pending ∧ (endLineAdmission l s).inReset = s.inReset ∧ (endLineAdmission l s).now = s.now ∧ (endLineAdmission l s).key = s.key ∧ (endLineAdmission l s).groups = s.groups ∧ (endLineAdmission l s).messages = s.messages ∧ (endLineAdmission l s).dir = s.dir ∧ (endLineAdmission l s).cal = s.cal ∧ (endLineAdmission l s).meters = s.meters ∧ (endLineAdmission l s).queue = s.queue ∧ (endLineAdmission l s).channels = s.channels ∧ (endLineAdmission l s).tickets = s.tickets ∧ (endLineAdmission l s).watches = s.watches ∧ (endLineAdmission l s).sample = s.sample ∧ (endLineAdmission l s).trunk = s.trunk ∧ (endLineAdmission l s).params = s.params ∧ (endLineAdmission l s).mgt.load = s.mgt.load ∧ (∀ j, (endLineAdmission l s).channel j = s.channel j) ∧ (∀ j, (endLineAdmission l s).meter j = s.meter j) ∧ (∀ j, (endLineAdmission l s).row j = s.row j) ∧ (∀ j, (endLineAdmission l s).message j = s.message j) := by
  unfold endLineAdmission; (try dsimp only); (refine ⟨?_, ?_, ?_, ?_, ?_, ?_, ?_, ?_, ?_, ?_, ?_, ?_, ?_, ?_, ?_, ?_, ?_, ?_, ?_, ?_, ?_⟩ <;> (try intro j) <;> (repeat' split) <;> first | (simp; done) | (simp [State.line, State.channel, State.meter, State.account, State.row, State.message, Management.load]; done) | rfl)

@[simp] theorem refuseRequest_frame (l : Fin 32) (s : State) :
    (refuseRequest l s).pending = s.pending ∧ (refuseRequest l s).inReset = s.inReset ∧ (refuseRequest l s).now = s.now ∧ (refuseRequest l s).key = s.key ∧ (refuseRequest l s).groups = s.groups ∧ (refuseRequest l s).messages = s.messages ∧ (refuseRequest l s).dir = s.dir ∧ (refuseRequest l s).accounts = s.accounts ∧ (refuseRequest l s).cal = s.cal ∧ (refuseRequest l s).meters = s.meters ∧ (refuseRequest l s).queue = s.queue ∧ (refuseRequest l s).channels = s.channels ∧ (refuseRequest l s).tickets = s.tickets ∧ (refuseRequest l s).watches = s.watches ∧ (refuseRequest l s).sample = s.sample ∧ (refuseRequest l s).trunk = s.trunk ∧ (refuseRequest l s).params = s.params ∧ (refuseRequest l s).mgt.load = s.mgt.load ∧ (∀ j, (refuseRequest l s).channel j = s.channel j) ∧ (∀ j, (refuseRequest l s).meter j = s.meter j) ∧ (∀ j, (refuseRequest l s).account j = s.account j) ∧ (∀ j, (refuseRequest l s).row j = s.row j) ∧ (∀ j, (refuseRequest l s).message j = s.message j) := by
  unfold refuseRequest; (try dsimp only); (refine ⟨?_, ?_, ?_, ?_, ?_, ?_, ?_, ?_, ?_, ?_, ?_, ?_, ?_, ?_, ?_, ?_, ?_, ?_, ?_, ?_, ?_, ?_, ?_⟩ <;> (try intro j) <;> (repeat' split) <;> first | (simp; done) | (simp [State.line, State.channel, State.meter, State.account, State.row, State.message, Management.load]; done) | rfl)

@[simp] theorem retryRequest_frame (l : Fin 32) (s : State) :
    (retryRequest l s).pending = s.pending ∧ (retryRequest l s).inReset = s.inReset ∧ (retryRequest l s).now = s.now ∧ (retryRequest l s).key = s.key ∧ (retryRequest l s).groups = s.groups ∧ (retryRequest l s).messages = s.messages ∧ (retryRequest l s).dir = s.dir ∧ (retryRequest l s).accounts = s.accounts ∧ (retryRequest l s).cal = s.cal ∧ (retryRequest l s).meters = s.meters ∧ (retryRequest l s).queue = s.queue ∧ (retryRequest l s).channels = s.channels ∧ (retryRequest l s).tickets = s.tickets ∧ (retryRequest l s).watches = s.watches ∧ (retryRequest l s).sample = s.sample ∧ (retryRequest l s).trunk = s.trunk ∧ (retryRequest l s).mgt = s.mgt ∧ (retryRequest l s).params = s.params ∧ (∀ j, (retryRequest l s).channel j = s.channel j) ∧ (∀ j, (retryRequest l s).meter j = s.meter j) ∧ (∀ j, (retryRequest l s).account j = s.account j) ∧ (∀ j, (retryRequest l s).row j = s.row j) ∧ (∀ j, (retryRequest l s).message j = s.message j) := by
  unfold retryRequest; (try dsimp only); (refine ⟨?_, ?_, ?_, ?_, ?_, ?_, ?_, ?_, ?_, ?_, ?_, ?_, ?_, ?_, ?_, ?_, ?_, ?_, ?_, ?_, ?_, ?_, ?_⟩ <;> (try intro j) <;> (repeat' split) <;> first | (simp; done) | (simp [State.line, State.channel, State.meter, State.account, State.row, State.message, Management.load]; done) | rfl)

@[simp] theorem admitRequest_frame (l : Fin 32) (s : State) :
    (admitRequest l s).pending = s.pending ∧ (admitRequest l s).inReset = s.inReset ∧ (admitRequest l s).now = s.now ∧ (admitRequest l s).key = s.key ∧ (admitRequest l s).groups = s.groups ∧ (admitRequest l s).messages = s.messages ∧ (admitRequest l s).dir = s.dir ∧ (admitRequest l s).accounts = s.accounts ∧ (admitRequest l s).cal = s.cal ∧ (admitRequest l s).meters = s.meters ∧ (admitRequest l s).queue = s.queue ∧ (admitRequest l s).channels = s.channels ∧ (admitRequest l s).tickets = s.tickets ∧ (admitRequest l s).watches = s.watches ∧ (admitRequest l s).sample = s.sample ∧ (admitRequest l s).trunk = s.trunk ∧ (admitRequest l s).mgt = s.mgt ∧ (admitRequest l s).params = s.params ∧ (∀ j, (admitRequest l s).channel j = s.channel j) ∧ (∀ j, (admitRequest l s).meter j = s.meter j) ∧ (∀ j, (admitRequest l s).account j = s.account j) ∧ (∀ j, (admitRequest l s).row j = s.row j) ∧ (∀ j, (admitRequest l s).message j = s.message j) := by
  unfold admitRequest; (try dsimp only); (refine ⟨?_, ?_, ?_, ?_, ?_, ?_, ?_, ?_, ?_, ?_, ?_, ?_, ?_, ?_, ?_, ?_, ?_, ?_, ?_, ?_, ?_, ?_, ?_⟩ <;> (try intro j) <;> (repeat' split) <;> first | (simp; done) | (simp [State.line, State.channel, State.meter, State.account, State.row, State.message, Management.load]; done) | rfl)

@[simp] theorem grantRequest_frame (l : Fin 32) (c : Fin 24) (s : State) :
    (grantRequest l c s).pending = s.pending ∧ (grantRequest l c s).inReset = s.inReset ∧ (grantRequest l c s).now = s.now ∧ (grantRequest l c s).key = s.key ∧ (grantRequest l c s).groups = s.groups ∧ (grantRequest l c s).messages = s.messages ∧ (grantRequest l c s).dir = s.dir ∧ (grantRequest l c s).accounts = s.accounts ∧ (grantRequest l c s).cal = s.cal ∧ (grantRequest l c s).meters = s.meters ∧ (grantRequest l c s).queue = s.queue ∧ (grantRequest l c s).channels = s.channels ∧ (grantRequest l c s).tickets = s.tickets ∧ (grantRequest l c s).watches = s.watches ∧ (grantRequest l c s).sample = s.sample ∧ (grantRequest l c s).trunk = s.trunk ∧ (grantRequest l c s).mgt = s.mgt ∧ (grantRequest l c s).params = s.params ∧ (∀ j, (grantRequest l c s).channel j = s.channel j) ∧ (∀ j, (grantRequest l c s).meter j = s.meter j) ∧ (∀ j, (grantRequest l c s).account j = s.account j) ∧ (∀ j, (grantRequest l c s).row j = s.row j) ∧ (∀ j, (grantRequest l c s).message j = s.message j) := by
  unfold grantRequest; (try dsimp only); (refine ⟨?_, ?_, ?_, ?_, ?_, ?_, ?_, ?_, ?_, ?_, ?_, ?_, ?_, ?_, ?_, ?_, ?_, ?_, ?_, ?_, ?_, ?_, ?_⟩ <;> (try intro j) <;> (repeat' split) <;> first | (simp; done) | (simp [State.line, State.channel, State.meter, State.account, State.row, State.message, Management.load]; done) | rfl)

@[simp] theorem removeRequest_frame (l : Fin 32) (s : State) :
    (removeRequest l s).pending = s.pending ∧ (removeRequest l s).inReset = s.inReset ∧ (removeRequest l s).now = s.now ∧ (removeRequest l s).key = s.key ∧ (removeRequest l s).groups = s.groups ∧ (removeRequest l s).messages = s.messages ∧ (removeRequest l s).dir = s.dir ∧ (removeRequest l s).accounts = s.accounts ∧ (removeRequest l s).cal = s.cal ∧ (removeRequest l s).meters = s.meters ∧ (removeRequest l s).queue = s.queue ∧ (removeRequest l s).channels = s.channels ∧ (removeRequest l s).tickets = s.tickets ∧ (removeRequest l s).watches = s.watches ∧ (removeRequest l s).sample = s.sample ∧ (removeRequest l s).trunk = s.trunk ∧ (removeRequest l s).mgt = s.mgt ∧ (removeRequest l s).params = s.params ∧ (∀ j, (removeRequest l s).channel j = s.channel j) ∧ (∀ j, (removeRequest l s).meter j = s.meter j) ∧ (∀ j, (removeRequest l s).account j = s.account j) ∧ (∀ j, (removeRequest l s).row j = s.row j) ∧ (∀ j, (removeRequest l s).message j = s.message j) := by
  unfold removeRequest; (try dsimp only); (refine ⟨?_, ?_, ?_, ?_, ?_, ?_, ?_, ?_, ?_, ?_, ?_, ?_, ?_, ?_, ?_, ?_, ?_, ?_, ?_, ?_, ?_, ?_, ?_⟩ <;> (try intro j) <;> (repeat' split) <;> first | (simp; done) | (simp [State.line, State.channel, State.meter, State.account, State.row, State.message, Management.load]; done) | rfl)

@[simp] theorem connectRequest_frame (l : Fin 32) (s : State) :
    (connectRequest l s).pending = s.pending ∧ (connectRequest l s).inReset = s.inReset ∧ (connectRequest l s).now = s.now ∧ (connectRequest l s).key = s.key ∧ (connectRequest l s).groups = s.groups ∧ (connectRequest l s).messages = s.messages ∧ (connectRequest l s).dir = s.dir ∧ (connectRequest l s).accounts = s.accounts ∧ (connectRequest l s).cal = s.cal ∧ (connectRequest l s).meters = s.meters ∧ (connectRequest l s).queue = s.queue ∧ (connectRequest l s).channels = s.channels ∧ (connectRequest l s).tickets = s.tickets ∧ (connectRequest l s).watches = s.watches ∧ (connectRequest l s).sample = s.sample ∧ (connectRequest l s).trunk = s.trunk ∧ (connectRequest l s).mgt = s.mgt ∧ (connectRequest l s).params = s.params ∧ (∀ j, (connectRequest l s).channel j = s.channel j) ∧ (∀ j, (connectRequest l s).meter j = s.meter j) ∧ (∀ j, (connectRequest l s).account j = s.account j) ∧ (∀ j, (connectRequest l s).row j = s.row j) ∧ (∀ j, (connectRequest l s).message j = s.message j) := by
  unfold connectRequest; (try dsimp only); (refine ⟨?_, ?_, ?_, ?_, ?_, ?_, ?_, ?_, ?_, ?_, ?_, ?_, ?_, ?_, ?_, ?_, ?_, ?_, ?_, ?_, ?_, ?_, ?_⟩ <;> (try intro j) <;> (repeat' split) <;> first | (simp; done) | (simp [State.line, State.channel, State.meter, State.account, State.row, State.message, Management.load]; done) | rfl)

@[simp] theorem sessionClosed_frame (l : Fin 32) (why : CloseReason) (s : State) :
    (sessionClosed l why s).pending = s.pending ∧ (sessionClosed l why s).inReset = s.inReset ∧ (sessionClosed l why s).now = s.now ∧ (sessionClosed l why s).key = s.key ∧ (sessionClosed l why s).groups = s.groups ∧ (sessionClosed l why s).messages = s.messages ∧ (sessionClosed l why s).dir = s.dir ∧ (sessionClosed l why s).accounts = s.accounts ∧ (sessionClosed l why s).cal = s.cal ∧ (sessionClosed l why s).meters = s.meters ∧ (sessionClosed l why s).queue = s.queue ∧ (sessionClosed l why s).channels = s.channels ∧ (sessionClosed l why s).tickets = s.tickets ∧ (sessionClosed l why s).watches = s.watches ∧ (sessionClosed l why s).sample = s.sample ∧ (sessionClosed l why s).trunk = s.trunk ∧ (sessionClosed l why s).mgt = s.mgt ∧ (sessionClosed l why s).params = s.params ∧ (∀ j, (sessionClosed l why s).channel j = s.channel j) ∧ (∀ j, (sessionClosed l why s).meter j = s.meter j) ∧ (∀ j, (sessionClosed l why s).account j = s.account j) ∧ (∀ j, (sessionClosed l why s).row j = s.row j) ∧ (∀ j, (sessionClosed l why s).message j = s.message j) := by
  unfold sessionClosed; (try dsimp only); (refine ⟨?_, ?_, ?_, ?_, ?_, ?_, ?_, ?_, ?_, ?_, ?_, ?_, ?_, ?_, ?_, ?_, ?_, ?_, ?_, ?_, ?_, ?_, ?_⟩ <;> (try intro j) <;> (repeat' split) <;> first | (simp; done) | (simp [State.line, State.channel, State.meter, State.account, State.row, State.message, Management.load]; done) | rfl)

@[simp] theorem endDialogue_frame (l : Fin 32) (s : State) :
    (endDialogue l s).pending = s.pending ∧ (endDialogue l s).inReset = s.inReset ∧ (endDialogue l s).now = s.now ∧ (endDialogue l s).key = s.key ∧ (endDialogue l s).groups = s.groups ∧ (endDialogue l s).messages = s.messages ∧ (endDialogue l s).dir = s.dir ∧ (endDialogue l s).accounts = s.accounts ∧ (endDialogue l s).cal = s.cal ∧ (endDialogue l s).meters = s.meters ∧ (endDialogue l s).queue = s.queue ∧ (endDialogue l s).channels = s.channels ∧ (endDialogue l s).tickets = s.tickets ∧ (endDialogue l s).watches = s.watches ∧ (endDialogue l s).sample = s.sample ∧ (endDialogue l s).trunk = s.trunk ∧ (endDialogue l s).mgt = s.mgt ∧ (endDialogue l s).params = s.params ∧ (∀ j, (endDialogue l s).channel j = s.channel j) ∧ (∀ j, (endDialogue l s).meter j = s.meter j) ∧ (∀ j, (endDialogue l s).account j = s.account j) ∧ (∀ j, (endDialogue l s).row j = s.row j) ∧ (∀ j, (endDialogue l s).message j = s.message j) := by
  unfold endDialogue; (try dsimp only); (refine ⟨?_, ?_, ?_, ?_, ?_, ?_, ?_, ?_, ?_, ?_, ?_, ?_, ?_, ?_, ?_, ?_, ?_, ?_, ?_, ?_, ?_, ?_, ?_⟩ <;> (try intro j) <;> (repeat' split) <;> first | (simp; done) | (simp [State.line, State.channel, State.meter, State.account, State.row, State.message, Management.load]; done) | rfl)

@[simp] theorem abandon_frame (l : Fin 32) (m : Option (Fin 24)) (s : State) :
    (abandon l m s).pending = s.pending ∧ (abandon l m s).inReset = s.inReset ∧ (abandon l m s).now = s.now ∧ (abandon l m s).key = s.key ∧ (abandon l m s).groups = s.groups ∧ (abandon l m s).messages = s.messages ∧ (abandon l m s).dir = s.dir ∧ (abandon l m s).accounts = s.accounts ∧ (abandon l m s).cal = s.cal ∧ (abandon l m s).meters = s.meters ∧ (abandon l m s).queue = s.queue ∧ (abandon l m s).channels = s.channels ∧ (abandon l m s).tickets = s.tickets ∧ (abandon l m s).watches = s.watches ∧ (abandon l m s).sample = s.sample ∧ (abandon l m s).trunk = s.trunk ∧ (abandon l m s).params = s.params ∧ (abandon l m s).mgt.load = s.mgt.load ∧ (∀ j, (abandon l m s).channel j = s.channel j) ∧ (∀ j, (abandon l m s).meter j = s.meter j) ∧ (∀ j, (abandon l m s).account j = s.account j) ∧ (∀ j, (abandon l m s).row j = s.row j) ∧ (∀ j, (abandon l m s).message j = s.message j) := by
  unfold abandon; (try dsimp only); (refine ⟨?_, ?_, ?_, ?_, ?_, ?_, ?_, ?_, ?_, ?_, ?_, ?_, ?_, ?_, ?_, ?_, ?_, ?_, ?_, ?_, ?_, ?_, ?_⟩ <;> (try intro j) <;> (repeat' split) <;> first | (simp; done) | (simp [State.line, State.channel, State.meter, State.account, State.row, State.message, Management.load]; done) | rfl)

@[simp] theorem refuseCall_frame (l : Fin 32) (m : Fin 24) (s : State) :
    (refuseCall l m s).pending = s.pending ∧ (refuseCall l m s).inReset = s.inReset ∧ (refuseCall l m s).now = s.now ∧ (refuseCall l m s).key = s.key ∧ (refuseCall l m s).groups = s.groups ∧ (refuseCall l m s).messages = s.messages ∧ (refuseCall l m s).dir = s.dir ∧ (refuseCall l m s).accounts = s.accounts ∧ (refuseCall l m s).cal = s.cal ∧ (refuseCall l m s).meters = s.meters ∧ (refuseCall l m s).queue = s.queue ∧ (refuseCall l m s).channels = s.channels ∧ (refuseCall l m s).tickets = s.tickets ∧ (refuseCall l m s).watches = s.watches ∧ (refuseCall l m s).sample = s.sample ∧ (refuseCall l m s).trunk = s.trunk ∧ (refuseCall l m s).params = s.params ∧ (refuseCall l m s).mgt.load = s.mgt.load ∧ (∀ j, (refuseCall l m s).channel j = s.channel j) ∧ (∀ j, (refuseCall l m s).meter j = s.meter j) ∧ (∀ j, (refuseCall l m s).account j = s.account j) ∧ (∀ j, (refuseCall l m s).row j = s.row j) ∧ (∀ j, (refuseCall l m s).message j = s.message j) := by
  unfold refuseCall; (try dsimp only); (refine ⟨?_, ?_, ?_, ?_, ?_, ?_, ?_, ?_, ?_, ?_, ?_, ?_, ?_, ?_, ?_, ?_, ?_, ?_, ?_, ?_, ?_, ?_, ?_⟩ <;> (try intro j) <;> (repeat' split) <;> first | (simp; done) | (simp [State.line, State.channel, State.meter, State.account, State.row, State.message, Management.load]; done) | rfl)

@[simp] theorem leaveQueue_frame (l : Fin 32) (s : State) :
    (leaveQueue l s).pending = s.pending ∧ (leaveQueue l s).inReset = s.inReset ∧ (leaveQueue l s).now = s.now ∧ (leaveQueue l s).key = s.key ∧ (leaveQueue l s).groups = s.groups ∧ (leaveQueue l s).messages = s.messages ∧ (leaveQueue l s).lines = s.lines ∧ (leaveQueue l s).dir = s.dir ∧ (leaveQueue l s).accounts = s.accounts ∧ (leaveQueue l s).cal = s.cal ∧ (leaveQueue l s).meters = s.meters ∧ (leaveQueue l s).channels = s.channels ∧ (leaveQueue l s).tickets = s.tickets ∧ (leaveQueue l s).watches = s.watches ∧ (leaveQueue l s).sample = s.sample ∧ (leaveQueue l s).trunk = s.trunk ∧ (leaveQueue l s).mgt = s.mgt ∧ (leaveQueue l s).params = s.params ∧ (∀ j, (leaveQueue l s).line j = s.line j) ∧ (∀ j, (leaveQueue l s).channel j = s.channel j) ∧ (∀ j, (leaveQueue l s).meter j = s.meter j) ∧ (∀ j, (leaveQueue l s).account j = s.account j) ∧ (∀ j, (leaveQueue l s).row j = s.row j) ∧ (∀ j, (leaveQueue l s).message j = s.message j) := by
  unfold leaveQueue; (try dsimp only); (refine ⟨?_, ?_, ?_, ?_, ?_, ?_, ?_, ?_, ?_, ?_, ?_, ?_, ?_, ?_, ?_, ?_, ?_, ?_, ?_, ?_, ?_, ?_, ?_, ?_⟩ <;> (try intro j) <;> (repeat' split) <;> first | (simp; done) | (simp [State.line, State.channel, State.meter, State.account, State.row, State.message, Management.load]; done) | rfl)

@[simp] theorem removeWaiter_frame (l : Fin 32) (m : Option (Fin 24)) (drains : Bool) (s : State) :
    (removeWaiter l m drains s).pending = s.pending ∧ (removeWaiter l m drains s).inReset = s.inReset ∧ (removeWaiter l m drains s).now = s.now ∧ (removeWaiter l m drains s).key = s.key ∧ (removeWaiter l m drains s).groups = s.groups ∧ (removeWaiter l m drains s).messages = s.messages ∧ (removeWaiter l m drains s).dir = s.dir ∧ (removeWaiter l m drains s).cal = s.cal ∧ (removeWaiter l m drains s).meters = s.meters ∧ (removeWaiter l m drains s).channels = s.channels ∧ (removeWaiter l m drains s).tickets = s.tickets ∧ (removeWaiter l m drains s).watches = s.watches ∧ (removeWaiter l m drains s).sample = s.sample ∧ (removeWaiter l m drains s).trunk = s.trunk ∧ (removeWaiter l m drains s).params = s.params ∧ (removeWaiter l m drains s).mgt.load = s.mgt.load ∧ (∀ j, (removeWaiter l m drains s).channel j = s.channel j) ∧ (∀ j, (removeWaiter l m drains s).meter j = s.meter j) ∧ (∀ j, (removeWaiter l m drains s).row j = s.row j) ∧ (∀ j, (removeWaiter l m drains s).message j = s.message j) := by
  unfold removeWaiter; (try dsimp only); (refine ⟨?_, ?_, ?_, ?_, ?_, ?_, ?_, ?_, ?_, ?_, ?_, ?_, ?_, ?_, ?_, ?_, ?_, ?_, ?_, ?_⟩ <;> (try intro j) <;> (repeat' split) <;> first | (simp; done) | (simp [State.line, State.channel, State.meter, State.account, State.row, State.message, Management.load]; done) | rfl)

@[simp] theorem handControl_frame (c : Fin 24) (k : ControlKind) (s : State) :
    (handControl c k s).pending = s.pending ∧ (handControl c k s).inReset = s.inReset ∧ (handControl c k s).now = s.now ∧ (handControl c k s).key = s.key ∧ (handControl c k s).groups = s.groups ∧ (handControl c k s).messages = s.messages ∧ (handControl c k s).lines = s.lines ∧ (handControl c k s).dir = s.dir ∧ (handControl c k s).accounts = s.accounts ∧ (handControl c k s).cal = s.cal ∧ (handControl c k s).meters = s.meters ∧ (handControl c k s).queue = s.queue ∧ (handControl c k s).channels = s.channels ∧ (handControl c k s).tickets = s.tickets ∧ (handControl c k s).watches = s.watches ∧ (handControl c k s).sample = s.sample ∧ (handControl c k s).mgt = s.mgt ∧ (handControl c k s).params = s.params ∧ (handControl c k s).trunk.counter = s.trunk.counter ∧ (handControl c k s).trunk.nd = s.trunk.nd ∧ (handControl c k s).trunk.counters = s.trunk.counters ∧ (handControl c k s).trunk.up = s.trunk.up ∧ (∀ j, (handControl c k s).line j = s.line j) ∧ (∀ j, (handControl c k s).channel j = s.channel j) ∧ (∀ j, (handControl c k s).meter j = s.meter j) ∧ (∀ j, (handControl c k s).account j = s.account j) ∧ (∀ j, (handControl c k s).row j = s.row j) ∧ (∀ j, (handControl c k s).message j = s.message j) := by
  unfold handControl; (try dsimp only); (refine ⟨?_, ?_, ?_, ?_, ?_, ?_, ?_, ?_, ?_, ?_, ?_, ?_, ?_, ?_, ?_, ?_, ?_, ?_, ?_, ?_, ?_, ?_, ?_, ?_, ?_, ?_, ?_, ?_⟩ <;> (try intro j) <;> (repeat' split) <;> first | (simp; done) | (simp [State.line, State.channel, State.meter, State.account, State.row, State.message, Management.load]; done) | rfl)

@[simp] theorem dropSessionControls_frame (c : Fin 24) (s : State) :
    (dropSessionControls c s).pending = s.pending ∧ (dropSessionControls c s).inReset = s.inReset ∧ (dropSessionControls c s).now = s.now ∧ (dropSessionControls c s).key = s.key ∧ (dropSessionControls c s).groups = s.groups ∧ (dropSessionControls c s).messages = s.messages ∧ (dropSessionControls c s).lines = s.lines ∧ (dropSessionControls c s).dir = s.dir ∧ (dropSessionControls c s).accounts = s.accounts ∧ (dropSessionControls c s).cal = s.cal ∧ (dropSessionControls c s).meters = s.meters ∧ (dropSessionControls c s).queue = s.queue ∧ (dropSessionControls c s).channels = s.channels ∧ (dropSessionControls c s).tickets = s.tickets ∧ (dropSessionControls c s).watches = s.watches ∧ (dropSessionControls c s).sample = s.sample ∧ (dropSessionControls c s).mgt = s.mgt ∧ (dropSessionControls c s).params = s.params ∧ (dropSessionControls c s).trunk.counter = s.trunk.counter ∧ (dropSessionControls c s).trunk.nd = s.trunk.nd ∧ (dropSessionControls c s).trunk.counters = s.trunk.counters ∧ (dropSessionControls c s).trunk.up = s.trunk.up ∧ (∀ j, (dropSessionControls c s).line j = s.line j) ∧ (∀ j, (dropSessionControls c s).channel j = s.channel j) ∧ (∀ j, (dropSessionControls c s).meter j = s.meter j) ∧ (∀ j, (dropSessionControls c s).account j = s.account j) ∧ (∀ j, (dropSessionControls c s).row j = s.row j) ∧ (∀ j, (dropSessionControls c s).message j = s.message j) := by
  unfold dropSessionControls; (try dsimp only); (refine ⟨?_, ?_, ?_, ?_, ?_, ?_, ?_, ?_, ?_, ?_, ?_, ?_, ?_, ?_, ?_, ?_, ?_, ?_, ?_, ?_, ?_, ?_, ?_, ?_, ?_, ?_, ?_, ?_⟩ <;> (try intro j) <;> (repeat' split) <;> first | (simp; done) | (simp [State.line, State.channel, State.meter, State.account, State.row, State.message, Management.load]; done) | rfl)

@[simp] theorem setAnnounced_frame (c : Fin 24) (f : Flow) (s : State) :
    (setAnnounced c f s).pending = s.pending ∧ (setAnnounced c f s).inReset = s.inReset ∧ (setAnnounced c f s).now = s.now ∧ (setAnnounced c f s).key = s.key ∧ (setAnnounced c f s).groups = s.groups ∧ (setAnnounced c f s).messages = s.messages ∧ (setAnnounced c f s).lines = s.lines ∧ (setAnnounced c f s).dir = s.dir ∧ (setAnnounced c f s).accounts = s.accounts ∧ (setAnnounced c f s).cal = s.cal ∧ (setAnnounced c f s).meters = s.meters ∧ (setAnnounced c f s).queue = s.queue ∧ (setAnnounced c f s).channels = s.channels ∧ (setAnnounced c f s).tickets = s.tickets ∧ (setAnnounced c f s).watches = s.watches ∧ (setAnnounced c f s).sample = s.sample ∧ (setAnnounced c f s).mgt = s.mgt ∧ (setAnnounced c f s).params = s.params ∧ (setAnnounced c f s).trunk.counter = s.trunk.counter ∧ (setAnnounced c f s).trunk.nd = s.trunk.nd ∧ (setAnnounced c f s).trunk.controls = s.trunk.controls ∧ (setAnnounced c f s).trunk.counters = s.trunk.counters ∧ (setAnnounced c f s).trunk.up = s.trunk.up ∧ (∀ j, (setAnnounced c f s).line j = s.line j) ∧ (∀ j, (setAnnounced c f s).channel j = s.channel j) ∧ (∀ j, (setAnnounced c f s).meter j = s.meter j) ∧ (∀ j, (setAnnounced c f s).account j = s.account j) ∧ (∀ j, (setAnnounced c f s).row j = s.row j) ∧ (∀ j, (setAnnounced c f s).message j = s.message j) := by
  unfold setAnnounced; (try dsimp only); (refine ⟨?_, ?_, ?_, ?_, ?_, ?_, ?_, ?_, ?_, ?_, ?_, ?_, ?_, ?_, ?_, ?_, ?_, ?_, ?_, ?_, ?_, ?_, ?_, ?_, ?_, ?_, ?_, ?_, ?_⟩ <;> (try intro j) <;> (repeat' split) <;> first | (simp; done) | (simp [State.line, State.channel, State.meter, State.account, State.row, State.message, Management.load]; done) | rfl)

@[simp] theorem freeRow_frame (r : Fin 64) (c : Fin 24) (s : State) :
    (freeRow r c s).pending = s.pending ∧ (freeRow r c s).inReset = s.inReset ∧ (freeRow r c s).now = s.now ∧ (freeRow r c s).key = s.key ∧ (freeRow r c s).groups = s.groups ∧ (freeRow r c s).messages = s.messages ∧ (freeRow r c s).lines = s.lines ∧ (freeRow r c s).dir = s.dir ∧ (freeRow r c s).accounts = s.accounts ∧ (freeRow r c s).cal = s.cal ∧ (freeRow r c s).meters = s.meters ∧ (freeRow r c s).queue = s.queue ∧ (freeRow r c s).channels = s.channels ∧ (freeRow r c s).watches = s.watches ∧ (freeRow r c s).sample = s.sample ∧ (freeRow r c s).trunk = s.trunk ∧ (freeRow r c s).mgt = s.mgt ∧ (freeRow r c s).params = s.params ∧ (∀ j, (freeRow r c s).line j = s.line j) ∧ (∀ j, (freeRow r c s).channel j = s.channel j) ∧ (∀ j, (freeRow r c s).meter j = s.meter j) ∧ (∀ j, (freeRow r c s).account j = s.account j) ∧ (∀ j, (freeRow r c s).message j = s.message j) := by
  unfold freeRow; (try dsimp only); (refine ⟨?_, ?_, ?_, ?_, ?_, ?_, ?_, ?_, ?_, ?_, ?_, ?_, ?_, ?_, ?_, ?_, ?_, ?_, ?_, ?_, ?_, ?_, ?_⟩ <;> (try intro j) <;> (repeat' split) <;> first | (simp; done) | (simp [State.line, State.channel, State.meter, State.account, State.row, State.message, Management.load]; done) | rfl)

@[simp] theorem protocolError_frame (s : State) :
    (protocolError s).pending = s.pending ∧ (protocolError s).inReset = s.inReset ∧ (protocolError s).now = s.now ∧ (protocolError s).key = s.key ∧ (protocolError s).groups = s.groups ∧ (protocolError s).messages = s.messages ∧ (protocolError s).lines = s.lines ∧ (protocolError s).dir = s.dir ∧ (protocolError s).accounts = s.accounts ∧ (protocolError s).cal = s.cal ∧ (protocolError s).meters = s.meters ∧ (protocolError s).queue = s.queue ∧ (protocolError s).channels = s.channels ∧ (protocolError s).tickets = s.tickets ∧ (protocolError s).watches = s.watches ∧ (protocolError s).sample = s.sample ∧ (protocolError s).params = s.params ∧ (protocolError s).mgt.load = s.mgt.load ∧ (protocolError s).trunk.counter = s.trunk.counter ∧ (protocolError s).trunk.nd = s.trunk.nd ∧ (protocolError s).trunk.controls = s.trunk.controls ∧ (protocolError s).trunk.up = s.trunk.up ∧ (∀ j, (protocolError s).line j = s.line j) ∧ (∀ j, (protocolError s).channel j = s.channel j) ∧ (∀ j, (protocolError s).meter j = s.meter j) ∧ (∀ j, (protocolError s).account j = s.account j) ∧ (∀ j, (protocolError s).row j = s.row j) ∧ (∀ j, (protocolError s).message j = s.message j) := by
  unfold protocolError; (try dsimp only); (refine ⟨?_, ?_, ?_, ?_, ?_, ?_, ?_, ?_, ?_, ?_, ?_, ?_, ?_, ?_, ?_, ?_, ?_, ?_, ?_, ?_, ?_, ?_, ?_, ?_, ?_, ?_, ?_, ?_⟩ <;> (try intro j) <;> (repeat' split) <;> first | (simp; done) | (simp [State.line, State.channel, State.meter, State.account, State.row, State.message, Management.load]; done) | rfl)

@[simp] theorem queueReply_frame (tag code : Byte) (r : Result) (data : List Byte) (s : State) :
    (queueReply tag code r data s).pending = s.pending ∧ (queueReply tag code r data s).inReset = s.inReset ∧ (queueReply tag code r data s).now = s.now ∧ (queueReply tag code r data s).key = s.key ∧ (queueReply tag code r data s).groups = s.groups ∧ (queueReply tag code r data s).messages = s.messages ∧ (queueReply tag code r data s).lines = s.lines ∧ (queueReply tag code r data s).dir = s.dir ∧ (queueReply tag code r data s).accounts = s.accounts ∧ (queueReply tag code r data s).cal = s.cal ∧ (queueReply tag code r data s).meters = s.meters ∧ (queueReply tag code r data s).queue = s.queue ∧ (queueReply tag code r data s).channels = s.channels ∧ (queueReply tag code r data s).tickets = s.tickets ∧ (queueReply tag code r data s).watches = s.watches ∧ (queueReply tag code r data s).sample = s.sample ∧ (queueReply tag code r data s).trunk = s.trunk ∧ (queueReply tag code r data s).params = s.params ∧ (∀ j, (queueReply tag code r data s).line j = s.line j) ∧ (∀ j, (queueReply tag code r data s).channel j = s.channel j) ∧ (∀ j, (queueReply tag code r data s).meter j = s.meter j) ∧ (∀ j, (queueReply tag code r data s).account j = s.account j) ∧ (∀ j, (queueReply tag code r data s).row j = s.row j) ∧ (∀ j, (queueReply tag code r data s).message j = s.message j) := by
  unfold queueReply; (try dsimp only); (refine ⟨?_, ?_, ?_, ?_, ?_, ?_, ?_, ?_, ?_, ?_, ?_, ?_, ?_, ?_, ?_, ?_, ?_, ?_, ?_, ?_, ?_, ?_, ?_, ?_⟩ <;> (try intro j) <;> (repeat' split) <;> first | (simp; done) | (simp [State.line, State.channel, State.meter, State.account, State.row, State.message, Management.load]; done) | rfl)

@[simp] theorem finishWrite_frame (data : List Byte) (s : State) :
    (finishWrite data s).pending = s.pending ∧ (finishWrite data s).inReset = s.inReset ∧ (finishWrite data s).now = s.now ∧ (finishWrite data s).key = s.key ∧ (finishWrite data s).groups = s.groups ∧ (finishWrite data s).messages = s.messages ∧ (finishWrite data s).lines = s.lines ∧ (finishWrite data s).dir = s.dir ∧ (finishWrite data s).accounts = s.accounts ∧ (finishWrite data s).cal = s.cal ∧ (finishWrite data s).meters = s.meters ∧ (finishWrite data s).queue = s.queue ∧ (finishWrite data s).channels = s.channels ∧ (finishWrite data s).tickets = s.tickets ∧ (finishWrite data s).watches = s.watches ∧ (finishWrite data s).sample = s.sample ∧ (finishWrite data s).trunk = s.trunk ∧ (finishWrite data s).params = s.params ∧ (∀ j, (finishWrite data s).line j = s.line j) ∧ (∀ j, (finishWrite data s).channel j = s.channel j) ∧ (∀ j, (finishWrite data s).meter j = s.meter j) ∧ (∀ j, (finishWrite data s).account j = s.account j) ∧ (∀ j, (finishWrite data s).row j = s.row j) ∧ (∀ j, (finishWrite data s).message j = s.message j) := by
  unfold finishWrite; (try dsimp only); (refine ⟨?_, ?_, ?_, ?_, ?_, ?_, ?_, ?_, ?_, ?_, ?_, ?_, ?_, ?_, ?_, ?_, ?_, ?_, ?_, ?_, ?_, ?_, ?_, ?_⟩ <;> (try intro j) <;> (repeat' split) <;> first | (simp; done) | (simp [State.line, State.channel, State.meter, State.account, State.row, State.message, Management.load]; done) | rfl)

end Sys2Proof.Machine
end

