-- ==== Sys2Proof/Laws/MeteringFrames.lean ====
section
/-! SUPPORT. The frame of every shared operation of Metering.lean. -/

set_option linter.all false

namespace Sys2Proof.Machine

open Sys2Proof

@[simp] theorem warnLines_frame (a : Fin 256) (v : Int) (s : State) :
    (warnLines a v s).pending = s.pending ∧ (warnLines a v s).inReset = s.inReset ∧ (warnLines a v s).now = s.now ∧ (warnLines a v s).key = s.key ∧ (warnLines a v s).groups = s.groups ∧ (warnLines a v s).messages = s.messages ∧ (warnLines a v s).dir = s.dir ∧ (warnLines a v s).accounts = s.accounts ∧ (warnLines a v s).cal = s.cal ∧ (warnLines a v s).meters = s.meters ∧ (warnLines a v s).queue = s.queue ∧ (warnLines a v s).channels = s.channels ∧ (warnLines a v s).tickets = s.tickets ∧ (warnLines a v s).watches = s.watches ∧ (warnLines a v s).sample = s.sample ∧ (warnLines a v s).trunk = s.trunk ∧ (warnLines a v s).mgt = s.mgt ∧ (warnLines a v s).params = s.params ∧ (∀ j, (warnLines a v s).channel j = s.channel j) ∧ (∀ j, (warnLines a v s).meter j = s.meter j) ∧ (∀ j, (warnLines a v s).account j = s.account j) ∧ (∀ j, (warnLines a v s).row j = s.row j) ∧ (∀ j, (warnLines a v s).message j = s.message j) := by
  unfold warnLines
  exact ⟨foldl_keeps State.pending _ (fun _ _ => by first | (simp; done) | ((repeat' split) <;> first | (simp; done))) _ _,
    foldl_keeps State.inReset _ (fun _ _ => by first | (simp; done) | ((repeat' split) <;> first | (simp; done))) _ _,
    foldl_keeps State.now _ (fun _ _ => by first | (simp; done) | ((repeat' split) <;> first | (simp; done))) _ _,
    foldl_keeps State.key _ (fun _ _ => by first | (simp; done) | ((repeat' split) <;> first | (simp; done))) _ _,
    foldl_keeps State.groups _ (fun _ _ => by first | (simp; done) | ((repeat' split) <;> first | (simp; done))) _ _,
    foldl_keeps State.messages _ (fun _ _ => by first | (simp; done) | ((repeat' split) <;> first | (simp; done))) _ _,
    foldl_keeps State.dir _ (fun _ _ => by first | (simp; done) | ((repeat' split) <;> first | (simp; done))) _ _,
    foldl_keeps State.accounts _ (fun _ _ => by first | (simp; done) | ((repeat' split) <;> first | (simp; done))) _ _,
    foldl_keeps State.cal _ (fun _ _ => by first | (simp; done) | ((repeat' split) <;> first | (simp; done))) _ _,
    foldl_keeps State.meters _ (fun _ _ => by first | (simp; done) | ((repeat' split) <;> first | (simp; done))) _ _,
    foldl_keeps State.queue _ (fun _ _ => by first | (simp; done) | ((repeat' split) <;> first | (simp; done))) _ _,
    foldl_keeps State.channels _ (fun _ _ => by first | (simp; done) | ((repeat' split) <;> first | (simp; done))) _ _,
    foldl_keeps State.tickets _ (fun _ _ => by first | (simp; done) | ((repeat' split) <;> first | (simp; done))) _ _,
    foldl_keeps State.watches _ (fun _ _ => by first | (simp; done) | ((repeat' split) <;> first | (simp; done))) _ _,
    foldl_keeps State.sample _ (fun _ _ => by first | (simp; done) | ((repeat' split) <;> first | (simp; done))) _ _,
    foldl_keeps State.trunk _ (fun _ _ => by first | (simp; done) | ((repeat' split) <;> first | (simp; done))) _ _,
    foldl_keeps State.mgt _ (fun _ _ => by first | (simp; done) | ((repeat' split) <;> first | (simp; done))) _ _,
    foldl_keeps State.params _ (fun _ _ => by first | (simp; done) | ((repeat' split) <;> first | (simp; done))) _ _,
    fun j => foldl_keeps (fun s : State => State.channel s j) _ (fun _ _ => by first | (simp; done) | ((repeat' split) <;> first | (simp; done))) _ _,
    fun j => foldl_keeps (fun s : State => State.meter s j) _ (fun _ _ => by first | (simp; done) | ((repeat' split) <;> first | (simp; done))) _ _,
    fun j => foldl_keeps (fun s : State => State.account s j) _ (fun _ _ => by first | (simp; done) | ((repeat' split) <;> first | (simp; done))) _ _,
    fun j => foldl_keeps (fun s : State => State.row s j) _ (fun _ _ => by first | (simp; done) | ((repeat' split) <;> first | (simp; done))) _ _,
    fun j => foldl_keeps (fun s : State => State.message s j) _ (fun _ _ => by first | (simp; done) | ((repeat' split) <;> first | (simp; done))) _ _⟩

@[simp] theorem checkWarning_frame (a : Fin 256) (s : State) :
    (checkWarning a s).pending = s.pending ∧ (checkWarning a s).inReset = s.inReset ∧ (checkWarning a s).now = s.now ∧ (checkWarning a s).key = s.key ∧ (checkWarning a s).groups = s.groups ∧ (checkWarning a s).messages = s.messages ∧ (checkWarning a s).dir = s.dir ∧ (checkWarning a s).cal = s.cal ∧ (checkWarning a s).meters = s.meters ∧ (checkWarning a s).queue = s.queue ∧ (checkWarning a s).channels = s.channels ∧ (checkWarning a s).tickets = s.tickets ∧ (checkWarning a s).watches = s.watches ∧ (checkWarning a s).sample = s.sample ∧ (checkWarning a s).trunk = s.trunk ∧ (checkWarning a s).mgt = s.mgt ∧ (checkWarning a s).params = s.params ∧ (∀ j, (checkWarning a s).channel j = s.channel j) ∧ (∀ j, (checkWarning a s).meter j = s.meter j) ∧ (∀ j, (checkWarning a s).row j = s.row j) ∧ (∀ j, (checkWarning a s).message j = s.message j) := by
  unfold checkWarning; (try dsimp only); (refine ⟨?_, ?_, ?_, ?_, ?_, ?_, ?_, ?_, ?_, ?_, ?_, ?_, ?_, ?_, ?_, ?_, ?_, ?_, ?_, ?_, ?_⟩ <;> (try intro j) <;> (repeat' split) <;> first | (simp; done) | (simp [State.line, State.channel, State.meter, State.account, State.row, State.message, Management.load]; done) | rfl)

@[simp] theorem debitAccount_frame (a : Fin 256) (n : Nat) (s : State) :
    (debitAccount a n s).1.pending = s.pending ∧ (debitAccount a n s).1.inReset = s.inReset ∧ (debitAccount a n s).1.now = s.now ∧ (debitAccount a n s).1.key = s.key ∧ (debitAccount a n s).1.groups = s.groups ∧ (debitAccount a n s).1.messages = s.messages ∧ (debitAccount a n s).1.dir = s.dir ∧ (debitAccount a n s).1.cal = s.cal ∧ (debitAccount a n s).1.meters = s.meters ∧ (debitAccount a n s).1.queue = s.queue ∧ (debitAccount a n s).1.channels = s.channels ∧ (debitAccount a n s).1.tickets = s.tickets ∧ (debitAccount a n s).1.watches = s.watches ∧ (debitAccount a n s).1.sample = s.sample ∧ (debitAccount a n s).1.trunk = s.trunk ∧ (debitAccount a n s).1.mgt = s.mgt ∧ (debitAccount a n s).1.params = s.params ∧ (∀ j, (debitAccount a n s).1.channel j = s.channel j) ∧ (∀ j, (debitAccount a n s).1.meter j = s.meter j) ∧ (∀ j, (debitAccount a n s).1.row j = s.row j) ∧ (∀ j, (debitAccount a n s).1.message j = s.message j) := by
  unfold debitAccount; (try dsimp only); (refine ⟨?_, ?_, ?_, ?_, ?_, ?_, ?_, ?_, ?_, ?_, ?_, ?_, ?_, ?_, ?_, ?_, ?_, ?_, ?_, ?_, ?_⟩ <;> (try intro j) <;> (repeat' split) <;> first | (simp; done) | (simp [State.line, State.channel, State.meter, State.account, State.row, State.message, Management.load]; done) | rfl)

@[simp] theorem chargeUnits_frame (c : Fin 24) (n : Nat) (s : State) :
    (chargeUnits c n s).1.pending = s.pending ∧ (chargeUnits c n s).1.inReset = s.inReset ∧ (chargeUnits c n s).1.now = s.now ∧ (chargeUnits c n s).1.key = s.key ∧ (chargeUnits c n s).1.groups = s.groups ∧ (chargeUnits c n s).1.messages = s.messages ∧ (chargeUnits c n s).1.dir = s.dir ∧ (chargeUnits c n s).1.cal = s.cal ∧ (chargeUnits c n s).1.queue = s.queue ∧ (chargeUnits c n s).1.channels = s.channels ∧ (chargeUnits c n s).1.tickets = s.tickets ∧ (chargeUnits c n s).1.watches = s.watches ∧ (chargeUnits c n s).1.sample = s.sample ∧ (chargeUnits c n s).1.trunk = s.trunk ∧ (chargeUnits c n s).1.mgt = s.mgt ∧ (chargeUnits c n s).1.params = s.params ∧ (∀ j, (chargeUnits c n s).1.channel j = s.channel j) ∧ (∀ j, (chargeUnits c n s).1.row j = s.row j) ∧ (∀ j, (chargeUnits c n s).1.message j = s.message j) := by
  unfold chargeUnits; (try dsimp only); (refine ⟨?_, ?_, ?_, ?_, ?_, ?_, ?_, ?_, ?_, ?_, ?_, ?_, ?_, ?_, ?_, ?_, ?_, ?_, ?_⟩ <;> (try intro j) <;> (repeat' split) <;> first | (simp; done) | (simp [State.line, State.channel, State.meter, State.account, State.row, State.message, Management.load]; done) | rfl)

@[simp] theorem closeTicket_frame (c : Fin 24) (m : Meter) (exhausted : Bool) (why : CloseReason) (s : State) :
    (closeTicket c m exhausted why s).pending = s.pending ∧ (closeTicket c m exhausted why s).inReset = s.inReset ∧ (closeTicket c m exhausted why s).now = s.now ∧ (closeTicket c m exhausted why s).key = s.key ∧ (closeTicket c m exhausted why s).groups = s.groups ∧ (closeTicket c m exhausted why s).messages = s.messages ∧ (closeTicket c m exhausted why s).lines = s.lines ∧ (closeTicket c m exhausted why s).dir = s.dir ∧ (closeTicket c m exhausted why s).accounts = s.accounts ∧ (closeTicket c m exhausted why s).cal = s.cal ∧ (closeTicket c m exhausted why s).meters = s.meters ∧ (closeTicket c m exhausted why s).queue = s.queue ∧ (closeTicket c m exhausted why s).channels = s.channels ∧ (closeTicket c m exhausted why s).watches = s.watches ∧ (closeTicket c m exhausted why s).sample = s.sample ∧ (closeTicket c m exhausted why s).trunk = s.trunk ∧ (closeTicket c m exhausted why s).mgt = s.mgt ∧ (closeTicket c m exhausted why s).params = s.params ∧ (∀ j, (closeTicket c m exhausted why s).line j = s.line j) ∧ (∀ j, (closeTicket c m exhausted why s).channel j = s.channel j) ∧ (∀ j, (closeTicket c m exhausted why s).meter j = s.meter j) ∧ (∀ j, (closeTicket c m exhausted why s).account j = s.account j) ∧ (∀ j, (closeTicket c m exhausted why s).message j = s.message j) := by
  unfold closeTicket; (try dsimp only); (refine ⟨?_, ?_, ?_, ?_, ?_, ?_, ?_, ?_, ?_, ?_, ?_, ?_, ?_, ?_, ?_, ?_, ?_, ?_, ?_, ?_, ?_, ?_, ?_⟩ <;> (try intro j) <;> (repeat' split) <;> first | (simp; done) | (simp [State.line, State.channel, State.meter, State.account, State.row, State.message, Management.load]; done) | rfl)

@[simp] theorem leaveConnected_frame (c : Fin 24) (why : CloseReason) (s : State) :
    (leaveConnected c why s).pending = s.pending ∧ (leaveConnected c why s).inReset = s.inReset ∧ (leaveConnected c why s).now = s.now ∧ (leaveConnected c why s).key = s.key ∧ (leaveConnected c why s).groups = s.groups ∧ (leaveConnected c why s).messages = s.messages ∧ (leaveConnected c why s).lines = s.lines ∧ (leaveConnected c why s).dir = s.dir ∧ (leaveConnected c why s).accounts = s.accounts ∧ (leaveConnected c why s).cal = s.cal ∧ (leaveConnected c why s).meters = s.meters ∧ (leaveConnected c why s).queue = s.queue ∧ (leaveConnected c why s).tickets = s.tickets ∧ (leaveConnected c why s).watches = s.watches ∧ (leaveConnected c why s).sample = s.sample ∧ (leaveConnected c why s).mgt = s.mgt ∧ (leaveConnected c why s).params = s.params ∧ (leaveConnected c why s).trunk.counter = s.trunk.counter ∧ (leaveConnected c why s).trunk.nd = s.trunk.nd ∧ (leaveConnected c why s).trunk.counters = s.trunk.counters ∧ (leaveConnected c why s).trunk.up = s.trunk.up ∧ (∀ j, (leaveConnected c why s).line j = s.line j) ∧ (∀ j, (leaveConnected c why s).meter j = s.meter j) ∧ (∀ j, (leaveConnected c why s).account j = s.account j) ∧ (∀ j, (leaveConnected c why s).row j = s.row j) ∧ (∀ j, (leaveConnected c why s).message j = s.message j) := by
  unfold leaveConnected; (try dsimp only); (refine ⟨?_, ?_, ?_, ?_, ?_, ?_, ?_, ?_, ?_, ?_, ?_, ?_, ?_, ?_, ?_, ?_, ?_, ?_, ?_, ?_, ?_, ?_, ?_, ?_, ?_, ?_⟩ <;> (try intro j) <;> (repeat' split) <;> first | (simp; done) | (simp [State.line, State.channel, State.meter, State.account, State.row, State.message, Management.load]; done) | rfl)

@[simp] theorem channelClosed_frame (c : Fin 24) (why : CloseReason) (s : State) :
    (channelClosed c why s).pending = s.pending ∧ (channelClosed c why s).inReset = s.inReset ∧ (channelClosed c why s).now = s.now ∧ (channelClosed c why s).key = s.key ∧ (channelClosed c why s).groups = s.groups ∧ (channelClosed c why s).messages = s.messages ∧ (channelClosed c why s).lines = s.lines ∧ (channelClosed c why s).dir = s.dir ∧ (channelClosed c why s).accounts = s.accounts ∧ (channelClosed c why s).cal = s.cal ∧ (channelClosed c why s).meters = s.meters ∧ (channelClosed c why s).queue = s.queue ∧ (channelClosed c why s).tickets = s.tickets ∧ (channelClosed c why s).watches = s.watches ∧ (channelClosed c why s).sample = s.sample ∧ (channelClosed c why s).mgt = s.mgt ∧ (channelClosed c why s).params = s.params ∧ (channelClosed c why s).trunk.counter = s.trunk.counter ∧ (channelClosed c why s).trunk.nd = s.trunk.nd ∧ (channelClosed c why s).trunk.counters = s.trunk.counters ∧ (channelClosed c why s).trunk.up = s.trunk.up ∧ (∀ j, (channelClosed c why s).line j = s.line j) ∧ (∀ j, (channelClosed c why s).meter j = s.meter j) ∧ (∀ j, (channelClosed c why s).account j = s.account j) ∧ (∀ j, (channelClosed c why s).row j = s.row j) ∧ (∀ j, (channelClosed c why s).message j = s.message j) := by
  unfold channelClosed; (try dsimp only); (refine ⟨?_, ?_, ?_, ?_, ?_, ?_, ?_, ?_, ?_, ?_, ?_, ?_, ?_, ?_, ?_, ?_, ?_, ?_, ?_, ?_, ?_, ?_, ?_, ?_, ?_, ?_⟩ <;> (try intro j) <;> (repeat' split) <;> first | (simp; done) | (simp [State.line, State.channel, State.meter, State.account, State.row, State.message, Management.load]; done) | rfl)

@[simp] theorem roundOff_frame (c : Fin 24) (m : Meter) (s : State) :
    (roundOff c m s).pending = s.pending ∧ (roundOff c m s).inReset = s.inReset ∧ (roundOff c m s).now = s.now ∧ (roundOff c m s).key = s.key ∧ (roundOff c m s).groups = s.groups ∧ (roundOff c m s).messages = s.messages ∧ (roundOff c m s).dir = s.dir ∧ (roundOff c m s).cal = s.cal ∧ (roundOff c m s).queue = s.queue ∧ (roundOff c m s).channels = s.channels ∧ (roundOff c m s).tickets = s.tickets ∧ (roundOff c m s).watches = s.watches ∧ (roundOff c m s).sample = s.sample ∧ (roundOff c m s).trunk = s.trunk ∧ (roundOff c m s).mgt = s.mgt ∧ (roundOff c m s).params = s.params ∧ (∀ j, (roundOff c m s).channel j = s.channel j) ∧ (∀ j, (roundOff c m s).row j = s.row j) ∧ (∀ j, (roundOff c m s).message j = s.message j) := by
  unfold roundOff; (try dsimp only); (refine ⟨?_, ?_, ?_, ?_, ?_, ?_, ?_, ?_, ?_, ?_, ?_, ?_, ?_, ?_, ?_, ?_, ?_, ?_, ?_⟩ <;> (try intro j) <;> (repeat' split) <;> first | (simp; done) | (simp [State.line, State.channel, State.meter, State.account, State.row, State.message, Management.load]; done) | rfl)

@[simp] theorem closeSession_frame (c : Fin 24) (why : CloseReason) (s : State) :
    (closeSession c why s).pending = s.pending ∧ (closeSession c why s).inReset = s.inReset ∧ (closeSession c why s).now = s.now ∧ (closeSession c why s).key = s.key ∧ (closeSession c why s).groups = s.groups ∧ (closeSession c why s).messages = s.messages ∧ (closeSession c why s).dir = s.dir ∧ (closeSession c why s).cal = s.cal ∧ (closeSession c why s).queue = s.queue ∧ (closeSession c why s).watches = s.watches ∧ (closeSession c why s).sample = s.sample ∧ (closeSession c why s).params = s.params ∧ (closeSession c why s).mgt.load = s.mgt.load ∧ (closeSession c why s).trunk.counter = s.trunk.counter ∧ (closeSession c why s).trunk.nd = s.trunk.nd ∧ (closeSession c why s).trunk.counters = s.trunk.counters ∧ (closeSession c why s).trunk.up = s.trunk.up ∧ (∀ j, (closeSession c why s).message j = s.message j) := by
  unfold closeSession; (try dsimp only); (refine ⟨?_, ?_, ?_, ?_, ?_, ?_, ?_, ?_, ?_, ?_, ?_, ?_, ?_, ?_, ?_, ?_, ?_, ?_⟩ <;> (try intro j) <;> (repeat' split) <;> first | (simp; done) | (simp [State.line, State.channel, State.meter, State.account, State.row, State.message, Management.load]; done) | rfl)

@[simp] theorem closeRequest_frame (c : Fin 24) (l : Fin 32) (why : CloseReason) (s : State) :
    (closeRequest c l why s).pending = s.pending ∧ (closeRequest c l why s).inReset = s.inReset ∧ (closeRequest c l why s).now = s.now ∧ (closeRequest c l why s).key = s.key ∧ (closeRequest c l why s).groups = s.groups ∧ (closeRequest c l why s).messages = s.messages ∧ (closeRequest c l why s).dir = s.dir ∧ (closeRequest c l why s).cal = s.cal ∧ (closeRequest c l why s).queue = s.queue ∧ (closeRequest c l why s).watches = s.watches ∧ (closeRequest c l why s).sample = s.sample ∧ (closeRequest c l why s).params = s.params ∧ (closeRequest c l why s).mgt.load = s.mgt.load ∧ (closeRequest c l why s).trunk.counter = s.trunk.counter ∧ (closeRequest c l why s).trunk.nd = s.trunk.nd ∧ (closeRequest c l why s).trunk.counters = s.trunk.counters ∧ (closeRequest c l why s).trunk.up = s.trunk.up ∧ (∀ j, (closeRequest c l why s).message j = s.message j) := by
  unfold closeRequest; (try dsimp only); (refine ⟨?_, ?_, ?_, ?_, ?_, ?_, ?_, ?_, ?_, ?_, ?_, ?_, ?_, ?_, ?_, ?_, ?_, ?_⟩ <;> (try intro j) <;> (repeat' split) <;> first | (simp; done) | (simp [State.line, State.channel, State.meter, State.account, State.row, State.message, Management.load]; done) | rfl)

@[simp] theorem becomeExhausted_frame (c : Fin 24) (m : Meter) (s : State) :
    (becomeExhausted c m s).pending = s.pending ∧ (becomeExhausted c m s).inReset = s.inReset ∧ (becomeExhausted c m s).now = s.now ∧ (becomeExhausted c m s).key = s.key ∧ (becomeExhausted c m s).groups = s.groups ∧ (becomeExhausted c m s).messages = s.messages ∧ (becomeExhausted c m s).dir = s.dir ∧ (becomeExhausted c m s).cal = s.cal ∧ (becomeExhausted c m s).queue = s.queue ∧ (becomeExhausted c m s).watches = s.watches ∧ (becomeExhausted c m s).sample = s.sample ∧ (becomeExhausted c m s).params = s.params ∧ (becomeExhausted c m s).mgt.load = s.mgt.load ∧ (becomeExhausted c m s).trunk.counter = s.trunk.counter ∧ (becomeExhausted c m s).trunk.nd = s.trunk.nd ∧ (becomeExhausted c m s).trunk.counters = s.trunk.counters ∧ (becomeExhausted c m s).trunk.up = s.trunk.up ∧ (∀ j, (becomeExhausted c m s).message j = s.message j) := by
  unfold becomeExhausted; (try dsimp only); (refine ⟨?_, ?_, ?_, ?_, ?_, ?_, ?_, ?_, ?_, ?_, ?_, ?_, ?_, ?_, ?_, ?_, ?_, ?_⟩ <;> (try intro j) <;> (repeat' split) <;> first | (simp; done) | (simp [State.line, State.channel, State.meter, State.account, State.row, State.message, Management.load]; done) | rfl)

@[simp] theorem chargeSession_frame (c : Fin 24) (n : Nat) (s : State) :
    (chargeSession c n s).pending = s.pending ∧ (chargeSession c n s).inReset = s.inReset ∧ (chargeSession c n s).now = s.now ∧ (chargeSession c n s).key = s.key ∧ (chargeSession c n s).groups = s.groups ∧ (chargeSession c n s).messages = s.messages ∧ (chargeSession c n s).dir = s.dir ∧ (chargeSession c n s).cal = s.cal ∧ (chargeSession c n s).queue = s.queue ∧ (chargeSession c n s).watches = s.watches ∧ (chargeSession c n s).sample = s.sample ∧ (chargeSession c n s).params = s.params ∧ (chargeSession c n s).mgt.load = s.mgt.load ∧ (chargeSession c n s).trunk.counter = s.trunk.counter ∧ (chargeSession c n s).trunk.nd = s.trunk.nd ∧ (chargeSession c n s).trunk.counters = s.trunk.counters ∧ (chargeSession c n s).trunk.up = s.trunk.up ∧ (∀ j, (chargeSession c n s).message j = s.message j) := by
  unfold chargeSession; (try dsimp only); (refine ⟨?_, ?_, ?_, ?_, ?_, ?_, ?_, ?_, ?_, ?_, ?_, ?_, ?_, ?_, ?_, ?_, ?_, ?_⟩ <;> (try intro j) <;> (repeat' split) <;> first | (simp; done) | (simp [State.line, State.channel, State.meter, State.account, State.row, State.message, Management.load]; done) | rfl)

@[simp] theorem startExpel_frame (c : Fin 24) (m : Meter) (s : State) :
    (startExpel c m s).pending = s.pending ∧ (startExpel c m s).inReset = s.inReset ∧ (startExpel c m s).now = s.now ∧ (startExpel c m s).key = s.key ∧ (startExpel c m s).groups = s.groups ∧ (startExpel c m s).messages = s.messages ∧ (startExpel c m s).dir = s.dir ∧ (startExpel c m s).accounts = s.accounts ∧ (startExpel c m s).cal = s.cal ∧ (startExpel c m s).queue = s.queue ∧ (startExpel c m s).channels = s.channels ∧ (startExpel c m s).tickets = s.tickets ∧ (startExpel c m s).watches = s.watches ∧ (startExpel c m s).sample = s.sample ∧ (startExpel c m s).trunk = s.trunk ∧ (startExpel c m s).mgt = s.mgt ∧ (startExpel c m s).params = s.params ∧ (∀ j, (startExpel c m s).channel j = s.channel j) ∧ (∀ j, (startExpel c m s).account j = s.account j) ∧ (∀ j, (startExpel c m s).row j = s.row j) ∧ (∀ j, (startExpel c m s).message j = s.message j) := by
  unfold startExpel; (try dsimp only); (refine ⟨?_, ?_, ?_, ?_, ?_, ?_, ?_, ?_, ?_, ?_, ?_, ?_, ?_, ?_, ?_, ?_, ?_, ?_, ?_, ?_, ?_⟩ <;> (try intro j) <;> (repeat' split) <;> first | (simp; done) | (simp [State.line, State.channel, State.meter, State.account, State.row, State.message, Management.load]; done) | rfl)

@[simp] theorem checkLimits_frame (c : Fin 24) (s : State) :
    (checkLimits c s).pending = s.pending ∧ (checkLimits c s).inReset = s.inReset ∧ (checkLimits c s).now = s.now ∧ (checkLimits c s).key = s.key ∧ (checkLimits c s).groups = s.groups ∧ (checkLimits c s).messages = s.messages ∧ (checkLimits c s).dir = s.dir ∧ (checkLimits c s).cal = s.cal ∧ (checkLimits c s).queue = s.queue ∧ (checkLimits c s).watches = s.watches ∧ (checkLimits c s).sample = s.sample ∧ (checkLimits c s).params = s.params ∧ (checkLimits c s).mgt.load = s.mgt.load ∧ (checkLimits c s).trunk.counter = s.trunk.counter ∧ (checkLimits c s).trunk.nd = s.trunk.nd ∧ (checkLimits c s).trunk.counters = s.trunk.counters ∧ (checkLimits c s).trunk.up = s.trunk.up ∧ (∀ j, (checkLimits c s).message j = s.message j) := by
  unfold checkLimits; (try dsimp only); (refine ⟨?_, ?_, ?_, ?_, ?_, ?_, ?_, ?_, ?_, ?_, ?_, ?_, ?_, ?_, ?_, ?_, ?_, ?_⟩ <;> (try intro j) <;> (repeat' split) <;> first | (simp; done) | (simp [State.line, State.channel, State.meter, State.account, State.row, State.message, Management.load]; done) | rfl)

@[simp] theorem meterBoundary_frame (p q : Fin 8) (c : Fin 24) (s : State) :
    (meterBoundary p q c s).pending = s.pending ∧ (meterBoundary p q c s).inReset = s.inReset ∧ (meterBoundary p q c s).now = s.now ∧ (meterBoundary p q c s).key = s.key ∧ (meterBoundary p q c s).groups = s.groups ∧ (meterBoundary p q c s).messages = s.messages ∧ (meterBoundary p q c s).dir = s.dir ∧ (meterBoundary p q c s).cal = s.cal ∧ (meterBoundary p q c s).queue = s.queue ∧ (meterBoundary p q c s).watches = s.watches ∧ (meterBoundary p q c s).sample = s.sample ∧ (meterBoundary p q c s).params = s.params ∧ (meterBoundary p q c s).mgt.load = s.mgt.load ∧ (meterBoundary p q c s).trunk.counter = s.trunk.counter ∧ (meterBoundary p q c s).trunk.nd = s.trunk.nd ∧ (meterBoundary p q c s).trunk.counters = s.trunk.counters ∧ (meterBoundary p q c s).trunk.up = s.trunk.up ∧ (∀ j, (meterBoundary p q c s).message j = s.message j) := by
  unfold meterBoundary; (try dsimp only); (refine ⟨?_, ?_, ?_, ?_, ?_, ?_, ?_, ?_, ?_, ?_, ?_, ?_, ?_, ?_, ?_, ?_, ?_, ?_⟩ <;> (try intro j) <;> (repeat' split) <;> first | (simp; done) | (simp [State.line, State.channel, State.meter, State.account, State.row, State.message, Management.load]; done) | rfl)

@[simp] theorem meterPeriod_frame (q : Fin 8) (c : Fin 24) (s : State) :
    (meterPeriod q c s).pending = s.pending ∧ (meterPeriod q c s).inReset = s.inReset ∧ (meterPeriod q c s).now = s.now ∧ (meterPeriod q c s).key = s.key ∧ (meterPeriod q c s).groups = s.groups ∧ (meterPeriod q c s).messages = s.messages ∧ (meterPeriod q c s).lines = s.lines ∧ (meterPeriod q c s).dir = s.dir ∧ (meterPeriod q c s).accounts = s.accounts ∧ (meterPeriod q c s).cal = s.cal ∧ (meterPeriod q c s).queue = s.queue ∧ (meterPeriod q c s).channels = s.channels ∧ (meterPeriod q c s).tickets = s.tickets ∧ (meterPeriod q c s).watches = s.watches ∧ (meterPeriod q c s).sample = s.sample ∧ (meterPeriod q c s).trunk = s.trunk ∧ (meterPeriod q c s).mgt = s.mgt ∧ (meterPeriod q c s).params = s.params ∧ (∀ j, (meterPeriod q c s).line j = s.line j) ∧ (∀ j, (meterPeriod q c s).channel j = s.channel j) ∧ (∀ j, (meterPeriod q c s).account j = s.account j) ∧ (∀ j, (meterPeriod q c s).row j = s.row j) ∧ (∀ j, (meterPeriod q c s).message j = s.message j) := by
  unfold meterPeriod; (try dsimp only); (refine ⟨?_, ?_, ?_, ?_, ?_, ?_, ?_, ?_, ?_, ?_, ?_, ?_, ?_, ?_, ?_, ?_, ?_, ?_, ?_, ?_, ?_, ?_, ?_⟩ <;> (try intro j) <;> (repeat' split) <;> first | (simp; done) | (simp [State.line, State.channel, State.meter, State.account, State.row, State.message, Management.load]; done) | rfl)

@[simp] theorem meterPermit_frame (k : Fin 8) (new : Permit) (c : Fin 24) (s : State) :
    (meterPermit k new c s).pending = s.pending ∧ (meterPermit k new c s).inReset = s.inReset ∧ (meterPermit k new c s).now = s.now ∧ (meterPermit k new c s).key = s.key ∧ (meterPermit k new c s).groups = s.groups ∧ (meterPermit k new c s).messages = s.messages ∧ (meterPermit k new c s).dir = s.dir ∧ (meterPermit k new c s).accounts = s.accounts ∧ (meterPermit k new c s).cal = s.cal ∧ (meterPermit k new c s).queue = s.queue ∧ (meterPermit k new c s).channels = s.channels ∧ (meterPermit k new c s).tickets = s.tickets ∧ (meterPermit k new c s).watches = s.watches ∧ (meterPermit k new c s).sample = s.sample ∧ (meterPermit k new c s).trunk = s.trunk ∧ (meterPermit k new c s).mgt = s.mgt ∧ (meterPermit k new c s).params = s.params ∧ (∀ j, (meterPermit k new c s).channel j = s.channel j) ∧ (∀ j, (meterPermit k new c s).account j = s.account j) ∧ (∀ j, (meterPermit k new c s).row j = s.row j) ∧ (∀ j, (meterPermit k new c s).message j = s.message j) := by
  unfold meterPermit; (try dsimp only); (refine ⟨?_, ?_, ?_, ?_, ?_, ?_, ?_, ?_, ?_, ?_, ?_, ?_, ?_, ?_, ?_, ?_, ?_, ?_, ?_, ?_, ?_⟩ <;> (try intro j) <;> (repeat' split) <;> first | (simp; done) | (simp [State.line, State.channel, State.meter, State.account, State.row, State.message, Management.load]; done) | rfl)

@[simp] theorem stampRow_frame (r : Fin 64) (c : Fin 24) (s : State) :
    (stampRow r c s).pending = s.pending ∧ (stampRow r c s).inReset = s.inReset ∧ (stampRow r c s).now = s.now ∧ (stampRow r c s).key = s.key ∧ (stampRow r c s).groups = s.groups ∧ (stampRow r c s).messages = s.messages ∧ (stampRow r c s).lines = s.lines ∧ (stampRow r c s).dir = s.dir ∧ (stampRow r c s).accounts = s.accounts ∧ (stampRow r c s).cal = s.cal ∧ (stampRow r c s).meters = s.meters ∧ (stampRow r c s).queue = s.queue ∧ (stampRow r c s).channels = s.channels ∧ (stampRow r c s).watches = s.watches ∧ (stampRow r c s).sample = s.sample ∧ (stampRow r c s).trunk = s.trunk ∧ (stampRow r c s).mgt = s.mgt ∧ (stampRow r c s).params = s.params ∧ (∀ j, (stampRow r c s).line j = s.line j) ∧ (∀ j, (stampRow r c s).channel j = s.channel j) ∧ (∀ j, (stampRow r c s).meter j = s.meter j) ∧ (∀ j, (stampRow r c s).account j = s.account j) ∧ (∀ j, (stampRow r c s).message j = s.message j) := by
  unfold stampRow; (try dsimp only); (refine ⟨?_, ?_, ?_, ?_, ?_, ?_, ?_, ?_, ?_, ?_, ?_, ?_, ?_, ?_, ?_, ?_, ?_, ?_, ?_, ?_, ?_, ?_, ?_⟩ <;> (try intro j) <;> (repeat' split) <;> first | (simp; done) | (simp [State.line, State.channel, State.meter, State.account, State.row, State.message, Management.load]; done) | rfl)

@[simp] theorem startMeter_frame (c : Fin 24) (l : Fin 32) (a : Admission) (r : Fin 64) (s : State) :
    (startMeter c l a r s).pending = s.pending ∧ (startMeter c l a r s).inReset = s.inReset ∧ (startMeter c l a r s).now = s.now ∧ (startMeter c l a r s).key = s.key ∧ (startMeter c l a r s).groups = s.groups ∧ (startMeter c l a r s).messages = s.messages ∧ (startMeter c l a r s).dir = s.dir ∧ (startMeter c l a r s).cal = s.cal ∧ (startMeter c l a r s).queue = s.queue ∧ (startMeter c l a r s).watches = s.watches ∧ (startMeter c l a r s).sample = s.sample ∧ (startMeter c l a r s).params = s.params ∧ (startMeter c l a r s).mgt.load = s.mgt.load ∧ (startMeter c l a r s).trunk.counter = s.trunk.counter ∧ (startMeter c l a r s).trunk.nd = s.trunk.nd ∧ (startMeter c l a r s).trunk.counters = s.trunk.counters ∧ (startMeter c l a r s).trunk.up = s.trunk.up ∧ (∀ j, (startMeter c l a r s).message j = s.message j) := by
  unfold startMeter; (try dsimp only); (refine ⟨?_, ?_, ?_, ?_, ?_, ?_, ?_, ?_, ?_, ?_, ?_, ?_, ?_, ?_, ?_, ?_, ?_, ?_⟩ <;> (try intro j) <;> (repeat' split) <;> first | (simp; done) | (simp [State.line, State.channel, State.meter, State.account, State.row, State.message, Management.load]; done) | rfl)

@[simp] theorem restoreAccount_frame (a : Fin 256) (s : State) :
    (restoreAccount a s).pending = s.pending ∧ (restoreAccount a s).inReset = s.inReset ∧ (restoreAccount a s).now = s.now ∧ (restoreAccount a s).key = s.key ∧ (restoreAccount a s).groups = s.groups ∧ (restoreAccount a s).messages = s.messages ∧ (restoreAccount a s).lines = s.lines ∧ (restoreAccount a s).dir = s.dir ∧ (restoreAccount a s).accounts = s.accounts ∧ (restoreAccount a s).cal = s.cal ∧ (restoreAccount a s).queue = s.queue ∧ (restoreAccount a s).channels = s.channels ∧ (restoreAccount a s).tickets = s.tickets ∧ (restoreAccount a s).watches = s.watches ∧ (restoreAccount a s).sample = s.sample ∧ (restoreAccount a s).trunk = s.trunk ∧ (restoreAccount a s).mgt = s.mgt ∧ (restoreAccount a s).params = s.params ∧ (∀ j, (restoreAccount a s).line j = s.line j) ∧ (∀ j, (restoreAccount a s).channel j = s.channel j) ∧ (∀ j, (restoreAccount a s).account j = s.account j) ∧ (∀ j, (restoreAccount a s).row j = s.row j) ∧ (∀ j, (restoreAccount a s).message j = s.message j) := by
  unfold restoreAccount; (try dsimp only); (refine ⟨?_, ?_, ?_, ?_, ?_, ?_, ?_, ?_, ?_, ?_, ?_, ?_, ?_, ?_, ?_, ?_, ?_, ?_, ?_, ?_, ?_, ?_, ?_⟩ <;> (try intro j) <;> (repeat' split) <;> first | (simp; done) | (simp [State.line, State.channel, State.meter, State.account, State.row, State.message, Management.load]; done) | rfl)

end Sys2Proof.Machine
end

