-- ==== Sys2Proof/Laws/ChannelFrames.lean ====
section
/-! SUPPORT. The frame of every shared operation of Commands.lean, Channels.lean and Calendar.lean. -/

set_option linter.all false

namespace Sys2Proof.Machine

open Sys2Proof

@[simp] theorem setMessage_frame (m : Fin 24) (text : List Byte) (s : State) :
    (setMessage m text s).pending = s.pending ∧ (setMessage m text s).inReset = s.inReset ∧ (setMessage m text s).now = s.now ∧ (setMessage m text s).key = s.key ∧ (setMessage m text s).groups = s.groups ∧ (setMessage m text s).lines = s.lines ∧ (setMessage m text s).dir = s.dir ∧ (setMessage m text s).accounts = s.accounts ∧ (setMessage m text s).cal = s.cal ∧ (setMessage m text s).meters = s.meters ∧ (setMessage m text s).queue = s.queue ∧ (setMessage m text s).channels = s.channels ∧ (setMessage m text s).tickets = s.tickets ∧ (setMessage m text s).watches = s.watches ∧ (setMessage m text s).sample = s.sample ∧ (setMessage m text s).trunk = s.trunk ∧ (setMessage m text s).mgt = s.mgt ∧ (setMessage m text s).params = s.params ∧ (∀ j, (setMessage m text s).line j = s.line j) ∧ (∀ j, (setMessage m text s).channel j = s.channel j) ∧ (∀ j, (setMessage m text s).meter j = s.meter j) ∧ (∀ j, (setMessage m text s).account j = s.account j) ∧ (∀ j, (setMessage m text s).row j = s.row j) := by
  unfold setMessage; (try dsimp only); (refine ⟨?_, ?_, ?_, ?_, ?_, ?_, ?_, ?_, ?_, ?_, ?_, ?_, ?_, ?_, ?_, ?_, ?_, ?_, ?_, ?_, ?_, ?_, ?_⟩ <;> (try intro j) <;> (repeat' split) <;> first | (simp; done) | (simp [State.line, State.channel, State.meter, State.account, State.row, State.message, Management.load]; done) | rfl)

@[simp] theorem broadcastTo_frame (ls : List (Fin 32)) (s : State) :
    (broadcastTo ls s).pending = s.pending ∧ (broadcastTo ls s).inReset = s.inReset ∧ (broadcastTo ls s).now = s.now ∧ (broadcastTo ls s).key = s.key ∧ (broadcastTo ls s).groups = s.groups ∧ (broadcastTo ls s).messages = s.messages ∧ (broadcastTo ls s).dir = s.dir ∧ (broadcastTo ls s).accounts = s.accounts ∧ (broadcastTo ls s).cal = s.cal ∧ (broadcastTo ls s).meters = s.meters ∧ (broadcastTo ls s).queue = s.queue ∧ (broadcastTo ls s).channels = s.channels ∧ (broadcastTo ls s).tickets = s.tickets ∧ (broadcastTo ls s).watches = s.watches ∧ (broadcastTo ls s).sample = s.sample ∧ (broadcastTo ls s).trunk = s.trunk ∧ (broadcastTo ls s).mgt = s.mgt ∧ (broadcastTo ls s).params = s.params ∧ (∀ j, (broadcastTo ls s).channel j = s.channel j) ∧ (∀ j, (broadcastTo ls s).meter j = s.meter j) ∧ (∀ j, (broadcastTo ls s).account j = s.account j) ∧ (∀ j, (broadcastTo ls s).row j = s.row j) ∧ (∀ j, (broadcastTo ls s).message j = s.message j) := by
  unfold broadcastTo
  exact ⟨foldl_keeps State.pending _ (fun _ _ => by first | (simp; done) | ((repeat' split) <;> first | (simp; done))) _ _,
    foldl_keeps State.inReset _ (fun _ _ => by first | (simp; done) | ((repeat' split) <;> first | (simp; done))) _ _,
    foldl_keeps State.now _ (fun _ _ => by first | (simp; done) | ((repeat' split) <;> first | (simp; done))) _ _,
    foldl_keeps State.key _ (fun _ _ => by first | (simp; done) | ((repeat' split) <;> first | (simp; done))) _ _,
    foldl_keeps State.groups _ (fun _ _ => by first | (simp; done) | ((repeat' split) <;> first | (simp; done))) _ _,
    foldl_keeps State.messages _ (fun _ _ => by first | (simp; done) | ((repeat' split) <;> first | (simp; done))) _ _,
    foldl_keeps State.dir _ (fun _ _ => by first | (simp; done) | ((repeat' split) <;> first | (simp; done))) _ _,
    foldl_keeps State.accounts _ (fun _ _ => by first | (simp; done) | ((repeat' split) <;> first | (simp; done))) _ _,
    foldl_keeps State.cal _ (fun _ _ => by first | (simp; done) | ((repeat' split) <;> first | (simp; done))) _ _,
    foldl_keeps State.meters _ (fun _ _ => by first | (simp; done) | ((repeat' split) <;> first | (simp; done))) _ _,
    foldl_keeps State.queue _ (fun _ _ => by first | (simp; done) | ((repeat' split) <;> first | (simp; done))) _ _,
    foldl_keeps State.channels _ (fun _ _ => by first | (simp; done) | ((repeat' split) <;> first | (simp; done))) _ _,
    foldl_keeps State.tickets _ (fun _ _ => by first | (simp; done) | ((repeat' split) <;> first | (simp; done))) _ _,
    foldl_keeps State.watches _ (fun _ _ => by first | (simp; done) | ((repeat' split) <;> first | (simp; done))) _ _,
    foldl_keeps State.sample _ (fun _ _ => by first | (simp; done) | ((repeat' split) <;> first | (simp; done))) _ _,
    foldl_keeps State.trunk _ (fun _ _ => by first | (simp; done) | ((repeat' split) <;> first | (simp; done))) _ _,
    foldl_keeps State.mgt _ (fun _ _ => by first | (simp; done) | ((repeat' split) <;> first | (simp; done))) _ _,
    foldl_keeps State.params _ (fun _ _ => by first | (simp; done) | ((repeat' split) <;> first | (simp; done))) _ _,
    fun j => foldl_keeps (fun s : State => State.channel s j) _ (fun _ _ => by first | (simp; done) | ((repeat' split) <;> first | (simp; done))) _ _,
    fun j => foldl_keeps (fun s : State => State.meter s j) _ (fun _ _ => by first | (simp; done) | ((repeat' split) <;> first | (simp; done))) _ _,
    fun j => foldl_keeps (fun s : State => State.account s j) _ (fun _ _ => by first | (simp; done) | ((repeat' split) <;> first | (simp; done))) _ _,
    fun j => foldl_keeps (fun s : State => State.row s j) _ (fun _ _ => by first | (simp; done) | ((repeat' split) <;> first | (simp; done))) _ _,
    fun j => foldl_keeps (fun s : State => State.message s j) _ (fun _ _ => by first | (simp; done) | ((repeat' split) <;> first | (simp; done))) _ _⟩

@[simp] theorem discardCommand_frame (s : State) :
    (discardCommand s).pending = s.pending ∧ (discardCommand s).inReset = s.inReset ∧ (discardCommand s).now = s.now ∧ (discardCommand s).key = s.key ∧ (discardCommand s).groups = s.groups ∧ (discardCommand s).messages = s.messages ∧ (discardCommand s).lines = s.lines ∧ (discardCommand s).dir = s.dir ∧ (discardCommand s).accounts = s.accounts ∧ (discardCommand s).cal = s.cal ∧ (discardCommand s).meters = s.meters ∧ (discardCommand s).queue = s.queue ∧ (discardCommand s).channels = s.channels ∧ (discardCommand s).tickets = s.tickets ∧ (discardCommand s).watches = s.watches ∧ (discardCommand s).sample = s.sample ∧ (discardCommand s).params = s.params ∧ (discardCommand s).mgt.load = s.mgt.load ∧ (discardCommand s).trunk.counter = s.trunk.counter ∧ (discardCommand s).trunk.nd = s.trunk.nd ∧ (discardCommand s).trunk.controls = s.trunk.controls ∧ (discardCommand s).trunk.up = s.trunk.up ∧ (∀ j, (discardCommand s).line j = s.line j) ∧ (∀ j, (discardCommand s).channel j = s.channel j) ∧ (∀ j, (discardCommand s).meter j = s.meter j) ∧ (∀ j, (discardCommand s).account j = s.account j) ∧ (∀ j, (discardCommand s).row j = s.row j) ∧ (∀ j, (discardCommand s).message j = s.message j) := by
  unfold discardCommand; (try dsimp only); (refine ⟨?_, ?_, ?_, ?_, ?_, ?_, ?_, ?_, ?_, ?_, ?_, ?_, ?_, ?_, ?_, ?_, ?_, ?_, ?_, ?_, ?_, ?_, ?_, ?_, ?_, ?_, ?_, ?_⟩ <;> (try intro j) <;> (repeat' split) <;> first | (simp; done) | (simp [State.line, State.channel, State.meter, State.account, State.row, State.message, Management.load]; done) | rfl)

@[simp] theorem dropPartial_frame (s : State) :
    (dropPartial s).pending = s.pending ∧ (dropPartial s).inReset = s.inReset ∧ (dropPartial s).now = s.now ∧ (dropPartial s).key = s.key ∧ (dropPartial s).groups = s.groups ∧ (dropPartial s).messages = s.messages ∧ (dropPartial s).lines = s.lines ∧ (dropPartial s).dir = s.dir ∧ (dropPartial s).accounts = s.accounts ∧ (dropPartial s).cal = s.cal ∧ (dropPartial s).meters = s.meters ∧ (dropPartial s).queue = s.queue ∧ (dropPartial s).channels = s.channels ∧ (dropPartial s).tickets = s.tickets ∧ (dropPartial s).watches = s.watches ∧ (dropPartial s).sample = s.sample ∧ (dropPartial s).trunk = s.trunk ∧ (dropPartial s).params = s.params ∧ (∀ j, (dropPartial s).line j = s.line j) ∧ (∀ j, (dropPartial s).channel j = s.channel j) ∧ (∀ j, (dropPartial s).meter j = s.meter j) ∧ (∀ j, (dropPartial s).account j = s.account j) ∧ (∀ j, (dropPartial s).row j = s.row j) ∧ (∀ j, (dropPartial s).message j = s.message j) := by
  unfold dropPartial; (try dsimp only); (refine ⟨?_, ?_, ?_, ?_, ?_, ?_, ?_, ?_, ?_, ?_, ?_, ?_, ?_, ?_, ?_, ?_, ?_, ?_, ?_, ?_, ?_, ?_, ?_, ?_⟩ <;> (try intro j) <;> (repeat' split) <;> first | (simp; done) | (simp [State.line, State.channel, State.meter, State.account, State.row, State.message, Management.load]; done) | rfl)

@[simp] theorem reserveRow_frame (r : Fin 64) (c : Fin 24) (l : Fin 32) (a : Admission) (s : State) :
    (reserveRow r c l a s).pending = s.pending ∧ (reserveRow r c l a s).inReset = s.inReset ∧ (reserveRow r c l a s).now = s.now ∧ (reserveRow r c l a s).key = s.key ∧ (reserveRow r c l a s).groups = s.groups ∧ (reserveRow r c l a s).messages = s.messages ∧ (reserveRow r c l a s).lines = s.lines ∧ (reserveRow r c l a s).dir = s.dir ∧ (reserveRow r c l a s).accounts = s.accounts ∧ (reserveRow r c l a s).cal = s.cal ∧ (reserveRow r c l a s).meters = s.meters ∧ (reserveRow r c l a s).queue = s.queue ∧ (reserveRow r c l a s).channels = s.channels ∧ (reserveRow r c l a s).watches = s.watches ∧ (reserveRow r c l a s).sample = s.sample ∧ (reserveRow r c l a s).trunk = s.trunk ∧ (reserveRow r c l a s).mgt = s.mgt ∧ (reserveRow r c l a s).params = s.params ∧ (∀ j, (reserveRow r c l a s).line j = s.line j) ∧ (∀ j, (reserveRow r c l a s).channel j = s.channel j) ∧ (∀ j, (reserveRow r c l a s).meter j = s.meter j) ∧ (∀ j, (reserveRow r c l a s).account j = s.account j) ∧ (∀ j, (reserveRow r c l a s).message j = s.message j) := by
  unfold reserveRow; (try dsimp only); (refine ⟨?_, ?_, ?_, ?_, ?_, ?_, ?_, ?_, ?_, ?_, ?_, ?_, ?_, ?_, ?_, ?_, ?_, ?_, ?_, ?_, ?_, ?_, ?_⟩ <;> (try intro j) <;> (repeat' split) <;> first | (simp; done) | (simp [State.line, State.channel, State.meter, State.account, State.row, State.message, Management.load]; done) | rfl)

@[simp] theorem grantTo_frame (l : Fin 32) (a : Admission) (c : Fin 24) (r : Fin 64) (s : State) :
    (grantTo l a c r s).pending = s.pending ∧ (grantTo l a c r s).inReset = s.inReset ∧ (grantTo l a c r s).now = s.now ∧ (grantTo l a c r s).key = s.key ∧ (grantTo l a c r s).groups = s.groups ∧ (grantTo l a c r s).messages = s.messages ∧ (grantTo l a c r s).dir = s.dir ∧ (grantTo l a c r s).accounts = s.accounts ∧ (grantTo l a c r s).cal = s.cal ∧ (grantTo l a c r s).meters = s.meters ∧ (grantTo l a c r s).watches = s.watches ∧ (grantTo l a c r s).sample = s.sample ∧ (grantTo l a c r s).mgt = s.mgt ∧ (grantTo l a c r s).params = s.params ∧ (grantTo l a c r s).trunk.counter = s.trunk.counter ∧ (grantTo l a c r s).trunk.nd = s.trunk.nd ∧ (grantTo l a c r s).trunk.counters = s.trunk.counters ∧ (grantTo l a c r s).trunk.up = s.trunk.up ∧ (∀ j, (grantTo l a c r s).meter j = s.meter j) ∧ (∀ j, (grantTo l a c r s).account j = s.account j) ∧ (∀ j, (grantTo l a c r s).message j = s.message j) := by
  unfold grantTo; (try dsimp only); (refine ⟨?_, ?_, ?_, ?_, ?_, ?_, ?_, ?_, ?_, ?_, ?_, ?_, ?_, ?_, ?_, ?_, ?_, ?_, ?_, ?_, ?_⟩ <;> (try intro j) <;> (repeat' split) <;> first | (simp; done) | (simp [State.line, State.channel, State.meter, State.account, State.row, State.message, Management.load]; done) | rfl)

@[simp] theorem endOffer_frame (c : Fin 24) (m : Option (Fin 24)) (drains : Bool) (s : State) :
    (endOffer c m drains s).pending = s.pending ∧ (endOffer c m drains s).inReset = s.inReset ∧ (endOffer c m drains s).now = s.now ∧ (endOffer c m drains s).key = s.key ∧ (endOffer c m drains s).groups = s.groups ∧ (endOffer c m drains s).messages = s.messages ∧ (endOffer c m drains s).dir = s.dir ∧ (endOffer c m drains s).cal = s.cal ∧ (endOffer c m drains s).meters = s.meters ∧ (endOffer c m drains s).queue = s.queue ∧ (endOffer c m drains s).channels = s.channels ∧ (endOffer c m drains s).watches = s.watches ∧ (endOffer c m drains s).sample = s.sample ∧ (endOffer c m drains s).trunk = s.trunk ∧ (endOffer c m drains s).params = s.params ∧ (endOffer c m drains s).mgt.load = s.mgt.load ∧ (∀ j, (endOffer c m drains s).channel j = s.channel j) ∧ (∀ j, (endOffer c m drains s).meter j = s.meter j) ∧ (∀ j, (endOffer c m drains s).message j = s.message j) := by
  unfold endOffer; (try dsimp only); (refine ⟨?_, ?_, ?_, ?_, ?_, ?_, ?_, ?_, ?_, ?_, ?_, ?_, ?_, ?_, ?_, ?_, ?_, ?_, ?_⟩ <;> (try intro j) <;> (repeat' split) <;> first | (simp; done) | (simp [State.line, State.channel, State.meter, State.account, State.row, State.message, Management.load]; done) | rfl)

@[simp] theorem freeChannel_frame (c : Fin 24) (s : State) :
    (freeChannel c s).pending = s.pending ∧ (freeChannel c s).inReset = s.inReset ∧ (freeChannel c s).now = s.now ∧ (freeChannel c s).key = s.key ∧ (freeChannel c s).groups = s.groups ∧ (freeChannel c s).messages = s.messages ∧ (freeChannel c s).lines = s.lines ∧ (freeChannel c s).dir = s.dir ∧ (freeChannel c s).accounts = s.accounts ∧ (freeChannel c s).cal = s.cal ∧ (freeChannel c s).meters = s.meters ∧ (freeChannel c s).queue = s.queue ∧ (freeChannel c s).tickets = s.tickets ∧ (freeChannel c s).watches = s.watches ∧ (freeChannel c s).sample = s.sample ∧ (freeChannel c s).trunk = s.trunk ∧ (freeChannel c s).mgt = s.mgt ∧ (freeChannel c s).params = s.params ∧ (∀ j, (freeChannel c s).line j = s.line j) ∧ (∀ j, (freeChannel c s).meter j = s.meter j) ∧ (∀ j, (freeChannel c s).account j = s.account j) ∧ (∀ j, (freeChannel c s).row j = s.row j) ∧ (∀ j, (freeChannel c s).message j = s.message j) := by
  unfold freeChannel; (try dsimp only); (refine ⟨?_, ?_, ?_, ?_, ?_, ?_, ?_, ?_, ?_, ?_, ?_, ?_, ?_, ?_, ?_, ?_, ?_, ?_, ?_, ?_, ?_, ?_, ?_⟩ <;> (try intro j) <;> (repeat' split) <;> first | (simp; done) | (simp [State.line, State.channel, State.meter, State.account, State.row, State.message, Management.load]; done) | rfl)

@[simp] theorem rejectOffer_frame (c : Fin 24) (reason : Byte) (s : State) :
    (rejectOffer c reason s).pending = s.pending ∧ (rejectOffer c reason s).inReset = s.inReset ∧ (rejectOffer c reason s).now = s.now ∧ (rejectOffer c reason s).key = s.key ∧ (rejectOffer c reason s).groups = s.groups ∧ (rejectOffer c reason s).messages = s.messages ∧ (rejectOffer c reason s).dir = s.dir ∧ (rejectOffer c reason s).cal = s.cal ∧ (rejectOffer c reason s).meters = s.meters ∧ (rejectOffer c reason s).queue = s.queue ∧ (rejectOffer c reason s).watches = s.watches ∧ (rejectOffer c reason s).sample = s.sample ∧ (rejectOffer c reason s).trunk = s.trunk ∧ (rejectOffer c reason s).params = s.params ∧ (rejectOffer c reason s).mgt.load = s.mgt.load ∧ (∀ j, (rejectOffer c reason s).meter j = s.meter j) ∧ (∀ j, (rejectOffer c reason s).message j = s.message j) := by
  unfold rejectOffer; (try dsimp only); (refine ⟨?_, ?_, ?_, ?_, ?_, ?_, ?_, ?_, ?_, ?_, ?_, ?_, ?_, ?_, ?_, ?_, ?_⟩ <;> (try intro j) <;> (repeat' split) <;> first | (simp; done) | (simp [State.line, State.channel, State.meter, State.account, State.row, State.message, Management.load]; done) | rfl)

@[simp] theorem abandonOffer_frame (c : Fin 24) (why : CloseReason) (m : Option (Fin 24)) (drains : Bool) (s : State) :
    (abandonOffer c why m drains s).pending = s.pending ∧ (abandonOffer c why m drains s).inReset = s.inReset ∧ (abandonOffer c why m drains s).now = s.now ∧ (abandonOffer c why m drains s).key = s.key ∧ (abandonOffer c why m drains s).groups = s.groups ∧ (abandonOffer c why m drains s).messages = s.messages ∧ (abandonOffer c why m drains s).dir = s.dir ∧ (abandonOffer c why m drains s).cal = s.cal ∧ (abandonOffer c why m drains s).meters = s.meters ∧ (abandonOffer c why m drains s).queue = s.queue ∧ (abandonOffer c why m drains s).watches = s.watches ∧ (abandonOffer c why m drains s).sample = s.sample ∧ (abandonOffer c why m drains s).params = s.params ∧ (abandonOffer c why m drains s).mgt.load = s.mgt.load ∧ (abandonOffer c why m drains s).trunk.counter = s.trunk.counter ∧ (abandonOffer c why m drains s).trunk.nd = s.trunk.nd ∧ (abandonOffer c why m drains s).trunk.counters = s.trunk.counters ∧ (abandonOffer c why m drains s).trunk.up = s.trunk.up ∧ (∀ j, (abandonOffer c why m drains s).meter j = s.meter j) ∧ (∀ j, (abandonOffer c why m drains s).message j = s.message j) := by
  unfold abandonOffer; (try dsimp only); (refine ⟨?_, ?_, ?_, ?_, ?_, ?_, ?_, ?_, ?_, ?_, ?_, ?_, ?_, ?_, ?_, ?_, ?_, ?_, ?_, ?_⟩ <;> (try intro j) <;> (repeat' split) <;> first | (simp; done) | (simp [State.line, State.channel, State.meter, State.account, State.row, State.message, Management.load]; done) | rfl)

@[simp] theorem dropOpen_frame (c : Fin 24) (s : State) :
    (dropOpen c s).pending = s.pending ∧ (dropOpen c s).inReset = s.inReset ∧ (dropOpen c s).now = s.now ∧ (dropOpen c s).key = s.key ∧ (dropOpen c s).groups = s.groups ∧ (dropOpen c s).messages = s.messages ∧ (dropOpen c s).lines = s.lines ∧ (dropOpen c s).dir = s.dir ∧ (dropOpen c s).accounts = s.accounts ∧ (dropOpen c s).cal = s.cal ∧ (dropOpen c s).meters = s.meters ∧ (dropOpen c s).queue = s.queue ∧ (dropOpen c s).channels = s.channels ∧ (dropOpen c s).tickets = s.tickets ∧ (dropOpen c s).watches = s.watches ∧ (dropOpen c s).sample = s.sample ∧ (dropOpen c s).mgt = s.mgt ∧ (dropOpen c s).params = s.params ∧ (dropOpen c s).trunk.counter = s.trunk.counter ∧ (dropOpen c s).trunk.nd = s.trunk.nd ∧ (dropOpen c s).trunk.counters = s.trunk.counters ∧ (dropOpen c s).trunk.up = s.trunk.up ∧ (∀ j, (dropOpen c s).line j = s.line j) ∧ (∀ j, (dropOpen c s).channel j = s.channel j) ∧ (∀ j, (dropOpen c s).meter j = s.meter j) ∧ (∀ j, (dropOpen c s).account j = s.account j) ∧ (∀ j, (dropOpen c s).row j = s.row j) ∧ (∀ j, (dropOpen c s).message j = s.message j) := by
  unfold dropOpen; (try dsimp only); (refine ⟨?_, ?_, ?_, ?_, ?_, ?_, ?_, ?_, ?_, ?_, ?_, ?_, ?_, ?_, ?_, ?_, ?_, ?_, ?_, ?_, ?_, ?_, ?_, ?_, ?_, ?_, ?_, ?_⟩ <;> (try intro j) <;> (repeat' split) <;> first | (simp; done) | (simp [State.line, State.channel, State.meter, State.account, State.row, State.message, Management.load]; done) | rfl)

@[simp] theorem acceptOffer_frame (c : Fin 24) (s : State) :
    (acceptOffer c s).pending = s.pending ∧ (acceptOffer c s).inReset = s.inReset ∧ (acceptOffer c s).now = s.now ∧ (acceptOffer c s).key = s.key ∧ (acceptOffer c s).groups = s.groups ∧ (acceptOffer c s).messages = s.messages ∧ (acceptOffer c s).dir = s.dir ∧ (acceptOffer c s).cal = s.cal ∧ (acceptOffer c s).queue = s.queue ∧ (acceptOffer c s).watches = s.watches ∧ (acceptOffer c s).sample = s.sample ∧ (acceptOffer c s).params = s.params ∧ (acceptOffer c s).mgt.load = s.mgt.load ∧ (acceptOffer c s).trunk.counter = s.trunk.counter ∧ (acceptOffer c s).trunk.nd = s.trunk.nd ∧ (acceptOffer c s).trunk.counters = s.trunk.counters ∧ (acceptOffer c s).trunk.up = s.trunk.up ∧ (∀ j, (acceptOffer c s).message j = s.message j) := by
  unfold acceptOffer; (try dsimp only); (refine ⟨?_, ?_, ?_, ?_, ?_, ?_, ?_, ?_, ?_, ?_, ?_, ?_, ?_, ?_, ?_, ?_, ?_, ?_⟩ <;> (try intro j) <;> (repeat' split) <;> first | (simp; done) | (simp [State.line, State.channel, State.meter, State.account, State.row, State.message, Management.load]; done) | rfl)

@[simp] theorem takeAccept_frame (c : Fin 24) (s : State) :
    (takeAccept c s).pending = s.pending ∧ (takeAccept c s).inReset = s.inReset ∧ (takeAccept c s).now = s.now ∧ (takeAccept c s).key = s.key ∧ (takeAccept c s).groups = s.groups ∧ (takeAccept c s).messages = s.messages ∧ (takeAccept c s).dir = s.dir ∧ (takeAccept c s).cal = s.cal ∧ (takeAccept c s).queue = s.queue ∧ (takeAccept c s).watches = s.watches ∧ (takeAccept c s).sample = s.sample ∧ (takeAccept c s).params = s.params ∧ (takeAccept c s).mgt.load = s.mgt.load ∧ (takeAccept c s).trunk.counter = s.trunk.counter ∧ (takeAccept c s).trunk.nd = s.trunk.nd ∧ (takeAccept c s).trunk.up = s.trunk.up ∧ (∀ j, (takeAccept c s).message j = s.message j) := by
  unfold takeAccept; (try dsimp only); (refine ⟨?_, ?_, ?_, ?_, ?_, ?_, ?_, ?_, ?_, ?_, ?_, ?_, ?_, ?_, ?_, ?_, ?_⟩ <;> (try intro j) <;> (repeat' split) <;> first | (simp; done) | (simp [State.line, State.channel, State.meter, State.account, State.row, State.message, Management.load]; done) | rfl)

@[simp] theorem takeReject_frame (c : Fin 24) (reason : Byte) (s : State) :
    (takeReject c reason s).pending = s.pending ∧ (takeReject c reason s).inReset = s.inReset ∧ (takeReject c reason s).now = s.now ∧ (takeReject c reason s).key = s.key ∧ (takeReject c reason s).groups = s.groups ∧ (takeReject c reason s).messages = s.messages ∧ (takeReject c reason s).dir = s.dir ∧ (takeReject c reason s).cal = s.cal ∧ (takeReject c reason s).meters = s.meters ∧ (takeReject c reason s).queue = s.queue ∧ (takeReject c reason s).watches = s.watches ∧ (takeReject c reason s).sample = s.sample ∧ (takeReject c reason s).params = s.params ∧ (takeReject c reason s).mgt.load = s.mgt.load ∧ (takeReject c reason s).trunk.counter = s.trunk.counter ∧ (takeReject c reason s).trunk.nd = s.trunk.nd ∧ (takeReject c reason s).trunk.controls = s.trunk.controls ∧ (takeReject c reason s).trunk.up = s.trunk.up ∧ (∀ j, (takeReject c reason s).meter j = s.meter j) ∧ (∀ j, (takeReject c reason s).message j = s.message j) := by
  unfold takeReject; (try dsimp only); (refine ⟨?_, ?_, ?_, ?_, ?_, ?_, ?_, ?_, ?_, ?_, ?_, ?_, ?_, ?_, ?_, ?_, ?_, ?_, ?_, ?_⟩ <;> (try intro j) <;> (repeat' split) <;> first | (simp; done) | (simp [State.line, State.channel, State.meter, State.account, State.row, State.message, Management.load]; done) | rfl)

@[simp] theorem hostClose_frame (c : Fin 24) (s : State) :
    (hostClose c s).pending = s.pending ∧ (hostClose c s).inReset = s.inReset ∧ (hostClose c s).now = s.now ∧ (hostClose c s).key = s.key ∧ (hostClose c s).groups = s.groups ∧ (hostClose c s).messages = s.messages ∧ (hostClose c s).dir = s.dir ∧ (hostClose c s).cal = s.cal ∧ (hostClose c s).queue = s.queue ∧ (hostClose c s).watches = s.watches ∧ (hostClose c s).sample = s.sample ∧ (hostClose c s).params = s.params ∧ (hostClose c s).mgt.load = s.mgt.load ∧ (hostClose c s).trunk.counter = s.trunk.counter ∧ (hostClose c s).trunk.nd = s.trunk.nd ∧ (hostClose c s).trunk.counters = s.trunk.counters ∧ (hostClose c s).trunk.up = s.trunk.up ∧ (∀ j, (hostClose c s).message j = s.message j) := by
  unfold hostClose; (try dsimp only); (refine ⟨?_, ?_, ?_, ?_, ?_, ?_, ?_, ?_, ?_, ?_, ?_, ?_, ?_, ?_, ?_, ?_, ?_, ?_⟩ <;> (try intro j) <;> (repeat' split) <;> first | (simp; done) | (simp [State.line, State.channel, State.meter, State.account, State.row, State.message, Management.load]; done) | rfl)

@[simp] theorem confirmClose_frame (c : Fin 24) (s : State) :
    (confirmClose c s).pending = s.pending ∧ (confirmClose c s).inReset = s.inReset ∧ (confirmClose c s).now = s.now ∧ (confirmClose c s).key = s.key ∧ (confirmClose c s).groups = s.groups ∧ (confirmClose c s).messages = s.messages ∧ (confirmClose c s).lines = s.lines ∧ (confirmClose c s).dir = s.dir ∧ (confirmClose c s).accounts = s.accounts ∧ (confirmClose c s).cal = s.cal ∧ (confirmClose c s).meters = s.meters ∧ (confirmClose c s).queue = s.queue ∧ (confirmClose c s).tickets = s.tickets ∧ (confirmClose c s).watches = s.watches ∧ (confirmClose c s).sample = s.sample ∧ (confirmClose c s).trunk = s.trunk ∧ (confirmClose c s).mgt = s.mgt ∧ (confirmClose c s).params = s.params ∧ (∀ j, (confirmClose c s).line j = s.line j) ∧ (∀ j, (confirmClose c s).meter j = s.meter j) ∧ (∀ j, (confirmClose c s).account j = s.account j) ∧ (∀ j, (confirmClose c s).row j = s.row j) ∧ (∀ j, (confirmClose c s).message j = s.message j) := by
  unfold confirmClose; (try dsimp only); (refine ⟨?_, ?_, ?_, ?_, ?_, ?_, ?_, ?_, ?_, ?_, ?_, ?_, ?_, ?_, ?_, ?_, ?_, ?_, ?_, ?_, ?_, ?_, ?_⟩ <;> (try intro j) <;> (repeat' split) <;> first | (simp; done) | (simp [State.line, State.channel, State.meter, State.account, State.row, State.message, Management.load]; done) | rfl)

@[simp] theorem takeClose_frame (c : Fin 24) (s : State) :
    (takeClose c s).pending = s.pending ∧ (takeClose c s).inReset = s.inReset ∧ (takeClose c s).now = s.now ∧ (takeClose c s).key = s.key ∧ (takeClose c s).groups = s.groups ∧ (takeClose c s).messages = s.messages ∧ (takeClose c s).dir = s.dir ∧ (takeClose c s).cal = s.cal ∧ (takeClose c s).queue = s.queue ∧ (takeClose c s).watches = s.watches ∧ (takeClose c s).sample = s.sample ∧ (takeClose c s).params = s.params ∧ (takeClose c s).mgt.load = s.mgt.load ∧ (takeClose c s).trunk.counter = s.trunk.counter ∧ (takeClose c s).trunk.nd = s.trunk.nd ∧ (takeClose c s).trunk.up = s.trunk.up ∧ (∀ j, (takeClose c s).message j = s.message j) := by
  unfold takeClose; (try dsimp only); (refine ⟨?_, ?_, ?_, ?_, ?_, ?_, ?_, ?_, ?_, ?_, ?_, ?_, ?_, ?_, ?_, ?_, ?_⟩ <;> (try intro j) <;> (repeat' split) <;> first | (simp; done) | (simp [State.line, State.channel, State.meter, State.account, State.row, State.message, Management.load]; done) | rfl)

@[simp] theorem takeClosed_frame (c : Fin 24) (s : State) :
    (takeClosed c s).pending = s.pending ∧ (takeClosed c s).inReset = s.inReset ∧ (takeClosed c s).now = s.now ∧ (takeClosed c s).key = s.key ∧ (takeClosed c s).groups = s.groups ∧ (takeClosed c s).messages = s.messages ∧ (takeClosed c s).lines = s.lines ∧ (takeClosed c s).dir = s.dir ∧ (takeClosed c s).accounts = s.accounts ∧ (takeClosed c s).cal = s.cal ∧ (takeClosed c s).meters = s.meters ∧ (takeClosed c s).queue = s.queue ∧ (takeClosed c s).tickets = s.tickets ∧ (takeClosed c s).watches = s.watches ∧ (takeClosed c s).sample = s.sample ∧ (takeClosed c s).params = s.params ∧ (takeClosed c s).mgt.load = s.mgt.load ∧ (takeClosed c s).trunk.counter = s.trunk.counter ∧ (takeClosed c s).trunk.nd = s.trunk.nd ∧ (takeClosed c s).trunk.controls = s.trunk.controls ∧ (takeClosed c s).trunk.up = s.trunk.up ∧ (∀ j, (takeClosed c s).line j = s.line j) ∧ (∀ j, (takeClosed c s).meter j = s.meter j) ∧ (∀ j, (takeClosed c s).account j = s.account j) ∧ (∀ j, (takeClosed c s).row j = s.row j) ∧ (∀ j, (takeClosed c s).message j = s.message j) := by
  unfold takeClosed; (try dsimp only); (refine ⟨?_, ?_, ?_, ?_, ?_, ?_, ?_, ?_, ?_, ?_, ?_, ?_, ?_, ?_, ?_, ?_, ?_, ?_, ?_, ?_, ?_, ?_, ?_, ?_, ?_, ?_⟩ <;> (try intro j) <;> (repeat' split) <;> first | (simp; done) | (simp [State.line, State.channel, State.meter, State.account, State.row, State.message, Management.load]; done) | rfl)

@[simp] theorem takeFlow_frame (c : Fin 24) (f : Flow) (s : State) :
    (takeFlow c f s).pending = s.pending ∧ (takeFlow c f s).inReset = s.inReset ∧ (takeFlow c f s).now = s.now ∧ (takeFlow c f s).key = s.key ∧ (takeFlow c f s).groups = s.groups ∧ (takeFlow c f s).messages = s.messages ∧ (takeFlow c f s).lines = s.lines ∧ (takeFlow c f s).dir = s.dir ∧ (takeFlow c f s).accounts = s.accounts ∧ (takeFlow c f s).cal = s.cal ∧ (takeFlow c f s).meters = s.meters ∧ (takeFlow c f s).queue = s.queue ∧ (takeFlow c f s).tickets = s.tickets ∧ (takeFlow c f s).watches = s.watches ∧ (takeFlow c f s).sample = s.sample ∧ (takeFlow c f s).params = s.params ∧ (takeFlow c f s).mgt.load = s.mgt.load ∧ (takeFlow c f s).trunk.counter = s.trunk.counter ∧ (takeFlow c f s).trunk.nd = s.trunk.nd ∧ (takeFlow c f s).trunk.controls = s.trunk.controls ∧ (takeFlow c f s).trunk.up = s.trunk.up ∧ (∀ j, (takeFlow c f s).line j = s.line j) ∧ (∀ j, (takeFlow c f s).meter j = s.meter j) ∧ (∀ j, (takeFlow c f s).account j = s.account j) ∧ (∀ j, (takeFlow c f s).row j = s.row j) ∧ (∀ j, (takeFlow c f s).message j = s.message j) := by
  unfold takeFlow; (try dsimp only); (refine ⟨?_, ?_, ?_, ?_, ?_, ?_, ?_, ?_, ?_, ?_, ?_, ?_, ?_, ?_, ?_, ?_, ?_, ?_, ?_, ?_, ?_, ?_, ?_, ?_, ?_, ?_⟩ <;> (try intro j) <;> (repeat' split) <;> first | (simp; done) | (simp [State.line, State.channel, State.meter, State.account, State.row, State.message, Management.load]; done) | rfl)

@[simp] theorem updWaiter_frame (l : Fin 32) (f : Waiter → Waiter) (s : State) :
    (updWaiter l f s).pending = s.pending ∧ (updWaiter l f s).inReset = s.inReset ∧ (updWaiter l f s).now = s.now ∧ (updWaiter l f s).key = s.key ∧ (updWaiter l f s).groups = s.groups ∧ (updWaiter l f s).messages = s.messages ∧ (updWaiter l f s).lines = s.lines ∧ (updWaiter l f s).dir = s.dir ∧ (updWaiter l f s).accounts = s.accounts ∧ (updWaiter l f s).cal = s.cal ∧ (updWaiter l f s).meters = s.meters ∧ (updWaiter l f s).channels = s.channels ∧ (updWaiter l f s).tickets = s.tickets ∧ (updWaiter l f s).watches = s.watches ∧ (updWaiter l f s).sample = s.sample ∧ (updWaiter l f s).trunk = s.trunk ∧ (updWaiter l f s).mgt = s.mgt ∧ (updWaiter l f s).params = s.params ∧ (∀ j, (updWaiter l f s).line j = s.line j) ∧ (∀ j, (updWaiter l f s).channel j = s.channel j) ∧ (∀ j, (updWaiter l f s).meter j = s.meter j) ∧ (∀ j, (updWaiter l f s).account j = s.account j) ∧ (∀ j, (updWaiter l f s).row j = s.row j) ∧ (∀ j, (updWaiter l f s).message j = s.message j) := by
  unfold updWaiter; (try dsimp only); (refine ⟨?_, ?_, ?_, ?_, ?_, ?_, ?_, ?_, ?_, ?_, ?_, ?_, ?_, ?_, ?_, ?_, ?_, ?_, ?_, ?_, ?_, ?_, ?_, ?_⟩ <;> (try intro j) <;> (repeat' split) <;> first | (simp; done) | (simp [State.line, State.channel, State.meter, State.account, State.row, State.message, Management.load]; done) | rfl)

@[simp] theorem joinQueue_frame (l : Fin 32) (priority : Bool) (s : State) :
    (joinQueue l priority s).pending = s.pending ∧ (joinQueue l priority s).inReset = s.inReset ∧ (joinQueue l priority s).now = s.now ∧ (joinQueue l priority s).key = s.key ∧ (joinQueue l priority s).groups = s.groups ∧ (joinQueue l priority s).messages = s.messages ∧ (joinQueue l priority s).dir = s.dir ∧ (joinQueue l priority s).accounts = s.accounts ∧ (joinQueue l priority s).cal = s.cal ∧ (joinQueue l priority s).meters = s.meters ∧ (joinQueue l priority s).channels = s.channels ∧ (joinQueue l priority s).tickets = s.tickets ∧ (joinQueue l priority s).watches = s.watches ∧ (joinQueue l priority s).sample = s.sample ∧ (joinQueue l priority s).trunk = s.trunk ∧ (joinQueue l priority s).mgt = s.mgt ∧ (joinQueue l priority s).params = s.params ∧ (∀ j, (joinQueue l priority s).channel j = s.channel j) ∧ (∀ j, (joinQueue l priority s).meter j = s.meter j) ∧ (∀ j, (joinQueue l priority s).account j = s.account j) ∧ (∀ j, (joinQueue l priority s).row j = s.row j) ∧ (∀ j, (joinQueue l priority s).message j = s.message j) := by
  unfold joinQueue; (try dsimp only); (refine ⟨?_, ?_, ?_, ?_, ?_, ?_, ?_, ?_, ?_, ?_, ?_, ?_, ?_, ?_, ?_, ?_, ?_, ?_, ?_, ?_, ?_, ?_⟩ <;> (try intro j) <;> (repeat' split) <;> first | (simp; done) | (simp [State.line, State.channel, State.meter, State.account, State.row, State.message, Management.load]; done) | rfl)

@[simp] theorem dropClass_frame (k : Fin 8) (s : State) :
    (dropClass k s).pending = s.pending ∧ (dropClass k s).inReset = s.inReset ∧ (dropClass k s).now = s.now ∧ (dropClass k s).key = s.key ∧ (dropClass k s).groups = s.groups ∧ (dropClass k s).messages = s.messages ∧ (dropClass k s).dir = s.dir ∧ (dropClass k s).cal = s.cal ∧ (dropClass k s).meters = s.meters ∧ (dropClass k s).channels = s.channels ∧ (dropClass k s).tickets = s.tickets ∧ (dropClass k s).watches = s.watches ∧ (dropClass k s).sample = s.sample ∧ (dropClass k s).trunk = s.trunk ∧ (dropClass k s).params = s.params ∧ (dropClass k s).mgt.load = s.mgt.load ∧ (∀ j, (dropClass k s).channel j = s.channel j) ∧ (∀ j, (dropClass k s).meter j = s.meter j) ∧ (∀ j, (dropClass k s).row j = s.row j) ∧ (∀ j, (dropClass k s).message j = s.message j) := by
  unfold dropClass
  exact ⟨foldl_keeps State.pending _ (fun _ _ => by first | (simp; done) | ((repeat' split) <;> first | (simp; done))) _ _,
    foldl_keeps State.inReset _ (fun _ _ => by first | (simp; done) | ((repeat' split) <;> first | (simp; done))) _ _,
    foldl_keeps State.now _ (fun _ _ => by first | (simp; done) | ((repeat' split) <;> first | (simp; done))) _ _,
    foldl_keeps State.key _ (fun _ _ => by first | (simp; done) | ((repeat' split) <;> first | (simp; done))) _ _,
    foldl_keeps State.groups _ (fun _ _ => by first | (simp; done) | ((repeat' split) <;> first | (simp; done))) _ _,
    foldl_keeps State.messages _ (fun _ _ => by first | (simp; done) | ((repeat' split) <;> first | (simp; done))) _ _,
    foldl_keeps State.dir _ (fun _ _ => by first | (simp; done) | ((repeat' split) <;> first | (simp; done))) _ _,
    foldl_keeps State.cal _ (fun _ _ => by first | (simp; done) | ((repeat' split) <;> first | (simp; done))) _ _,
    foldl_keeps State.meters _ (fun _ _ => by first | (simp; done) | ((repeat' split) <;> first | (simp; done))) _ _,
    foldl_keeps State.channels _ (fun _ _ => by first | (simp; done) | ((repeat' split) <;> first | (simp; done))) _ _,
    foldl_keeps State.tickets _ (fun _ _ => by first | (simp; done) | ((repeat' split) <;> first | (simp; done))) _ _,
    foldl_keeps State.watches _ (fun _ _ => by first | (simp; done) | ((repeat' split) <;> first | (simp; done))) _ _,
    foldl_keeps State.sample _ (fun _ _ => by first | (simp; done) | ((repeat' split) <;> first | (simp; done))) _ _,
    foldl_keeps State.trunk _ (fun _ _ => by first | (simp; done) | ((repeat' split) <;> first | (simp; done))) _ _,
    foldl_keeps State.params _ (fun _ _ => by first | (simp; done) | ((repeat' split) <;> first | (simp; done))) _ _,
    foldl_keeps (fun s : State => s.mgt.load) _ (fun _ _ => by first | (simp; done) | ((repeat' split) <;> first | (simp; done))) _ _,
    fun j => foldl_keeps (fun s : State => State.channel s j) _ (fun _ _ => by first | (simp; done) | ((repeat' split) <;> first | (simp; done))) _ _,
    fun j => foldl_keeps (fun s : State => State.meter s j) _ (fun _ _ => by first | (simp; done) | ((repeat' split) <;> first | (simp; done))) _ _,
    fun j => foldl_keeps (fun s : State => State.row s j) _ (fun _ _ => by first | (simp; done) | ((repeat' split) <;> first | (simp; done))) _ _,
    fun j => foldl_keeps (fun s : State => State.message s j) _ (fun _ _ => by first | (simp; done) | ((repeat' split) <;> first | (simp; done))) _ _⟩

@[simp] theorem permitWaiters_frame (k : Fin 8) (new : Permit) (s : State) :
    (permitWaiters k new s).pending = s.pending ∧ (permitWaiters k new s).inReset = s.inReset ∧ (permitWaiters k new s).now = s.now ∧ (permitWaiters k new s).key = s.key ∧ (permitWaiters k new s).groups = s.groups ∧ (permitWaiters k new s).messages = s.messages ∧ (permitWaiters k new s).dir = s.dir ∧ (permitWaiters k new s).cal = s.cal ∧ (permitWaiters k new s).meters = s.meters ∧ (permitWaiters k new s).channels = s.channels ∧ (permitWaiters k new s).tickets = s.tickets ∧ (permitWaiters k new s).watches = s.watches ∧ (permitWaiters k new s).sample = s.sample ∧ (permitWaiters k new s).trunk = s.trunk ∧ (permitWaiters k new s).params = s.params ∧ (permitWaiters k new s).mgt.load = s.mgt.load ∧ (∀ j, (permitWaiters k new s).channel j = s.channel j) ∧ (∀ j, (permitWaiters k new s).meter j = s.meter j) ∧ (∀ j, (permitWaiters k new s).row j = s.row j) ∧ (∀ j, (permitWaiters k new s).message j = s.message j) := by
  unfold permitWaiters; (try dsimp only); (refine ⟨?_, ?_, ?_, ?_, ?_, ?_, ?_, ?_, ?_, ?_, ?_, ?_, ?_, ?_, ?_, ?_, ?_, ?_, ?_, ?_⟩ <;> (try intro j) <;> (repeat' split) <;> first | (simp; done) | (simp [State.line, State.channel, State.meter, State.account, State.row, State.message, Management.load]; done) | rfl)

@[simp] theorem permitMeters_frame (k : Fin 8) (new : Permit) (s : State) :
    (permitMeters k new s).pending = s.pending ∧ (permitMeters k new s).inReset = s.inReset ∧ (permitMeters k new s).now = s.now ∧ (permitMeters k new s).key = s.key ∧ (permitMeters k new s).groups = s.groups ∧ (permitMeters k new s).messages = s.messages ∧ (permitMeters k new s).dir = s.dir ∧ (permitMeters k new s).accounts = s.accounts ∧ (permitMeters k new s).cal = s.cal ∧ (permitMeters k new s).queue = s.queue ∧ (permitMeters k new s).channels = s.channels ∧ (permitMeters k new s).tickets = s.tickets ∧ (permitMeters k new s).watches = s.watches ∧ (permitMeters k new s).sample = s.sample ∧ (permitMeters k new s).trunk = s.trunk ∧ (permitMeters k new s).mgt = s.mgt ∧ (permitMeters k new s).params = s.params ∧ (∀ j, (permitMeters k new s).channel j = s.channel j) ∧ (∀ j, (permitMeters k new s).account j = s.account j) ∧ (∀ j, (permitMeters k new s).row j = s.row j) ∧ (∀ j, (permitMeters k new s).message j = s.message j) := by
  unfold permitMeters
  exact ⟨foldl_keeps State.pending _ (fun _ _ => by first | (simp; done) | ((repeat' split) <;> first | (simp; done))) _ _,
    foldl_keeps State.inReset _ (fun _ _ => by first | (simp; done) | ((repeat' split) <;> first | (simp; done))) _ _,
    foldl_keeps State.now _ (fun _ _ => by first | (simp; done) | ((repeat' split) <;> first | (simp; done))) _ _,
    foldl_keeps State.key _ (fun _ _ => by first | (simp; done) | ((repeat' split) <;> first | (simp; done))) _ _,
    foldl_keeps State.groups _ (fun _ _ => by first | (simp; done) | ((repeat' split) <;> first | (simp; done))) _ _,
    foldl_keeps State.messages _ (fun _ _ => by first | (simp; done) | ((repeat' split) <;> first | (simp; done))) _ _,
    foldl_keeps State.dir _ (fun _ _ => by first | (simp; done) | ((repeat' split) <;> first | (simp; done))) _ _,
    foldl_keeps State.accounts _ (fun _ _ => by first | (simp; done) | ((repeat' split) <;> first | (simp; done))) _ _,
    foldl_keeps State.cal _ (fun _ _ => by first | (simp; done) | ((repeat' split) <;> first | (simp; done))) _ _,
    foldl_keeps State.queue _ (fun _ _ => by first | (simp; done) | ((repeat' split) <;> first | (simp; done))) _ _,
    foldl_keeps State.channels _ (fun _ _ => by first | (simp; done) | ((repeat' split) <;> first | (simp; done))) _ _,
    foldl_keeps State.tickets _ (fun _ _ => by first | (simp; done) | ((repeat' split) <;> first | (simp; done))) _ _,
    foldl_keeps State.watches _ (fun _ _ => by first | (simp; done) | ((repeat' split) <;> first | (simp; done))) _ _,
    foldl_keeps State.sample _ (fun _ _ => by first | (simp; done) | ((repeat' split) <;> first | (simp; done))) _ _,
    foldl_keeps State.trunk _ (fun _ _ => by first | (simp; done) | ((repeat' split) <;> first | (simp; done))) _ _,
    foldl_keeps State.mgt _ (fun _ _ => by first | (simp; done) | ((repeat' split) <;> first | (simp; done))) _ _,
    foldl_keeps State.params _ (fun _ _ => by first | (simp; done) | ((repeat' split) <;> first | (simp; done))) _ _,
    fun j => foldl_keeps (fun s : State => State.channel s j) _ (fun _ _ => by first | (simp; done) | ((repeat' split) <;> first | (simp; done))) _ _,
    fun j => foldl_keeps (fun s : State => State.account s j) _ (fun _ _ => by first | (simp; done) | ((repeat' split) <;> first | (simp; done))) _ _,
    fun j => foldl_keeps (fun s : State => State.row s j) _ (fun _ _ => by first | (simp; done) | ((repeat' split) <;> first | (simp; done))) _ _,
    fun j => foldl_keeps (fun s : State => State.message s j) _ (fun _ _ => by first | (simp; done) | ((repeat' split) <;> first | (simp; done))) _ _⟩

@[simp] theorem permitReport_frame (k : Fin 8) (new : Permit) (s : State) :
    (permitReport k new s).pending = s.pending ∧ (permitReport k new s).inReset = s.inReset ∧ (permitReport k new s).now = s.now ∧ (permitReport k new s).key = s.key ∧ (permitReport k new s).groups = s.groups ∧ (permitReport k new s).messages = s.messages ∧ (permitReport k new s).dir = s.dir ∧ (permitReport k new s).cal = s.cal ∧ (permitReport k new s).channels = s.channels ∧ (permitReport k new s).tickets = s.tickets ∧ (permitReport k new s).watches = s.watches ∧ (permitReport k new s).sample = s.sample ∧ (permitReport k new s).trunk = s.trunk ∧ (permitReport k new s).params = s.params ∧ (permitReport k new s).mgt.load = s.mgt.load ∧ (∀ j, (permitReport k new s).channel j = s.channel j) ∧ (∀ j, (permitReport k new s).row j = s.row j) ∧ (∀ j, (permitReport k new s).message j = s.message j) := by
  unfold permitReport; (try dsimp only); (refine ⟨?_, ?_, ?_, ?_, ?_, ?_, ?_, ?_, ?_, ?_, ?_, ?_, ?_, ?_, ?_, ?_, ?_, ?_⟩ <;> (try intro j) <;> (repeat' split) <;> first | (simp; done) | (simp [State.line, State.channel, State.meter, State.account, State.row, State.message, Management.load]; done) | rfl)

@[simp] theorem periodMeters_frame (q : Fin 8) (s : State) :
    (periodMeters q s).pending = s.pending ∧ (periodMeters q s).inReset = s.inReset ∧ (periodMeters q s).now = s.now ∧ (periodMeters q s).key = s.key ∧ (periodMeters q s).groups = s.groups ∧ (periodMeters q s).messages = s.messages ∧ (periodMeters q s).lines = s.lines ∧ (periodMeters q s).dir = s.dir ∧ (periodMeters q s).accounts = s.accounts ∧ (periodMeters q s).cal = s.cal ∧ (periodMeters q s).queue = s.queue ∧ (periodMeters q s).channels = s.channels ∧ (periodMeters q s).tickets = s.tickets ∧ (periodMeters q s).watches = s.watches ∧ (periodMeters q s).sample = s.sample ∧ (periodMeters q s).trunk = s.trunk ∧ (periodMeters q s).mgt = s.mgt ∧ (periodMeters q s).params = s.params ∧ (∀ j, (periodMeters q s).line j = s.line j) ∧ (∀ j, (periodMeters q s).channel j = s.channel j) ∧ (∀ j, (periodMeters q s).account j = s.account j) ∧ (∀ j, (periodMeters q s).row j = s.row j) ∧ (∀ j, (periodMeters q s).message j = s.message j) := by
  unfold periodMeters
  exact ⟨foldl_keeps State.pending _ (fun _ _ => by first | (simp; done) | ((repeat' split) <;> first | (simp; done))) _ _,
    foldl_keeps State.inReset _ (fun _ _ => by first | (simp; done) | ((repeat' split) <;> first | (simp; done))) _ _,
    foldl_keeps State.now _ (fun _ _ => by first | (simp; done) | ((repeat' split) <;> first | (simp; done))) _ _,
    foldl_keeps State.key _ (fun _ _ => by first | (simp; done) | ((repeat' split) <;> first | (simp; done))) _ _,
    foldl_keeps State.groups _ (fun _ _ => by first | (simp; done) | ((repeat' split) <;> first | (simp; done))) _ _,
    foldl_keeps State.messages _ (fun _ _ => by first | (simp; done) | ((repeat' split) <;> first | (simp; done))) _ _,
    foldl_keeps State.lines _ (fun _ _ => by first | (simp; done) | ((repeat' split) <;> first | (simp; done))) _ _,
    foldl_keeps State.dir _ (fun _ _ => by first | (simp; done) | ((repeat' split) <;> first | (simp; done))) _ _,
    foldl_keeps State.accounts _ (fun _ _ => by first | (simp; done) | ((repeat' split) <;> first | (simp; done))) _ _,
    foldl_keeps State.cal _ (fun _ _ => by first | (simp; done) | ((repeat' split) <;> first | (simp; done))) _ _,
    foldl_keeps State.queue _ (fun _ _ => by first | (simp; done) | ((repeat' split) <;> first | (simp; done))) _ _,
    foldl_keeps State.channels _ (fun _ _ => by first | (simp; done) | ((repeat' split) <;> first | (simp; done))) _ _,
    foldl_keeps State.tickets _ (fun _ _ => by first | (simp; done) | ((repeat' split) <;> first | (simp; done))) _ _,
    foldl_keeps State.watches _ (fun _ _ => by first | (simp; done) | ((repeat' split) <;> first | (simp; done))) _ _,
    foldl_keeps State.sample _ (fun _ _ => by first | (simp; done) | ((repeat' split) <;> first | (simp; done))) _ _,
    foldl_keeps State.trunk _ (fun _ _ => by first | (simp; done) | ((repeat' split) <;> first | (simp; done))) _ _,
    foldl_keeps State.mgt _ (fun _ _ => by first | (simp; done) | ((repeat' split) <;> first | (simp; done))) _ _,
    foldl_keeps State.params _ (fun _ _ => by first | (simp; done) | ((repeat' split) <;> first | (simp; done))) _ _,
    fun j => foldl_keeps (fun s : State => State.line s j) _ (fun _ _ => by first | (simp; done) | ((repeat' split) <;> first | (simp; done))) _ _,
    fun j => foldl_keeps (fun s : State => State.channel s j) _ (fun _ _ => by first | (simp; done) | ((repeat' split) <;> first | (simp; done))) _ _,
    fun j => foldl_keeps (fun s : State => State.account s j) _ (fun _ _ => by first | (simp; done) | ((repeat' split) <;> first | (simp; done))) _ _,
    fun j => foldl_keeps (fun s : State => State.row s j) _ (fun _ _ => by first | (simp; done) | ((repeat' split) <;> first | (simp; done))) _ _,
    fun j => foldl_keeps (fun s : State => State.message s j) _ (fun _ _ => by first | (simp; done) | ((repeat' split) <;> first | (simp; done))) _ _⟩

@[simp] theorem permitReports_frame (old : Fin 8) (s : State) :
    (permitReports old s).pending = s.pending ∧ (permitReports old s).inReset = s.inReset ∧ (permitReports old s).now = s.now ∧ (permitReports old s).key = s.key ∧ (permitReports old s).groups = s.groups ∧ (permitReports old s).messages = s.messages ∧ (permitReports old s).dir = s.dir ∧ (permitReports old s).cal = s.cal ∧ (permitReports old s).channels = s.channels ∧ (permitReports old s).tickets = s.tickets ∧ (permitReports old s).watches = s.watches ∧ (permitReports old s).sample = s.sample ∧ (permitReports old s).trunk = s.trunk ∧ (permitReports old s).params = s.params ∧ (permitReports old s).mgt.load = s.mgt.load ∧ (∀ j, (permitReports old s).channel j = s.channel j) ∧ (∀ j, (permitReports old s).row j = s.row j) ∧ (∀ j, (permitReports old s).message j = s.message j) := by
  unfold permitReports
  exact ⟨foldl_keeps State.pending _ (fun _ _ => by first | (simp; done) | ((repeat' split) <;> first | (simp; done))) _ _,
    foldl_keeps State.inReset _ (fun _ _ => by first | (simp; done) | ((repeat' split) <;> first | (simp; done))) _ _,
    foldl_keeps State.now _ (fun _ _ => by first | (simp; done) | ((repeat' split) <;> first | (simp; done))) _ _,
    foldl_keeps State.key _ (fun _ _ => by first | (simp; done) | ((repeat' split) <;> first | (simp; done))) _ _,
    foldl_keeps State.groups _ (fun _ _ => by first | (simp; done) | ((repeat' split) <;> first | (simp; done))) _ _,
    foldl_keeps State.messages _ (fun _ _ => by first | (simp; done) | ((repeat' split) <;> first | (simp; done))) _ _,
    foldl_keeps State.dir _ (fun _ _ => by first | (simp; done) | ((repeat' split) <;> first | (simp; done))) _ _,
    foldl_keeps State.cal _ (fun _ _ => by first | (simp; done) | ((repeat' split) <;> first | (simp; done))) _ _,
    foldl_keeps State.channels _ (fun _ _ => by first | (simp; done) | ((repeat' split) <;> first | (simp; done))) _ _,
    foldl_keeps State.tickets _ (fun _ _ => by first | (simp; done) | ((repeat' split) <;> first | (simp; done))) _ _,
    foldl_keeps State.watches _ (fun _ _ => by first | (simp; done) | ((repeat' split) <;> first | (simp; done))) _ _,
    foldl_keeps State.sample _ (fun _ _ => by first | (simp; done) | ((repeat' split) <;> first | (simp; done))) _ _,
    foldl_keeps State.trunk _ (fun _ _ => by first | (simp; done) | ((repeat' split) <;> first | (simp; done))) _ _,
    foldl_keeps State.params _ (fun _ _ => by first | (simp; done) | ((repeat' split) <;> first | (simp; done))) _ _,
    foldl_keeps (fun s : State => s.mgt.load) _ (fun _ _ => by first | (simp; done) | ((repeat' split) <;> first | (simp; done))) _ _,
    fun j => foldl_keeps (fun s : State => State.channel s j) _ (fun _ _ => by first | (simp; done) | ((repeat' split) <;> first | (simp; done))) _ _,
    fun j => foldl_keeps (fun s : State => State.row s j) _ (fun _ _ => by first | (simp; done) | ((repeat' split) <;> first | (simp; done))) _ _,
    fun j => foldl_keeps (fun s : State => State.message s j) _ (fun _ _ => by first | (simp; done) | ((repeat' split) <;> first | (simp; done))) _ _⟩

@[simp] theorem reevaluate_frame (s : State) :
    (reevaluate s).pending = s.pending ∧ (reevaluate s).inReset = s.inReset ∧ (reevaluate s).now = s.now ∧ (reevaluate s).key = s.key ∧ (reevaluate s).groups = s.groups ∧ (reevaluate s).messages = s.messages ∧ (reevaluate s).dir = s.dir ∧ (reevaluate s).channels = s.channels ∧ (reevaluate s).tickets = s.tickets ∧ (reevaluate s).watches = s.watches ∧ (reevaluate s).sample = s.sample ∧ (reevaluate s).trunk = s.trunk ∧ (reevaluate s).params = s.params ∧ (reevaluate s).mgt.load = s.mgt.load ∧ (∀ j, (reevaluate s).channel j = s.channel j) ∧ (∀ j, (reevaluate s).row j = s.row j) ∧ (∀ j, (reevaluate s).message j = s.message j) := by
  unfold reevaluate; (try dsimp only); (refine ⟨?_, ?_, ?_, ?_, ?_, ?_, ?_, ?_, ?_, ?_, ?_, ?_, ?_, ?_, ?_, ?_, ?_⟩ <;> (try intro j) <;> (repeat' split) <;> first | (simp; done) | (simp [State.line, State.channel, State.meter, State.account, State.row, State.message, Management.load]; done) | rfl)

@[simp] theorem recomputeDay_frame (s : State) :
    (recomputeDay s).pending = s.pending ∧ (recomputeDay s).inReset = s.inReset ∧ (recomputeDay s).now = s.now ∧ (recomputeDay s).key = s.key ∧ (recomputeDay s).groups = s.groups ∧ (recomputeDay s).messages = s.messages ∧ (recomputeDay s).lines = s.lines ∧ (recomputeDay s).dir = s.dir ∧ (recomputeDay s).accounts = s.accounts ∧ (recomputeDay s).meters = s.meters ∧ (recomputeDay s).queue = s.queue ∧ (recomputeDay s).channels = s.channels ∧ (recomputeDay s).tickets = s.tickets ∧ (recomputeDay s).watches = s.watches ∧ (recomputeDay s).sample = s.sample ∧ (recomputeDay s).trunk = s.trunk ∧ (recomputeDay s).mgt = s.mgt ∧ (recomputeDay s).params = s.params ∧ (∀ j, (recomputeDay s).line j = s.line j) ∧ (∀ j, (recomputeDay s).channel j = s.channel j) ∧ (∀ j, (recomputeDay s).meter j = s.meter j) ∧ (∀ j, (recomputeDay s).account j = s.account j) ∧ (∀ j, (recomputeDay s).row j = s.row j) ∧ (∀ j, (recomputeDay s).message j = s.message j) := by
  unfold recomputeDay; (try dsimp only); (refine ⟨?_, ?_, ?_, ?_, ?_, ?_, ?_, ?_, ?_, ?_, ?_, ?_, ?_, ?_, ?_, ?_, ?_, ?_, ?_, ?_, ?_, ?_, ?_, ?_⟩ <;> (try intro j) <;> (repeat' split) <;> first | (simp; done) | (simp [State.line, State.channel, State.meter, State.account, State.row, State.message, Management.load]; done) | rfl)

@[simp] theorem advanceClock_frame (s : State) :
    (advanceClock s).pending = s.pending ∧ (advanceClock s).inReset = s.inReset ∧ (advanceClock s).now = s.now ∧ (advanceClock s).key = s.key ∧ (advanceClock s).groups = s.groups ∧ (advanceClock s).messages = s.messages ∧ (advanceClock s).lines = s.lines ∧ (advanceClock s).dir = s.dir ∧ (advanceClock s).accounts = s.accounts ∧ (advanceClock s).meters = s.meters ∧ (advanceClock s).queue = s.queue ∧ (advanceClock s).channels = s.channels ∧ (advanceClock s).tickets = s.tickets ∧ (advanceClock s).watches = s.watches ∧ (advanceClock s).sample = s.sample ∧ (advanceClock s).trunk = s.trunk ∧ (advanceClock s).mgt = s.mgt ∧ (advanceClock s).params = s.params ∧ (∀ j, (advanceClock s).line j = s.line j) ∧ (∀ j, (advanceClock s).channel j = s.channel j) ∧ (∀ j, (advanceClock s).meter j = s.meter j) ∧ (∀ j, (advanceClock s).account j = s.account j) ∧ (∀ j, (advanceClock s).row j = s.row j) ∧ (∀ j, (advanceClock s).message j = s.message j) := by
  unfold advanceClock; (try dsimp only); (refine ⟨?_, ?_, ?_, ?_, ?_, ?_, ?_, ?_, ?_, ?_, ?_, ?_, ?_, ?_, ?_, ?_, ?_, ?_, ?_, ?_, ?_, ?_, ?_, ?_⟩ <;> (try intro j) <;> (repeat' split) <;> first | (simp; done) | (simp [State.line, State.channel, State.meter, State.account, State.row, State.message, Management.load]; done) | rfl)

@[simp] theorem boundaryMeters_frame (p : Fin 8) (order : List (Fin 24)) (s : State) :
    (boundaryMeters p order s).pending = s.pending ∧ (boundaryMeters p order s).inReset = s.inReset ∧ (boundaryMeters p order s).now = s.now ∧ (boundaryMeters p order s).key = s.key ∧ (boundaryMeters p order s).groups = s.groups ∧ (boundaryMeters p order s).messages = s.messages ∧ (boundaryMeters p order s).dir = s.dir ∧ (boundaryMeters p order s).cal = s.cal ∧ (boundaryMeters p order s).queue = s.queue ∧ (boundaryMeters p order s).watches = s.watches ∧ (boundaryMeters p order s).sample = s.sample ∧ (boundaryMeters p order s).params = s.params ∧ (boundaryMeters p order s).mgt.load = s.mgt.load ∧ (boundaryMeters p order s).trunk.counter = s.trunk.counter ∧ (boundaryMeters p order s).trunk.nd = s.trunk.nd ∧ (boundaryMeters p order s).trunk.counters = s.trunk.counters ∧ (boundaryMeters p order s).trunk.up = s.trunk.up ∧ (∀ j, (boundaryMeters p order s).message j = s.message j) := by
  unfold boundaryMeters
  exact ⟨foldl_keeps State.pending _ (fun _ _ => by first | (simp; done) | ((repeat' split) <;> first | (simp; done))) _ _,
    foldl_keeps State.inReset _ (fun _ _ => by first | (simp; done) | ((repeat' split) <;> first | (simp; done))) _ _,
    foldl_keeps State.now _ (fun _ _ => by first | (simp; done) | ((repeat' split) <;> first | (simp; done))) _ _,
    foldl_keeps State.key _ (fun _ _ => by first | (simp; done) | ((repeat' split) <;> first | (simp; done))) _ _,
    foldl_keeps State.groups _ (fun _ _ => by first | (simp; done) | ((repeat' split) <;> first | (simp; done))) _ _,
    foldl_keeps State.messages _ (fun _ _ => by first | (simp; done) | ((repeat' split) <;> first | (simp; done))) _ _,
    foldl_keeps State.dir _ (fun _ _ => by first | (simp; done) | ((repeat' split) <;> first | (simp; done))) _ _,
    foldl_keeps State.cal _ (fun _ _ => by first | (simp; done) | ((repeat' split) <;> first | (simp; done))) _ _,
    foldl_keeps State.queue _ (fun _ _ => by first | (simp; done) | ((repeat' split) <;> first | (simp; done))) _ _,
    foldl_keeps State.watches _ (fun _ _ => by first | (simp; done) | ((repeat' split) <;> first | (simp; done))) _ _,
    foldl_keeps State.sample _ (fun _ _ => by first | (simp; done) | ((repeat' split) <;> first | (simp; done))) _ _,
    foldl_keeps State.params _ (fun _ _ => by first | (simp; done) | ((repeat' split) <;> first | (simp; done))) _ _,
    foldl_keeps (fun s : State => s.mgt.load) _ (fun _ _ => by first | (simp; done) | ((repeat' split) <;> first | (simp; done))) _ _,
    foldl_keeps (fun s : State => s.trunk.counter) _ (fun _ _ => by first | (simp; done) | ((repeat' split) <;> first | (simp; done))) _ _,
    foldl_keeps (fun s : State => s.trunk.nd) _ (fun _ _ => by first | (simp; done) | ((repeat' split) <;> first | (simp; done))) _ _,
    foldl_keeps (fun s : State => s.trunk.counters) _ (fun _ _ => by first | (simp; done) | ((repeat' split) <;> first | (simp; done))) _ _,
    foldl_keeps (fun s : State => s.trunk.up) _ (fun _ _ => by first | (simp; done) | ((repeat' split) <;> first | (simp; done))) _ _,
    fun j => foldl_keeps (fun s : State => State.message s j) _ (fun _ _ => by first | (simp; done) | ((repeat' split) <;> first | (simp; done))) _ _⟩

@[simp] theorem secondBoundary_frame (order : List (Fin 24)) (s : State) :
    (secondBoundary order s).pending = s.pending ∧ (secondBoundary order s).inReset = s.inReset ∧ (secondBoundary order s).now = s.now ∧ (secondBoundary order s).key = s.key ∧ (secondBoundary order s).groups = s.groups ∧ (secondBoundary order s).messages = s.messages ∧ (secondBoundary order s).dir = s.dir ∧ (secondBoundary order s).watches = s.watches ∧ (secondBoundary order s).sample = s.sample ∧ (secondBoundary order s).params = s.params ∧ (secondBoundary order s).mgt.load = s.mgt.load ∧ (secondBoundary order s).trunk.counter = s.trunk.counter ∧ (secondBoundary order s).trunk.nd = s.trunk.nd ∧ (secondBoundary order s).trunk.counters = s.trunk.counters ∧ (secondBoundary order s).trunk.up = s.trunk.up ∧ (∀ j, (secondBoundary order s).message j = s.message j) := by
  unfold secondBoundary; (try dsimp only); (refine ⟨?_, ?_, ?_, ?_, ?_, ?_, ?_, ?_, ?_, ?_, ?_, ?_, ?_, ?_, ?_, ?_⟩ <;> (try intro j) <;> (repeat' split) <;> first | (simp; done) | (simp [State.line, State.channel, State.meter, State.account, State.row, State.message, Management.load]; done) | rfl)

@[simp] theorem flagMeters_frame (s : State) :
    (flagMeters s).pending = s.pending ∧ (flagMeters s).inReset = s.inReset ∧ (flagMeters s).now = s.now ∧ (flagMeters s).key = s.key ∧ (flagMeters s).groups = s.groups ∧ (flagMeters s).messages = s.messages ∧ (flagMeters s).lines = s.lines ∧ (flagMeters s).dir = s.dir ∧ (flagMeters s).accounts = s.accounts ∧ (flagMeters s).cal = s.cal ∧ (flagMeters s).queue = s.queue ∧ (flagMeters s).channels = s.channels ∧ (flagMeters s).tickets = s.tickets ∧ (flagMeters s).watches = s.watches ∧ (flagMeters s).sample = s.sample ∧ (flagMeters s).trunk = s.trunk ∧ (flagMeters s).mgt = s.mgt ∧ (flagMeters s).params = s.params ∧ (∀ j, (flagMeters s).line j = s.line j) ∧ (∀ j, (flagMeters s).channel j = s.channel j) ∧ (∀ j, (flagMeters s).account j = s.account j) ∧ (∀ j, (flagMeters s).row j = s.row j) ∧ (∀ j, (flagMeters s).message j = s.message j) := by
  unfold flagMeters; (try dsimp only); (refine ⟨?_, ?_, ?_, ?_, ?_, ?_, ?_, ?_, ?_, ?_, ?_, ?_, ?_, ?_, ?_, ?_, ?_, ?_, ?_, ?_, ?_, ?_, ?_⟩ <;> (try intro j) <;> (repeat' split) <;> first | (simp; done) | (simp [State.line, State.channel, State.meter, State.account, State.row, State.message, Management.load]; done) | rfl)

@[simp] theorem setClock_frame (k : Clock) (s : State) :
    (setClock k s).pending = s.pending ∧ (setClock k s).inReset = s.inReset ∧ (setClock k s).now = s.now ∧ (setClock k s).key = s.key ∧ (setClock k s).groups = s.groups ∧ (setClock k s).messages = s.messages ∧ (setClock k s).dir = s.dir ∧ (setClock k s).channels = s.channels ∧ (setClock k s).tickets = s.tickets ∧ (setClock k s).watches = s.watches ∧ (setClock k s).sample = s.sample ∧ (setClock k s).trunk = s.trunk ∧ (setClock k s).params = s.params ∧ (setClock k s).mgt.load = s.mgt.load ∧ (∀ j, (setClock k s).channel j = s.channel j) ∧ (∀ j, (setClock k s).row j = s.row j) ∧ (∀ j, (setClock k s).message j = s.message j) := by
  unfold setClock; (try dsimp only); (refine ⟨?_, ?_, ?_, ?_, ?_, ?_, ?_, ?_, ?_, ?_, ?_, ?_, ?_, ?_, ?_, ?_, ?_⟩ <;> (try intro j) <;> (repeat' split) <;> first | (simp; done) | (simp [State.line, State.channel, State.meter, State.account, State.row, State.message, Management.load]; done) | rfl)

@[simp] theorem loadPermit_frame (p k : Fin 8) (x : Permit) (s : State) :
    (loadPermit p k x s).pending = s.pending ∧ (loadPermit p k x s).inReset = s.inReset ∧ (loadPermit p k x s).now = s.now ∧ (loadPermit p k x s).key = s.key ∧ (loadPermit p k x s).groups = s.groups ∧ (loadPermit p k x s).messages = s.messages ∧ (loadPermit p k x s).dir = s.dir ∧ (loadPermit p k x s).channels = s.channels ∧ (loadPermit p k x s).tickets = s.tickets ∧ (loadPermit p k x s).watches = s.watches ∧ (loadPermit p k x s).sample = s.sample ∧ (loadPermit p k x s).trunk = s.trunk ∧ (loadPermit p k x s).params = s.params ∧ (loadPermit p k x s).mgt.load = s.mgt.load ∧ (∀ j, (loadPermit p k x s).channel j = s.channel j) ∧ (∀ j, (loadPermit p k x s).row j = s.row j) ∧ (∀ j, (loadPermit p k x s).message j = s.message j) := by
  unfold loadPermit; (try dsimp only); (refine ⟨?_, ?_, ?_, ?_, ?_, ?_, ?_, ?_, ?_, ?_, ?_, ?_, ?_, ?_, ?_, ?_, ?_⟩ <;> (try intro j) <;> (repeat' split) <;> first | (simp; done) | (simp [State.line, State.channel, State.meter, State.account, State.row, State.message, Management.load]; done) | rfl)

end Sys2Proof.Machine
end

