-- ==== Sys2Proof/Laws/Commands.lean ====
section
/-! SUPPORT. How a step, a running part, a due timer and a command block act, said once; and what the field decoders of Operands.lean answer. -/

namespace Sys2Proof.Machine

open Sys2Proof

/-! ## A running part and its timers -/

theorem whenRunning_run {s : State} (h : s.inReset = false) (f : State → State) : whenRunning s f = .next (f s) := by
  simp only [whenRunning, h, Bool.false_eq_true, if_false]

theorem whenRunning_held {s : State} (h : s.inReset = true) (f : State → State) : whenRunning s f = .next s := by
  simp only [whenRunning, h, if_true]

/-- What holds of every state that a command can leave holds after `whenRunning`. -/
theorem whenRunning_keeps {P : State → Prop} {s t : State} {f : State → State} (hs : P s) (hf : s.inReset = false → P (f s))
    (h : whenRunning s f = .next t) : P t := by
  simp only [whenRunning, Host.Outcome.next.injEq] at h
  subst h
  split
  · exact hs
  · next hr => exact hf (by simpa using hr)

@[simp] theorem whenDue_none (s : State) (f : State → State) : whenDue none s f = s := rfl

@[simp] theorem whenDue_some (d : Nat) (s : State) (f : State → State) : whenDue (some d) s f = f { s with now := max s.now d } := rfl

/-- What holds before an expiry and after its effect holds after `whenDue`. -/
theorem whenDue_keeps {P : State → Prop} {t : Timer} {s : State} {f : State → State} (hs : P s)
    (hf : ∀ d, t = some d → P (f { s with now := max s.now d })) : P (whenDue t s f) := by
  cases t with
  | none => exact hs
  | some d => exact hf d rfl

/-! ## Command blocks -/

theorem State.Ready.inReset {s : State} (h : s.Ready) : s.inReset = false := h.1

theorem State.Ready.held {s : State} (h : s.Ready) : s.mgt.held = none := h.2.1

theorem State.Ready.load {s : State} (h : s.Ready) : s.mgt.load < 16 := by
  simpa [Management.load, h.held] using h.2.2

theorem State.Ready.replyFull {s : State} (h : s.Ready) : s.replyFull = false := decide_eq_false (Nat.not_le.mpr h.load)

/-- A command row in a part that is ready: its owner acts, and the management unit does with the answer what it asks. -/
theorem command_ready (tag code : Byte) (ps : List Byte) (own : State → State × Answer) (s : State) (h : s.Ready) :
    command tag code ps own s = .next (finish tag code (own s)) := by
  simp [command, whenRunning, h.inReset, takeBlock, h.held, takeFresh, h.replyFull]

theorem finish_reply (tag code : Byte) (t : State) (r : Result) (data : List Byte) :
    finish tag code (t, .reply r data) = t.replied tag code r data := rfl

theorem finish_done (tag code : Byte) (t : State) : finish tag code (t, done) = t.replied tag code .done [] := rfl

theorem finish_badValue (tag code : Byte) (t : State) : finish tag code (t, badValue) = t.replied tag code .badValue [] := rfl

theorem finish_badState (tag code : Byte) (t : State) : finish tag code (t, badState) = t.replied tag code .badState [] := rfl

theorem finish_busy (tag code : Byte) (t : State) : finish tag code (t, busy) = t.replied tag code .busy [] := rfl

theorem finish_isProtected (tag code : Byte) (t : State) : finish tag code (t, isProtected) = t.replied tag code .isProtected [] := rfl

theorem finish_writing (tag code : Byte) (t : State) :
    finish tag code (t, .writing) = { t with mgt := { t.mgt with writing := some (tag, code) } } := rfl

theorem finish_partly (tag code : Byte) (t : State) (n : Nat) (bs : List Byte) :
    finish tag code (t, .partly n bs) = { t with mgt := { t.mgt with held := some ⟨tag, code, n, bs⟩ } } := rfl

/-! ## Field decoders -/

theorem finOf_eq {n : Nat} {b : Byte} {k : Fin n} (h : k.val = b.toNat) : finOf n b = some k := by
  simp only [finOf, ← h, k.isLt, dif_pos]

theorem finOf_none {n : Nat} {b : Byte} (h : n ≤ b.toNat) : finOf n b = none := by
  simp only [finOf, Nat.not_lt.mpr h, dif_neg, not_false_eq_true]

theorem flagOf_none {b : Byte} (h : 1 < b.toNat) : flagOf b = none := by
  have h0 : b ≠ 0 := by rintro rfl; simp at h
  have h1 : b ≠ 1 := by rintro rfl; simp at h
  simp only [flagOf, h0, h1, if_false]

theorem flagOf_some {b : Byte} (h : b.toNat ≤ 1) : flagOf b = some (decide (b = 1)) := by
  rcases Nat.le_one_iff_eq_zero_or_eq_one.mp h with h | h
  · have : b = 0 := BitVec.eq_of_toNat_eq h
    subst this; rfl
  · have : b = 1 := BitVec.eq_of_toNat_eq h
    subst this; rfl

theorem channelOf_eq {b : Byte} {c : Fin 24} (h : c.val + 1 = b.toNat) : channelOf b = some c := by
  have h0 : b ≠ 0 := by rintro rfl; simp at h
  have hc : b.toNat - 1 = c.val := by omega
  simp only [channelOf, hc, c.isLt, dif_pos, h0, if_false]

theorem channelOf_none {b : Byte} (h : b = 0 ∨ 24 < b.toNat) : channelOf b = none := by
  unfold channelOf
  split
  · rcases h with h | h
    · simp [h]
    · omega
  · rfl

theorem indexOf_eq {h : Half} {k : Fin 1024} (e : k.val = h.toNat) : indexOf h = some k := by
  simp only [indexOf, ← e, k.isLt, dif_pos]

theorem indexOf_none {h : Half} (e : 1024 ≤ h.toNat) : indexOf h = none := by
  simp only [indexOf, Nat.not_lt.mpr e, dif_neg, not_false_eq_true]

/-- The first `n` of a list padded with zeros to `n` bytes are its own when it is that long. -/
theorem zeroTo_self {cs : List Byte} {n : Nat} (h : cs.length = n) : zeroTo n cs = cs := by
  simp [zeroTo, ← h]

theorem zeroTo_length (n : Nat) (cs : List Byte) : (zeroTo n cs).length = n := by
  simp [zeroTo]

end Sys2Proof.Machine
end

