-- ==== Sys2Proof/Laws/LineFrames.lean ====
section
/-! SUPPORT. The frame of every shared operation of SignOn.lean, Lines.lean, Directory.lean, Accounts.lean, Tickets.lean and Monitor.lean. -/

set_option linter.all false

namespace Sys2Proof.Machine

open Sys2Proof

@[simp] theorem startLookup_frame (l : Fin 32) (s : State) :
    (startLookup l s).pending = s.pending ∧ (startLookup l s).inReset = s.inReset ∧ (startLookup l s).now = s.now ∧ (startLookup l s).key = s.key ∧ (startLookup l s).groups = s.groups ∧ (startLookup l s).messages = s.messages ∧ (startLookup l s).dir = s.dir ∧ (startLookup l s).accounts = s.accounts ∧ (startLookup l s).cal = s.cal ∧ (startLookup l s).meters = s.meters ∧ (startLookup l s).queue = s.queue ∧ (startLookup l s).channels = s.channels ∧ (startLookup l s).tickets = s.tickets ∧ (startLookup l s).watches = s.watches ∧ (startLookup l s).sample = s.sample ∧ (startLookup l s).trunk = s.trunk ∧ (startLookup l s).mgt = s.mgt ∧ (startLookup l s).params = s.params ∧ (∀ j, (startLookup l s).channel j = s.channel j) ∧ (∀ j, (startLookup l s).meter j = s.meter j) ∧ (∀ j, (startLookup l s).account j = s.account j) ∧ (∀ j, (startLookup l s).row j = s.row j) ∧ (∀ j, (startLookup l s).message j = s.message j) := by
  unfold startLookup; (try dsimp only); (refine ⟨?_, ?_, ?_, ?_, ?_, ?_, ?_, ?_, ?_, ?_, ?_, ?_, ?_, ?_, ?_, ?_, ?_, ?_, ?_, ?_, ?_, ?_, ?_⟩ <;> (try intro j) <;> (repeat' split) <;> first | (simp; done) | (simp [State.line, State.channel, State.meter, State.account, State.row, State.message, Management.load]; done) | rfl)

@[simp] theorem takeUserChar_frame (l : Fin 32) (c : Byte) (s : State) :
    (takeUserChar l c s).pending = s.pending ∧ (takeUserChar l c s).inReset = s.inReset ∧ (takeUserChar l c s).now = s.now ∧ (takeUserChar l c s).key = s.key ∧ (takeUserChar l c s).groups = s.groups ∧ (takeUserChar l c s).messages = s.messages ∧ (takeUserChar l c s).dir = s.dir ∧ (takeUserChar l c s).accounts = s.accounts ∧ (takeUserChar l c s).cal = s.cal ∧ (takeUserChar l c s).meters = s.meters ∧ (takeUserChar l c s).queue = s.queue ∧ (takeUserChar l c s).channels = s.channels ∧ (takeUserChar l c s).tickets = s.tickets ∧ (takeUserChar l c s).watches = s.watches ∧ (takeUserChar l c s).sample = s.sample ∧ (takeUserChar l c s).trunk = s.trunk ∧ (takeUserChar l c s).mgt = s.mgt ∧ (takeUserChar l c s).params = s.params ∧ (∀ j, (takeUserChar l c s).channel j = s.channel j) ∧ (∀ j, (takeUserChar l c s).meter j = s.meter j) ∧ (∀ j, (takeUserChar l c s).account j = s.account j) ∧ (∀ j, (takeUserChar l c s).row j = s.row j) ∧ (∀ j, (takeUserChar l c s).message j = s.message j) := by
  unfold takeUserChar; (try dsimp only); (refine ⟨?_, ?_, ?_, ?_, ?_, ?_, ?_, ?_, ?_, ?_, ?_, ?_, ?_, ?_, ?_, ?_, ?_, ?_, ?_, ?_, ?_, ?_, ?_⟩ <;> (try intro j) <;> (repeat' split) <;> first | (simp; done) | (simp [State.line, State.channel, State.meter, State.account, State.row, State.message, Management.load]; done) | rfl)

@[simp] theorem takePasswordChar_frame (l : Fin 32) (c : Byte) (s : State) :
    (takePasswordChar l c s).pending = s.pending ∧ (takePasswordChar l c s).inReset = s.inReset ∧ (takePasswordChar l c s).now = s.now ∧ (takePasswordChar l c s).key = s.key ∧ (takePasswordChar l c s).groups = s.groups ∧ (takePasswordChar l c s).messages = s.messages ∧ (takePasswordChar l c s).dir = s.dir ∧ (takePasswordChar l c s).accounts = s.accounts ∧ (takePasswordChar l c s).cal = s.cal ∧ (takePasswordChar l c s).meters = s.meters ∧ (takePasswordChar l c s).queue = s.queue ∧ (takePasswordChar l c s).channels = s.channels ∧ (takePasswordChar l c s).tickets = s.tickets ∧ (takePasswordChar l c s).watches = s.watches ∧ (takePasswordChar l c s).sample = s.sample ∧ (takePasswordChar l c s).trunk = s.trunk ∧ (takePasswordChar l c s).mgt = s.mgt ∧ (takePasswordChar l c s).params = s.params ∧ (∀ j, (takePasswordChar l c s).channel j = s.channel j) ∧ (∀ j, (takePasswordChar l c s).meter j = s.meter j) ∧ (∀ j, (takePasswordChar l c s).account j = s.account j) ∧ (∀ j, (takePasswordChar l c s).row j = s.row j) ∧ (∀ j, (takePasswordChar l c s).message j = s.message j) := by
  unfold takePasswordChar; (try dsimp only); (refine ⟨?_, ?_, ?_, ?_, ?_, ?_, ?_, ?_, ?_, ?_, ?_, ?_, ?_, ?_, ?_, ?_, ?_, ?_, ?_, ?_, ?_, ?_, ?_⟩ <;> (try intro j) <;> (repeat' split) <;> first | (simp; done) | (simp [State.line, State.channel, State.meter, State.account, State.row, State.message, Management.load]; done) | rfl)

@[simp] theorem dialogueChar_frame (l : Fin 32) (c : Byte) (s : State) :
    (dialogueChar l c s).pending = s.pending ∧ (dialogueChar l c s).inReset = s.inReset ∧ (dialogueChar l c s).now = s.now ∧ (dialogueChar l c s).key = s.key ∧ (dialogueChar l c s).groups = s.groups ∧ (dialogueChar l c s).messages = s.messages ∧ (dialogueChar l c s).dir = s.dir ∧ (dialogueChar l c s).accounts = s.accounts ∧ (dialogueChar l c s).cal = s.cal ∧ (dialogueChar l c s).meters = s.meters ∧ (dialogueChar l c s).queue = s.queue ∧ (dialogueChar l c s).channels = s.channels ∧ (dialogueChar l c s).tickets = s.tickets ∧ (dialogueChar l c s).watches = s.watches ∧ (dialogueChar l c s).sample = s.sample ∧ (dialogueChar l c s).trunk = s.trunk ∧ (dialogueChar l c s).mgt = s.mgt ∧ (dialogueChar l c s).params = s.params ∧ (∀ j, (dialogueChar l c s).channel j = s.channel j) ∧ (∀ j, (dialogueChar l c s).meter j = s.meter j) ∧ (∀ j, (dialogueChar l c s).account j = s.account j) ∧ (∀ j, (dialogueChar l c s).row j = s.row j) ∧ (∀ j, (dialogueChar l c s).message j = s.message j) := by
  unfold dialogueChar; (try dsimp only); (refine ⟨?_, ?_, ?_, ?_, ?_, ?_, ?_, ?_, ?_, ?_, ?_, ?_, ?_, ?_, ?_, ?_, ?_, ?_, ?_, ?_, ?_, ?_, ?_⟩ <;> (try intro j) <;> (repeat' split) <;> first | (simp; done) | (simp [State.line, State.channel, State.meter, State.account, State.row, State.message, Management.load]; done) | rfl)

@[simp] theorem beginDialogue_frame (l : Fin 32) (s : State) :
    (beginDialogue l s).pending = s.pending ∧ (beginDialogue l s).inReset = s.inReset ∧ (beginDialogue l s).now = s.now ∧ (beginDialogue l s).key = s.key ∧ (beginDialogue l s).groups = s.groups ∧ (beginDialogue l s).messages = s.messages ∧ (beginDialogue l s).dir = s.dir ∧ (beginDialogue l s).accounts = s.accounts ∧ (beginDialogue l s).cal = s.cal ∧ (beginDialogue l s).meters = s.meters ∧ (beginDialogue l s).queue = s.queue ∧ (beginDialogue l s).channels = s.channels ∧ (beginDialogue l s).tickets = s.tickets ∧ (beginDialogue l s).watches = s.watches ∧ (beginDialogue l s).sample = s.sample ∧ (beginDialogue l s).trunk = s.trunk ∧ (beginDialogue l s).mgt = s.mgt ∧ (beginDialogue l s).params = s.params ∧ (∀ j, (beginDialogue l s).channel j = s.channel j) ∧ (∀ j, (beginDialogue l s).meter j = s.meter j) ∧ (∀ j, (beginDialogue l s).account j = s.account j) ∧ (∀ j, (beginDialogue l s).row j = s.row j) ∧ (∀ j, (beginDialogue l s).message j = s.message j) := by
  unfold beginDialogue; (try dsimp only); (refine ⟨?_, ?_, ?_, ?_, ?_, ?_, ?_, ?_, ?_, ?_, ?_, ?_, ?_, ?_, ?_, ?_, ?_, ?_, ?_, ?_, ?_, ?_, ?_⟩ <;> (try intro j) <;> (repeat' split) <;> first | (simp; done) | (simp [State.line, State.channel, State.meter, State.account, State.row, State.message, Management.load]; done) | rfl)

@[simp] theorem recordFailure_frame (i : Nat) (s : State) :
    (recordFailure i s).pending = s.pending ∧ (recordFailure i s).inReset = s.inReset ∧ (recordFailure i s).now = s.now ∧ (recordFailure i s).key = s.key ∧ (recordFailure i s).groups = s.groups ∧ (recordFailure i s).messages = s.messages ∧ (recordFailure i s).lines = s.lines ∧ (recordFailure i s).accounts = s.accounts ∧ (recordFailure i s).cal = s.cal ∧ (recordFailure i s).meters = s.meters ∧ (recordFailure i s).queue = s.queue ∧ (recordFailure i s).channels = s.channels ∧ (recordFailure i s).tickets = s.tickets ∧ (recordFailure i s).watches = s.watches ∧ (recordFailure i s).sample = s.sample ∧ (recordFailure i s).trunk = s.trunk ∧ (recordFailure i s).mgt = s.mgt ∧ (recordFailure i s).params = s.params ∧ (∀ j, (recordFailure i s).line j = s.line j) ∧ (∀ j, (recordFailure i s).channel j = s.channel j) ∧ (∀ j, (recordFailure i s).meter j = s.meter j) ∧ (∀ j, (recordFailure i s).account j = s.account j) ∧ (∀ j, (recordFailure i s).row j = s.row j) ∧ (∀ j, (recordFailure i s).message j = s.message j) := by
  unfold recordFailure; (try dsimp only); (refine ⟨?_, ?_, ?_, ?_, ?_, ?_, ?_, ?_, ?_, ?_, ?_, ?_, ?_, ?_, ?_, ?_, ?_, ?_, ?_, ?_, ?_, ?_, ?_, ?_⟩ <;> (try intro j) <;> (repeat' split) <;> first | (simp; done) | (simp [State.line, State.channel, State.meter, State.account, State.row, State.message, Management.load]; done) | rfl)

@[simp] theorem resetFailures_frame (i : Nat) (s : State) :
    (resetFailures i s).pending = s.pending ∧ (resetFailures i s).inReset = s.inReset ∧ (resetFailures i s).now = s.now ∧ (resetFailures i s).key = s.key ∧ (resetFailures i s).groups = s.groups ∧ (resetFailures i s).messages = s.messages ∧ (resetFailures i s).lines = s.lines ∧ (resetFailures i s).accounts = s.accounts ∧ (resetFailures i s).cal = s.cal ∧ (resetFailures i s).meters = s.meters ∧ (resetFailures i s).queue = s.queue ∧ (resetFailures i s).channels = s.channels ∧ (resetFailures i s).tickets = s.tickets ∧ (resetFailures i s).watches = s.watches ∧ (resetFailures i s).sample = s.sample ∧ (resetFailures i s).trunk = s.trunk ∧ (resetFailures i s).mgt = s.mgt ∧ (resetFailures i s).params = s.params ∧ (∀ j, (resetFailures i s).line j = s.line j) ∧ (∀ j, (resetFailures i s).channel j = s.channel j) ∧ (∀ j, (resetFailures i s).meter j = s.meter j) ∧ (∀ j, (resetFailures i s).account j = s.account j) ∧ (∀ j, (resetFailures i s).row j = s.row j) ∧ (∀ j, (resetFailures i s).message j = s.message j) := by
  unfold resetFailures; (try dsimp only); (refine ⟨?_, ?_, ?_, ?_, ?_, ?_, ?_, ?_, ?_, ?_, ?_, ?_, ?_, ?_, ?_, ?_, ?_, ?_, ?_, ?_, ?_, ?_, ?_, ?_⟩ <;> (try intro j) <;> (repeat' split) <;> first | (simp; done) | (simp [State.line, State.channel, State.meter, State.account, State.row, State.message, Management.load]; done) | rfl)

@[simp] theorem countAttempt_frame (l : Fin 32) (s : State) :
    (countAttempt l s).pending = s.pending ∧ (countAttempt l s).inReset = s.inReset ∧ (countAttempt l s).now = s.now ∧ (countAttempt l s).key = s.key ∧ (countAttempt l s).groups = s.groups ∧ (countAttempt l s).messages = s.messages ∧ (countAttempt l s).dir = s.dir ∧ (countAttempt l s).accounts = s.accounts ∧ (countAttempt l s).cal = s.cal ∧ (countAttempt l s).meters = s.meters ∧ (countAttempt l s).queue = s.queue ∧ (countAttempt l s).channels = s.channels ∧ (countAttempt l s).tickets = s.tickets ∧ (countAttempt l s).watches = s.watches ∧ (countAttempt l s).sample = s.sample ∧ (countAttempt l s).trunk = s.trunk ∧ (countAttempt l s).mgt = s.mgt ∧ (countAttempt l s).params = s.params ∧ (∀ j, (countAttempt l s).channel j = s.channel j) ∧ (∀ j, (countAttempt l s).meter j = s.meter j) ∧ (∀ j, (countAttempt l s).account j = s.account j) ∧ (∀ j, (countAttempt l s).row j = s.row j) ∧ (∀ j, (countAttempt l s).message j = s.message j) := by
  unfold countAttempt; (try dsimp only); (refine ⟨?_, ?_, ?_, ?_, ?_, ?_, ?_, ?_, ?_, ?_, ?_, ?_, ?_, ?_, ?_, ?_, ?_, ?_, ?_, ?_, ?_, ?_, ?_⟩ <;> (try intro j) <;> (repeat' split) <;> first | (simp; done) | (simp [State.line, State.channel, State.meter, State.account, State.row, State.message, Management.load]; done) | rfl)

@[simp] theorem afterRefusedAttempt_frame (l : Fin 32) (s : State) :
    (afterRefusedAttempt l s).pending = s.pending ∧ (afterRefusedAttempt l s).inReset = s.inReset ∧ (afterRefusedAttempt l s).now = s.now ∧ (afterRefusedAttempt l s).key = s.key ∧ (afterRefusedAttempt l s).groups = s.groups ∧ (afterRefusedAttempt l s).messages = s.messages ∧ (afterRefusedAttempt l s).dir = s.dir ∧ (afterRefusedAttempt l s).accounts = s.accounts ∧ (afterRefusedAttempt l s).cal = s.cal ∧ (afterRefusedAttempt l s).meters = s.meters ∧ (afterRefusedAttempt l s).queue = s.queue ∧ (afterRefusedAttempt l s).channels = s.channels ∧ (afterRefusedAttempt l s).tickets = s.tickets ∧ (afterRefusedAttempt l s).watches = s.watches ∧ (afterRefusedAttempt l s).sample = s.sample ∧ (afterRefusedAttempt l s).trunk = s.trunk ∧ (afterRefusedAttempt l s).params = s.params ∧ (afterRefusedAttempt l s).mgt.load = s.mgt.load ∧ (∀ j, (afterRefusedAttempt l s).channel j = s.channel j) ∧ (∀ j, (afterRefusedAttempt l s).meter j = s.meter j) ∧ (∀ j, (afterRefusedAttempt l s).account j = s.account j) ∧ (∀ j, (afterRefusedAttempt l s).row j = s.row j) ∧ (∀ j, (afterRefusedAttempt l s).message j = s.message j) := by
  unfold afterRefusedAttempt; (try dsimp only); (refine ⟨?_, ?_, ?_, ?_, ?_, ?_, ?_, ?_, ?_, ?_, ?_, ?_, ?_, ?_, ?_, ?_, ?_, ?_, ?_, ?_, ?_, ?_, ?_⟩ <;> (try intro j) <;> (repeat' split) <;> first | (simp; done) | (simp [State.line, State.channel, State.meter, State.account, State.row, State.message, Management.load]; done) | rfl)

@[simp] theorem refusePassword_frame (l : Fin 32) (found : Option Nat) (s : State) :
    (refusePassword l found s).pending = s.pending ∧ (refusePassword l found s).inReset = s.inReset ∧ (refusePassword l found s).now = s.now ∧ (refusePassword l found s).key = s.key ∧ (refusePassword l found s).groups = s.groups ∧ (refusePassword l found s).messages = s.messages ∧ (refusePassword l found s).accounts = s.accounts ∧ (refusePassword l found s).cal = s.cal ∧ (refusePassword l found s).meters = s.meters ∧ (refusePassword l found s).queue = s.queue ∧ (refusePassword l found s).channels = s.channels ∧ (refusePassword l found s).tickets = s.tickets ∧ (refusePassword l found s).watches = s.watches ∧ (refusePassword l found s).sample = s.sample ∧ (refusePassword l found s).trunk = s.trunk ∧ (refusePassword l found s).params = s.params ∧ (refusePassword l found s).mgt.load = s.mgt.load ∧ (∀ j, (refusePassword l found s).channel j = s.channel j) ∧ (∀ j, (refusePassword l found s).meter j = s.meter j) ∧ (∀ j, (refusePassword l found s).account j = s.account j) ∧ (∀ j, (refusePassword l found s).row j = s.row j) ∧ (∀ j, (refusePassword l found s).message j = s.message j) := by
  unfold refusePassword; (try dsimp only); (refine ⟨?_, ?_, ?_, ?_, ?_, ?_, ?_, ?_, ?_, ?_, ?_, ?_, ?_, ?_, ?_, ?_, ?_, ?_, ?_, ?_, ?_, ?_⟩ <;> (try intro j) <;> (repeat' split) <;> first | (simp; done) | (simp [State.line, State.channel, State.meter, State.account, State.row, State.message, Management.load]; done) | rfl)

@[simp] theorem refuseLocked_frame (l : Fin 32) (s : State) :
    (refuseLocked l s).pending = s.pending ∧ (refuseLocked l s).inReset = s.inReset ∧ (refuseLocked l s).now = s.now ∧ (refuseLocked l s).key = s.key ∧ (refuseLocked l s).groups = s.groups ∧ (refuseLocked l s).messages = s.messages ∧ (refuseLocked l s).dir = s.dir ∧ (refuseLocked l s).accounts = s.accounts ∧ (refuseLocked l s).cal = s.cal ∧ (refuseLocked l s).meters = s.meters ∧ (refuseLocked l s).queue = s.queue ∧ (refuseLocked l s).channels = s.channels ∧ (refuseLocked l s).tickets = s.tickets ∧ (refuseLocked l s).watches = s.watches ∧ (refuseLocked l s).sample = s.sample ∧ (refuseLocked l s).trunk = s.trunk ∧ (refuseLocked l s).params = s.params ∧ (refuseLocked l s).mgt.load = s.mgt.load ∧ (∀ j, (refuseLocked l s).channel j = s.channel j) ∧ (∀ j, (refuseLocked l s).meter j = s.meter j) ∧ (∀ j, (refuseLocked l s).account j = s.account j) ∧ (∀ j, (refuseLocked l s).row j = s.row j) ∧ (∀ j, (refuseLocked l s).message j = s.message j) := by
  unfold refuseLocked; (try dsimp only); (refine ⟨?_, ?_, ?_, ?_, ?_, ?_, ?_, ?_, ?_, ?_, ?_, ?_, ?_, ?_, ?_, ?_, ?_, ?_, ?_, ?_, ?_, ?_, ?_⟩ <;> (try intro j) <;> (repeat' split) <;> first | (simp; done) | (simp [State.line, State.channel, State.meter, State.account, State.row, State.message, Management.load]; done) | rfl)

@[simp] theorem admit_frame (l : Fin 32) (i : Nat) (e : Entry) (s : State) :
    (admitCaller l i e s).pending = s.pending ∧ (admitCaller l i e s).inReset = s.inReset ∧ (admitCaller l i e s).now = s.now ∧ (admitCaller l i e s).key = s.key ∧ (admitCaller l i e s).groups = s.groups ∧ (admitCaller l i e s).messages = s.messages ∧ (admitCaller l i e s).cal = s.cal ∧ (admitCaller l i e s).meters = s.meters ∧ (admitCaller l i e s).channels = s.channels ∧ (admitCaller l i e s).tickets = s.tickets ∧ (admitCaller l i e s).watches = s.watches ∧ (admitCaller l i e s).sample = s.sample ∧ (admitCaller l i e s).trunk = s.trunk ∧ (admitCaller l i e s).mgt = s.mgt ∧ (admitCaller l i e s).params = s.params ∧ (∀ j, (admitCaller l i e s).channel j = s.channel j) ∧ (∀ j, (admitCaller l i e s).meter j = s.meter j) ∧ (∀ j, (admitCaller l i e s).row j = s.row j) ∧ (∀ j, (admitCaller l i e s).message j = s.message j) := by
  unfold admitCaller; (try dsimp only); (refine ⟨?_, ?_, ?_, ?_, ?_, ?_, ?_, ?_, ?_, ?_, ?_, ?_, ?_, ?_, ?_, ?_, ?_, ?_, ?_⟩ <;> (try intro j) <;> (repeat' split) <;> first | (simp; done) | (simp [State.line, State.channel, State.meter, State.account, State.row, State.message, Management.load]; done) | rfl)

@[simp] theorem decideLookup_frame (l : Fin 32) (found : Option (Nat × Entry)) (s : State) :
    (decideLookup l found s).pending = s.pending ∧ (decideLookup l found s).inReset = s.inReset ∧ (decideLookup l found s).now = s.now ∧ (decideLookup l found s).key = s.key ∧ (decideLookup l found s).groups = s.groups ∧ (decideLookup l found s).messages = s.messages ∧ (decideLookup l found s).cal = s.cal ∧ (decideLookup l found s).meters = s.meters ∧ (decideLookup l found s).channels = s.channels ∧ (decideLookup l found s).tickets = s.tickets ∧ (decideLookup l found s).watches = s.watches ∧ (decideLookup l found s).sample = s.sample ∧ (decideLookup l found s).trunk = s.trunk ∧ (decideLookup l found s).params = s.params ∧ (decideLookup l found s).mgt.load = s.mgt.load ∧ (∀ j, (decideLookup l found s).channel j = s.channel j) ∧ (∀ j, (decideLookup l found s).meter j = s.meter j) ∧ (∀ j, (decideLookup l found s).row j = s.row j) ∧ (∀ j, (decideLookup l found s).message j = s.message j) := by
  unfold decideLookup; (try dsimp only); (refine ⟨?_, ?_, ?_, ?_, ?_, ?_, ?_, ?_, ?_, ?_, ?_, ?_, ?_, ?_, ?_, ?_, ?_, ?_, ?_⟩ <;> (try intro j) <;> (repeat' split) <;> first | (simp; done) | (simp [State.line, State.channel, State.meter, State.account, State.row, State.message, Management.load]; done) | rfl)

@[simp] theorem clearLookup_frame (l : Fin 32) (s : State) :
    (clearLookup l s).pending = s.pending ∧ (clearLookup l s).inReset = s.inReset ∧ (clearLookup l s).now = s.now ∧ (clearLookup l s).key = s.key ∧ (clearLookup l s).groups = s.groups ∧ (clearLookup l s).messages = s.messages ∧ (clearLookup l s).dir = s.dir ∧ (clearLookup l s).accounts = s.accounts ∧ (clearLookup l s).cal = s.cal ∧ (clearLookup l s).meters = s.meters ∧ (clearLookup l s).queue = s.queue ∧ (clearLookup l s).channels = s.channels ∧ (clearLookup l s).tickets = s.tickets ∧ (clearLookup l s).watches = s.watches ∧ (clearLookup l s).sample = s.sample ∧ (clearLookup l s).trunk = s.trunk ∧ (clearLookup l s).mgt = s.mgt ∧ (clearLookup l s).params = s.params ∧ (∀ j, (clearLookup l s).channel j = s.channel j) ∧ (∀ j, (clearLookup l s).meter j = s.meter j) ∧ (∀ j, (clearLookup l s).account j = s.account j) ∧ (∀ j, (clearLookup l s).row j = s.row j) ∧ (∀ j, (clearLookup l s).message j = s.message j) := by
  unfold clearLookup; (try dsimp only); (refine ⟨?_, ?_, ?_, ?_, ?_, ?_, ?_, ?_, ?_, ?_, ?_, ?_, ?_, ?_, ?_, ?_, ?_, ?_, ?_, ?_, ?_, ?_, ?_⟩ <;> (try intro j) <;> (repeat' split) <;> first | (simp; done) | (simp [State.line, State.channel, State.meter, State.account, State.row, State.message, Management.load]; done) | rfl)

@[simp] theorem enterSignon_frame (l : Fin 32) (s : State) :
    (enterSignon l s).pending = s.pending ∧ (enterSignon l s).inReset = s.inReset ∧ (enterSignon l s).now = s.now ∧ (enterSignon l s).key = s.key ∧ (enterSignon l s).groups = s.groups ∧ (enterSignon l s).messages = s.messages ∧ (enterSignon l s).dir = s.dir ∧ (enterSignon l s).accounts = s.accounts ∧ (enterSignon l s).cal = s.cal ∧ (enterSignon l s).meters = s.meters ∧ (enterSignon l s).queue = s.queue ∧ (enterSignon l s).channels = s.channels ∧ (enterSignon l s).tickets = s.tickets ∧ (enterSignon l s).watches = s.watches ∧ (enterSignon l s).sample = s.sample ∧ (enterSignon l s).trunk = s.trunk ∧ (enterSignon l s).mgt = s.mgt ∧ (enterSignon l s).params = s.params ∧ (∀ j, (enterSignon l s).channel j = s.channel j) ∧ (∀ j, (enterSignon l s).meter j = s.meter j) ∧ (∀ j, (enterSignon l s).account j = s.account j) ∧ (∀ j, (enterSignon l s).row j = s.row j) ∧ (∀ j, (enterSignon l s).message j = s.message j) := by
  unfold enterSignon; (try dsimp only); (refine ⟨?_, ?_, ?_, ?_, ?_, ?_, ?_, ?_, ?_, ?_, ?_, ?_, ?_, ?_, ?_, ?_, ?_, ?_, ?_, ?_, ?_, ?_, ?_⟩ <;> (try intro j) <;> (repeat' split) <;> first | (simp; done) | (simp [State.line, State.channel, State.meter, State.account, State.row, State.message, Management.load]; done) | rfl)

@[simp] theorem answerDecision_frame (l : Fin 32) (s : State) :
    (answerDecision l s).pending = s.pending ∧ (answerDecision l s).inReset = s.inReset ∧ (answerDecision l s).now = s.now ∧ (answerDecision l s).key = s.key ∧ (answerDecision l s).groups = s.groups ∧ (answerDecision l s).messages = s.messages ∧ (answerDecision l s).dir = s.dir ∧ (answerDecision l s).accounts = s.accounts ∧ (answerDecision l s).cal = s.cal ∧ (answerDecision l s).meters = s.meters ∧ (answerDecision l s).queue = s.queue ∧ (answerDecision l s).channels = s.channels ∧ (answerDecision l s).tickets = s.tickets ∧ (answerDecision l s).watches = s.watches ∧ (answerDecision l s).sample = s.sample ∧ (answerDecision l s).trunk = s.trunk ∧ (answerDecision l s).mgt = s.mgt ∧ (answerDecision l s).params = s.params ∧ (∀ j, (answerDecision l s).channel j = s.channel j) ∧ (∀ j, (answerDecision l s).meter j = s.meter j) ∧ (∀ j, (answerDecision l s).account j = s.account j) ∧ (∀ j, (answerDecision l s).row j = s.row j) ∧ (∀ j, (answerDecision l s).message j = s.message j) := by
  unfold answerDecision; (try dsimp only); (refine ⟨?_, ?_, ?_, ?_, ?_, ?_, ?_, ?_, ?_, ?_, ?_, ?_, ?_, ?_, ?_, ?_, ?_, ?_, ?_, ?_, ?_, ?_, ?_⟩ <;> (try intro j) <;> (repeat' split) <;> first | (simp; done) | (simp [State.line, State.channel, State.meter, State.account, State.row, State.message, Management.load]; done) | rfl)

@[simp] theorem ring_frame (l : Fin 32) (s : State) :
    (ring l s).pending = s.pending ∧ (ring l s).inReset = s.inReset ∧ (ring l s).now = s.now ∧ (ring l s).key = s.key ∧ (ring l s).groups = s.groups ∧ (ring l s).messages = s.messages ∧ (ring l s).dir = s.dir ∧ (ring l s).accounts = s.accounts ∧ (ring l s).cal = s.cal ∧ (ring l s).meters = s.meters ∧ (ring l s).queue = s.queue ∧ (ring l s).channels = s.channels ∧ (ring l s).tickets = s.tickets ∧ (ring l s).watches = s.watches ∧ (ring l s).sample = s.sample ∧ (ring l s).trunk = s.trunk ∧ (ring l s).mgt = s.mgt ∧ (ring l s).params = s.params ∧ (∀ j, (ring l s).channel j = s.channel j) ∧ (∀ j, (ring l s).meter j = s.meter j) ∧ (∀ j, (ring l s).account j = s.account j) ∧ (∀ j, (ring l s).row j = s.row j) ∧ (∀ j, (ring l s).message j = s.message j) := by
  unfold ring; (try dsimp only); (refine ⟨?_, ?_, ?_, ?_, ?_, ?_, ?_, ?_, ?_, ?_, ?_, ?_, ?_, ?_, ?_, ?_, ?_, ?_, ?_, ?_, ?_, ?_, ?_⟩ <;> (try intro j) <;> (repeat' split) <;> first | (simp; done) | (simp [State.line, State.channel, State.meter, State.account, State.row, State.message, Management.load]; done) | rfl)

@[simp] theorem setRing_frame (l : Fin 32) (level : Bool) (s : State) :
    (setRing l level s).pending = s.pending ∧ (setRing l level s).inReset = s.inReset ∧ (setRing l level s).now = s.now ∧ (setRing l level s).key = s.key ∧ (setRing l level s).groups = s.groups ∧ (setRing l level s).messages = s.messages ∧ (setRing l level s).dir = s.dir ∧ (setRing l level s).accounts = s.accounts ∧ (setRing l level s).cal = s.cal ∧ (setRing l level s).meters = s.meters ∧ (setRing l level s).queue = s.queue ∧ (setRing l level s).channels = s.channels ∧ (setRing l level s).tickets = s.tickets ∧ (setRing l level s).watches = s.watches ∧ (setRing l level s).sample = s.sample ∧ (setRing l level s).trunk = s.trunk ∧ (setRing l level s).mgt = s.mgt ∧ (setRing l level s).params = s.params ∧ (∀ j, (setRing l level s).channel j = s.channel j) ∧ (∀ j, (setRing l level s).meter j = s.meter j) ∧ (∀ j, (setRing l level s).account j = s.account j) ∧ (∀ j, (setRing l level s).row j = s.row j) ∧ (∀ j, (setRing l level s).message j = s.message j) := by
  unfold setRing; (try dsimp only); (refine ⟨?_, ?_, ?_, ?_, ?_, ?_, ?_, ?_, ?_, ?_, ?_, ?_, ?_, ?_, ?_, ?_, ?_, ?_, ?_, ?_, ?_, ?_, ?_⟩ <;> (try intro j) <;> (repeat' split) <;> first | (simp; done) | (simp [State.line, State.channel, State.meter, State.account, State.row, State.message, Management.load]; done) | rfl)

@[simp] theorem setCarrier_frame (l : Fin 32) (level : Bool) (s : State) :
    (setCarrier l level s).pending = s.pending ∧ (setCarrier l level s).inReset = s.inReset ∧ (setCarrier l level s).now = s.now ∧ (setCarrier l level s).key = s.key ∧ (setCarrier l level s).groups = s.groups ∧ (setCarrier l level s).messages = s.messages ∧ (setCarrier l level s).dir = s.dir ∧ (setCarrier l level s).accounts = s.accounts ∧ (setCarrier l level s).cal = s.cal ∧ (setCarrier l level s).meters = s.meters ∧ (setCarrier l level s).queue = s.queue ∧ (setCarrier l level s).channels = s.channels ∧ (setCarrier l level s).tickets = s.tickets ∧ (setCarrier l level s).watches = s.watches ∧ (setCarrier l level s).sample = s.sample ∧ (setCarrier l level s).trunk = s.trunk ∧ (setCarrier l level s).mgt = s.mgt ∧ (setCarrier l level s).params = s.params ∧ (∀ j, (setCarrier l level s).channel j = s.channel j) ∧ (∀ j, (setCarrier l level s).meter j = s.meter j) ∧ (∀ j, (setCarrier l level s).account j = s.account j) ∧ (∀ j, (setCarrier l level s).row j = s.row j) ∧ (∀ j, (setCarrier l level s).message j = s.message j) := by
  unfold setCarrier; (try dsimp only); (refine ⟨?_, ?_, ?_, ?_, ?_, ?_, ?_, ?_, ?_, ?_, ?_, ?_, ?_, ?_, ?_, ?_, ?_, ?_, ?_, ?_, ?_, ?_, ?_⟩ <;> (try intro j) <;> (repeat' split) <;> first | (simp; done) | (simp [State.line, State.channel, State.meter, State.account, State.row, State.message, Management.load]; done) | rfl)

@[simp] theorem carrierUp_frame (l : Fin 32) (s : State) :
    (carrierUp l s).pending = s.pending ∧ (carrierUp l s).inReset = s.inReset ∧ (carrierUp l s).now = s.now ∧ (carrierUp l s).key = s.key ∧ (carrierUp l s).groups = s.groups ∧ (carrierUp l s).messages = s.messages ∧ (carrierUp l s).dir = s.dir ∧ (carrierUp l s).accounts = s.accounts ∧ (carrierUp l s).cal = s.cal ∧ (carrierUp l s).meters = s.meters ∧ (carrierUp l s).queue = s.queue ∧ (carrierUp l s).channels = s.channels ∧ (carrierUp l s).tickets = s.tickets ∧ (carrierUp l s).watches = s.watches ∧ (carrierUp l s).sample = s.sample ∧ (carrierUp l s).trunk = s.trunk ∧ (carrierUp l s).mgt = s.mgt ∧ (carrierUp l s).params = s.params ∧ (∀ j, (carrierUp l s).channel j = s.channel j) ∧ (∀ j, (carrierUp l s).meter j = s.meter j) ∧ (∀ j, (carrierUp l s).account j = s.account j) ∧ (∀ j, (carrierUp l s).row j = s.row j) ∧ (∀ j, (carrierUp l s).message j = s.message j) := by
  unfold carrierUp; (try dsimp only); (refine ⟨?_, ?_, ?_, ?_, ?_, ?_, ?_, ?_, ?_, ?_, ?_, ?_, ?_, ?_, ?_, ?_, ?_, ?_, ?_, ?_, ?_, ?_, ?_⟩ <;> (try intro j) <;> (repeat' split) <;> first | (simp; done) | (simp [State.line, State.channel, State.meter, State.account, State.row, State.message, Management.load]; done) | rfl)

@[simp] theorem carrierDown_frame (l : Fin 32) (s : State) :
    (carrierDown l s).pending = s.pending ∧ (carrierDown l s).inReset = s.inReset ∧ (carrierDown l s).now = s.now ∧ (carrierDown l s).key = s.key ∧ (carrierDown l s).groups = s.groups ∧ (carrierDown l s).messages = s.messages ∧ (carrierDown l s).dir = s.dir ∧ (carrierDown l s).accounts = s.accounts ∧ (carrierDown l s).cal = s.cal ∧ (carrierDown l s).meters = s.meters ∧ (carrierDown l s).queue = s.queue ∧ (carrierDown l s).channels = s.channels ∧ (carrierDown l s).tickets = s.tickets ∧ (carrierDown l s).watches = s.watches ∧ (carrierDown l s).sample = s.sample ∧ (carrierDown l s).trunk = s.trunk ∧ (carrierDown l s).mgt = s.mgt ∧ (carrierDown l s).params = s.params ∧ (∀ j, (carrierDown l s).channel j = s.channel j) ∧ (∀ j, (carrierDown l s).meter j = s.meter j) ∧ (∀ j, (carrierDown l s).account j = s.account j) ∧ (∀ j, (carrierDown l s).row j = s.row j) ∧ (∀ j, (carrierDown l s).message j = s.message j) := by
  unfold carrierDown; (try dsimp only); (refine ⟨?_, ?_, ?_, ?_, ?_, ?_, ?_, ?_, ?_, ?_, ?_, ?_, ?_, ?_, ?_, ?_, ?_, ?_, ?_, ?_, ?_, ?_, ?_⟩ <;> (try intro j) <;> (repeat' split) <;> first | (simp; done) | (simp [State.line, State.channel, State.meter, State.account, State.row, State.message, Management.load]; done) | rfl)

@[simp] theorem activity_frame (l : Fin 32) (k : Nat) (s : State) :
    (activity l k s).pending = s.pending ∧ (activity l k s).inReset = s.inReset ∧ (activity l k s).now = s.now ∧ (activity l k s).key = s.key ∧ (activity l k s).groups = s.groups ∧ (activity l k s).messages = s.messages ∧ (activity l k s).dir = s.dir ∧ (activity l k s).accounts = s.accounts ∧ (activity l k s).cal = s.cal ∧ (activity l k s).meters = s.meters ∧ (activity l k s).queue = s.queue ∧ (activity l k s).channels = s.channels ∧ (activity l k s).tickets = s.tickets ∧ (activity l k s).watches = s.watches ∧ (activity l k s).sample = s.sample ∧ (activity l k s).trunk = s.trunk ∧ (activity l k s).mgt = s.mgt ∧ (activity l k s).params = s.params ∧ (∀ j, (activity l k s).channel j = s.channel j) ∧ (∀ j, (activity l k s).meter j = s.meter j) ∧ (∀ j, (activity l k s).account j = s.account j) ∧ (∀ j, (activity l k s).row j = s.row j) ∧ (∀ j, (activity l k s).message j = s.message j) := by
  unfold activity; (try dsimp only); (refine ⟨?_, ?_, ?_, ?_, ?_, ?_, ?_, ?_, ?_, ?_, ?_, ?_, ?_, ?_, ?_, ?_, ?_, ?_, ?_, ?_, ?_, ?_, ?_⟩ <;> (try intro j) <;> (repeat' split) <;> first | (simp; done) | (simp [State.line, State.channel, State.meter, State.account, State.row, State.message, Management.load]; done) | rfl)

@[simp] theorem idleExpired_frame (l : Fin 32) (s : State) :
    (idleExpired l s).pending = s.pending ∧ (idleExpired l s).inReset = s.inReset ∧ (idleExpired l s).now = s.now ∧ (idleExpired l s).key = s.key ∧ (idleExpired l s).groups = s.groups ∧ (idleExpired l s).messages = s.messages ∧ (idleExpired l s).dir = s.dir ∧ (idleExpired l s).cal = s.cal ∧ (idleExpired l s).queue = s.queue ∧ (idleExpired l s).watches = s.watches ∧ (idleExpired l s).sample = s.sample ∧ (idleExpired l s).params = s.params ∧ (idleExpired l s).mgt.load = s.mgt.load ∧ (idleExpired l s).trunk.counter = s.trunk.counter ∧ (idleExpired l s).trunk.nd = s.trunk.nd ∧ (idleExpired l s).trunk.counters = s.trunk.counters ∧ (idleExpired l s).trunk.up = s.trunk.up ∧ (∀ j, (idleExpired l s).message j = s.message j) := by
  unfold idleExpired; (try dsimp only); (refine ⟨?_, ?_, ?_, ?_, ?_, ?_, ?_, ?_, ?_, ?_, ?_, ?_, ?_, ?_, ?_, ?_, ?_, ?_⟩ <;> (try intro j) <;> (repeat' split) <;> first | (simp; done) | (simp [State.line, State.channel, State.meter, State.account, State.row, State.message, Management.load]; done) | rfl)

@[simp] theorem flowGo_frame (l : Fin 32) (s : State) :
    (flowGo l s).pending = s.pending ∧ (flowGo l s).inReset = s.inReset ∧ (flowGo l s).now = s.now ∧ (flowGo l s).key = s.key ∧ (flowGo l s).groups = s.groups ∧ (flowGo l s).messages = s.messages ∧ (flowGo l s).lines = s.lines ∧ (flowGo l s).dir = s.dir ∧ (flowGo l s).accounts = s.accounts ∧ (flowGo l s).cal = s.cal ∧ (flowGo l s).meters = s.meters ∧ (flowGo l s).queue = s.queue ∧ (flowGo l s).channels = s.channels ∧ (flowGo l s).tickets = s.tickets ∧ (flowGo l s).watches = s.watches ∧ (flowGo l s).sample = s.sample ∧ (flowGo l s).mgt = s.mgt ∧ (flowGo l s).params = s.params ∧ (flowGo l s).trunk.counter = s.trunk.counter ∧ (flowGo l s).trunk.nd = s.trunk.nd ∧ (flowGo l s).trunk.counters = s.trunk.counters ∧ (flowGo l s).trunk.up = s.trunk.up ∧ (∀ j, (flowGo l s).line j = s.line j) ∧ (∀ j, (flowGo l s).channel j = s.channel j) ∧ (∀ j, (flowGo l s).meter j = s.meter j) ∧ (∀ j, (flowGo l s).account j = s.account j) ∧ (∀ j, (flowGo l s).row j = s.row j) ∧ (∀ j, (flowGo l s).message j = s.message j) := by
  unfold flowGo; (try dsimp only); (refine ⟨?_, ?_, ?_, ?_, ?_, ?_, ?_, ?_, ?_, ?_, ?_, ?_, ?_, ?_, ?_, ?_, ?_, ?_, ?_, ?_, ?_, ?_, ?_, ?_, ?_, ?_, ?_, ?_⟩ <;> (try intro j) <;> (repeat' split) <;> first | (simp; done) | (simp [State.line, State.channel, State.meter, State.account, State.row, State.message, Management.load]; done) | rfl)

@[simp] theorem loseCarrier_frame (l : Fin 32) (s : State) :
    (loseCarrier l s).pending = s.pending ∧ (loseCarrier l s).inReset = s.inReset ∧ (loseCarrier l s).now = s.now ∧ (loseCarrier l s).key = s.key ∧ (loseCarrier l s).groups = s.groups ∧ (loseCarrier l s).messages = s.messages ∧ (loseCarrier l s).dir = s.dir ∧ (loseCarrier l s).cal = s.cal ∧ (loseCarrier l s).watches = s.watches ∧ (loseCarrier l s).sample = s.sample ∧ (loseCarrier l s).params = s.params ∧ (loseCarrier l s).mgt.load = s.mgt.load ∧ (loseCarrier l s).trunk.counter = s.trunk.counter ∧ (loseCarrier l s).trunk.nd = s.trunk.nd ∧ (loseCarrier l s).trunk.counters = s.trunk.counters ∧ (loseCarrier l s).trunk.up = s.trunk.up ∧ (∀ j, (loseCarrier l s).message j = s.message j) := by
  unfold loseCarrier; (try dsimp only); (refine ⟨?_, ?_, ?_, ?_, ?_, ?_, ?_, ?_, ?_, ?_, ?_, ?_, ?_, ?_, ?_, ?_, ?_⟩ <;> (try intro j) <;> (repeat' split) <;> first | (simp; done) | (simp [State.line, State.channel, State.meter, State.account, State.row, State.message, Management.load]; done) | rfl)

@[simp] theorem restartStage_frame (s : State) :
    (restartStage s).pending = s.pending ∧ (restartStage s).inReset = s.inReset ∧ (restartStage s).now = s.now ∧ (restartStage s).key = s.key ∧ (restartStage s).groups = s.groups ∧ (restartStage s).messages = s.messages ∧ (restartStage s).lines = s.lines ∧ (restartStage s).accounts = s.accounts ∧ (restartStage s).cal = s.cal ∧ (restartStage s).meters = s.meters ∧ (restartStage s).queue = s.queue ∧ (restartStage s).channels = s.channels ∧ (restartStage s).tickets = s.tickets ∧ (restartStage s).watches = s.watches ∧ (restartStage s).sample = s.sample ∧ (restartStage s).trunk = s.trunk ∧ (restartStage s).mgt = s.mgt ∧ (restartStage s).params = s.params ∧ (∀ j, (restartStage s).line j = s.line j) ∧ (∀ j, (restartStage s).channel j = s.channel j) ∧ (∀ j, (restartStage s).meter j = s.meter j) ∧ (∀ j, (restartStage s).account j = s.account j) ∧ (∀ j, (restartStage s).row j = s.row j) ∧ (∀ j, (restartStage s).message j = s.message j) := by
  unfold restartStage; (try dsimp only); (refine ⟨?_, ?_, ?_, ?_, ?_, ?_, ?_, ?_, ?_, ?_, ?_, ?_, ?_, ?_, ?_, ?_, ?_, ?_, ?_, ?_, ?_, ?_, ?_, ?_⟩ <;> (try intro j) <;> (repeat' split) <;> first | (simp; done) | (simp [State.line, State.channel, State.meter, State.account, State.row, State.message, Management.load]; done) | rfl)

@[simp] theorem stageEntry_frame (e : Staged) (s : State) :
    (stageEntry e s).pending = s.pending ∧ (stageEntry e s).inReset = s.inReset ∧ (stageEntry e s).now = s.now ∧ (stageEntry e s).key = s.key ∧ (stageEntry e s).groups = s.groups ∧ (stageEntry e s).messages = s.messages ∧ (stageEntry e s).lines = s.lines ∧ (stageEntry e s).accounts = s.accounts ∧ (stageEntry e s).cal = s.cal ∧ (stageEntry e s).meters = s.meters ∧ (stageEntry e s).queue = s.queue ∧ (stageEntry e s).channels = s.channels ∧ (stageEntry e s).tickets = s.tickets ∧ (stageEntry e s).watches = s.watches ∧ (stageEntry e s).sample = s.sample ∧ (stageEntry e s).trunk = s.trunk ∧ (stageEntry e s).mgt = s.mgt ∧ (stageEntry e s).params = s.params ∧ (∀ j, (stageEntry e s).line j = s.line j) ∧ (∀ j, (stageEntry e s).channel j = s.channel j) ∧ (∀ j, (stageEntry e s).meter j = s.meter j) ∧ (∀ j, (stageEntry e s).account j = s.account j) ∧ (∀ j, (stageEntry e s).row j = s.row j) ∧ (∀ j, (stageEntry e s).message j = s.message j) := by
  unfold stageEntry; (try dsimp only); (refine ⟨?_, ?_, ?_, ?_, ?_, ?_, ?_, ?_, ?_, ?_, ?_, ?_, ?_, ?_, ?_, ?_, ?_, ?_, ?_, ?_, ?_, ?_, ?_, ?_⟩ <;> (try intro j) <;> (repeat' split) <;> first | (simp; done) | (simp [State.line, State.channel, State.meter, State.account, State.row, State.message, Management.load]; done) | rfl)

@[simp] theorem takeStaged_frame (e : Staged) (s : State) :
    (takeStaged e s).1.pending = s.pending ∧ (takeStaged e s).1.inReset = s.inReset ∧ (takeStaged e s).1.now = s.now ∧ (takeStaged e s).1.key = s.key ∧ (takeStaged e s).1.groups = s.groups ∧ (takeStaged e s).1.messages = s.messages ∧ (takeStaged e s).1.lines = s.lines ∧ (takeStaged e s).1.accounts = s.accounts ∧ (takeStaged e s).1.cal = s.cal ∧ (takeStaged e s).1.meters = s.meters ∧ (takeStaged e s).1.queue = s.queue ∧ (takeStaged e s).1.channels = s.channels ∧ (takeStaged e s).1.tickets = s.tickets ∧ (takeStaged e s).1.watches = s.watches ∧ (takeStaged e s).1.sample = s.sample ∧ (takeStaged e s).1.trunk = s.trunk ∧ (takeStaged e s).1.mgt = s.mgt ∧ (takeStaged e s).1.params = s.params ∧ (∀ j, (takeStaged e s).1.line j = s.line j) ∧ (∀ j, (takeStaged e s).1.channel j = s.channel j) ∧ (∀ j, (takeStaged e s).1.meter j = s.meter j) ∧ (∀ j, (takeStaged e s).1.account j = s.account j) ∧ (∀ j, (takeStaged e s).1.row j = s.row j) ∧ (∀ j, (takeStaged e s).1.message j = s.message j) := by
  unfold takeStaged; (try dsimp only); (refine ⟨?_, ?_, ?_, ?_, ?_, ?_, ?_, ?_, ?_, ?_, ?_, ?_, ?_, ?_, ?_, ?_, ?_, ?_, ?_, ?_, ?_, ?_, ?_, ?_⟩ <;> (try intro j) <;> (repeat' split) <;> first | (simp; done) | (simp [State.line, State.channel, State.meter, State.account, State.row, State.message, Management.load]; done) | rfl)

@[simp] theorem stageExpired_frame (s : State) :
    (stageExpired s).pending = s.pending ∧ (stageExpired s).inReset = s.inReset ∧ (stageExpired s).now = s.now ∧ (stageExpired s).key = s.key ∧ (stageExpired s).groups = s.groups ∧ (stageExpired s).messages = s.messages ∧ (stageExpired s).lines = s.lines ∧ (stageExpired s).dir = s.dir ∧ (stageExpired s).accounts = s.accounts ∧ (stageExpired s).cal = s.cal ∧ (stageExpired s).meters = s.meters ∧ (stageExpired s).queue = s.queue ∧ (stageExpired s).channels = s.channels ∧ (stageExpired s).tickets = s.tickets ∧ (stageExpired s).watches = s.watches ∧ (stageExpired s).sample = s.sample ∧ (stageExpired s).trunk = s.trunk ∧ (stageExpired s).params = s.params ∧ (stageExpired s).mgt.load = s.mgt.load ∧ (∀ j, (stageExpired s).line j = s.line j) ∧ (∀ j, (stageExpired s).channel j = s.channel j) ∧ (∀ j, (stageExpired s).meter j = s.meter j) ∧ (∀ j, (stageExpired s).account j = s.account j) ∧ (∀ j, (stageExpired s).row j = s.row j) ∧ (∀ j, (stageExpired s).message j = s.message j) := by
  unfold stageExpired; (try dsimp only); (refine ⟨?_, ?_, ?_, ?_, ?_, ?_, ?_, ?_, ?_, ?_, ?_, ?_, ?_, ?_, ?_, ?_, ?_, ?_, ?_, ?_, ?_, ?_, ?_, ?_, ?_⟩ <;> (try intro j) <;> (repeat' split) <;> first | (simp; done) | (simp [State.line, State.channel, State.meter, State.account, State.row, State.message, Management.load]; done) | rfl)

@[simp] theorem deferLookups_frame (s : State) :
    (deferLookups s).pending = s.pending ∧ (deferLookups s).inReset = s.inReset ∧ (deferLookups s).now = s.now ∧ (deferLookups s).key = s.key ∧ (deferLookups s).groups = s.groups ∧ (deferLookups s).messages = s.messages ∧ (deferLookups s).dir = s.dir ∧ (deferLookups s).accounts = s.accounts ∧ (deferLookups s).cal = s.cal ∧ (deferLookups s).meters = s.meters ∧ (deferLookups s).queue = s.queue ∧ (deferLookups s).channels = s.channels ∧ (deferLookups s).tickets = s.tickets ∧ (deferLookups s).watches = s.watches ∧ (deferLookups s).sample = s.sample ∧ (deferLookups s).trunk = s.trunk ∧ (deferLookups s).mgt = s.mgt ∧ (deferLookups s).params = s.params ∧ (∀ j, (deferLookups s).channel j = s.channel j) ∧ (∀ j, (deferLookups s).meter j = s.meter j) ∧ (∀ j, (deferLookups s).account j = s.account j) ∧ (∀ j, (deferLookups s).row j = s.row j) ∧ (∀ j, (deferLookups s).message j = s.message j) := by
  unfold deferLookups; (try dsimp only); (refine ⟨?_, ?_, ?_, ?_, ?_, ?_, ?_, ?_, ?_, ?_, ?_, ?_, ?_, ?_, ?_, ?_, ?_, ?_, ?_, ?_, ?_, ?_, ?_⟩ <;> (try intro j) <;> (repeat' split) <;> first | (simp; done) | (simp [State.line, State.channel, State.meter, State.account, State.row, State.message, Management.load]; done) | rfl)

@[simp] theorem beginCommit_frame (s : State) :
    (beginCommit s).pending = s.pending ∧ (beginCommit s).inReset = s.inReset ∧ (beginCommit s).now = s.now ∧ (beginCommit s).key = s.key ∧ (beginCommit s).groups = s.groups ∧ (beginCommit s).messages = s.messages ∧ (beginCommit s).accounts = s.accounts ∧ (beginCommit s).cal = s.cal ∧ (beginCommit s).meters = s.meters ∧ (beginCommit s).queue = s.queue ∧ (beginCommit s).channels = s.channels ∧ (beginCommit s).tickets = s.tickets ∧ (beginCommit s).watches = s.watches ∧ (beginCommit s).sample = s.sample ∧ (beginCommit s).trunk = s.trunk ∧ (beginCommit s).mgt = s.mgt ∧ (beginCommit s).params = s.params ∧ (∀ j, (beginCommit s).channel j = s.channel j) ∧ (∀ j, (beginCommit s).meter j = s.meter j) ∧ (∀ j, (beginCommit s).account j = s.account j) ∧ (∀ j, (beginCommit s).row j = s.row j) ∧ (∀ j, (beginCommit s).message j = s.message j) := by
  unfold beginCommit; (try dsimp only); (refine ⟨?_, ?_, ?_, ?_, ?_, ?_, ?_, ?_, ?_, ?_, ?_, ?_, ?_, ?_, ?_, ?_, ?_, ?_, ?_, ?_, ?_, ?_⟩ <;> (try intro j) <;> (repeat' split) <;> first | (simp; done) | (simp [State.line, State.channel, State.meter, State.account, State.row, State.message, Management.load]; done) | rfl)

@[simp] theorem takeCommit_frame (s : State) :
    (takeCommit s).1.pending = s.pending ∧ (takeCommit s).1.inReset = s.inReset ∧ (takeCommit s).1.now = s.now ∧ (takeCommit s).1.key = s.key ∧ (takeCommit s).1.groups = s.groups ∧ (takeCommit s).1.messages = s.messages ∧ (takeCommit s).1.accounts = s.accounts ∧ (takeCommit s).1.cal = s.cal ∧ (takeCommit s).1.meters = s.meters ∧ (takeCommit s).1.queue = s.queue ∧ (takeCommit s).1.channels = s.channels ∧ (takeCommit s).1.tickets = s.tickets ∧ (takeCommit s).1.watches = s.watches ∧ (takeCommit s).1.sample = s.sample ∧ (takeCommit s).1.trunk = s.trunk ∧ (takeCommit s).1.mgt = s.mgt ∧ (takeCommit s).1.params = s.params ∧ (∀ j, (takeCommit s).1.channel j = s.channel j) ∧ (∀ j, (takeCommit s).1.meter j = s.meter j) ∧ (∀ j, (takeCommit s).1.account j = s.account j) ∧ (∀ j, (takeCommit s).1.row j = s.row j) ∧ (∀ j, (takeCommit s).1.message j = s.message j) := by
  unfold takeCommit; (try dsimp only); (refine ⟨?_, ?_, ?_, ?_, ?_, ?_, ?_, ?_, ?_, ?_, ?_, ?_, ?_, ?_, ?_, ?_, ?_, ?_, ?_, ?_, ?_, ?_⟩ <;> (try intro j) <;> (repeat' split) <;> first | (simp; done) | (simp [State.line, State.channel, State.meter, State.account, State.row, State.message, Management.load]; done) | rfl)

@[simp] theorem resumeLookups_frame (s : State) :
    (resumeLookups s).pending = s.pending ∧ (resumeLookups s).inReset = s.inReset ∧ (resumeLookups s).now = s.now ∧ (resumeLookups s).key = s.key ∧ (resumeLookups s).groups = s.groups ∧ (resumeLookups s).messages = s.messages ∧ (resumeLookups s).dir = s.dir ∧ (resumeLookups s).accounts = s.accounts ∧ (resumeLookups s).cal = s.cal ∧ (resumeLookups s).meters = s.meters ∧ (resumeLookups s).queue = s.queue ∧ (resumeLookups s).channels = s.channels ∧ (resumeLookups s).tickets = s.tickets ∧ (resumeLookups s).watches = s.watches ∧ (resumeLookups s).sample = s.sample ∧ (resumeLookups s).trunk = s.trunk ∧ (resumeLookups s).mgt = s.mgt ∧ (resumeLookups s).params = s.params ∧ (∀ j, (resumeLookups s).channel j = s.channel j) ∧ (∀ j, (resumeLookups s).meter j = s.meter j) ∧ (∀ j, (resumeLookups s).account j = s.account j) ∧ (∀ j, (resumeLookups s).row j = s.row j) ∧ (∀ j, (resumeLookups s).message j = s.message j) := by
  unfold resumeLookups; (try dsimp only); (refine ⟨?_, ?_, ?_, ?_, ?_, ?_, ?_, ?_, ?_, ?_, ?_, ?_, ?_, ?_, ?_, ?_, ?_, ?_, ?_, ?_, ?_, ?_, ?_⟩ <;> (try intro j) <;> (repeat' split) <;> first | (simp; done) | (simp [State.line, State.channel, State.meter, State.account, State.row, State.message, Management.load]; done) | rfl)

@[simp] theorem beginProtection_frame (w : Write) (s : State) :
    (beginProtection w s).pending = s.pending ∧ (beginProtection w s).inReset = s.inReset ∧ (beginProtection w s).now = s.now ∧ (beginProtection w s).key = s.key ∧ (beginProtection w s).groups = s.groups ∧ (beginProtection w s).messages = s.messages ∧ (beginProtection w s).lines = s.lines ∧ (beginProtection w s).accounts = s.accounts ∧ (beginProtection w s).cal = s.cal ∧ (beginProtection w s).meters = s.meters ∧ (beginProtection w s).queue = s.queue ∧ (beginProtection w s).channels = s.channels ∧ (beginProtection w s).tickets = s.tickets ∧ (beginProtection w s).watches = s.watches ∧ (beginProtection w s).sample = s.sample ∧ (beginProtection w s).trunk = s.trunk ∧ (beginProtection w s).mgt = s.mgt ∧ (beginProtection w s).params = s.params ∧ (∀ j, (beginProtection w s).line j = s.line j) ∧ (∀ j, (beginProtection w s).channel j = s.channel j) ∧ (∀ j, (beginProtection w s).meter j = s.meter j) ∧ (∀ j, (beginProtection w s).account j = s.account j) ∧ (∀ j, (beginProtection w s).row j = s.row j) ∧ (∀ j, (beginProtection w s).message j = s.message j) := by
  unfold beginProtection; (try dsimp only); (refine ⟨?_, ?_, ?_, ?_, ?_, ?_, ?_, ?_, ?_, ?_, ?_, ?_, ?_, ?_, ?_, ?_, ?_, ?_, ?_, ?_, ?_, ?_, ?_, ?_⟩ <;> (try intro j) <;> (repeat' split) <;> first | (simp; done) | (simp [State.line, State.channel, State.meter, State.account, State.row, State.message, Management.load]; done) | rfl)

@[simp] theorem setTariffs_frame (f : Bool) (s : State) :
    (setTariffs f s).pending = s.pending ∧ (setTariffs f s).inReset = s.inReset ∧ (setTariffs f s).now = s.now ∧ (setTariffs f s).key = s.key ∧ (setTariffs f s).groups = s.groups ∧ (setTariffs f s).messages = s.messages ∧ (setTariffs f s).lines = s.lines ∧ (setTariffs f s).accounts = s.accounts ∧ (setTariffs f s).cal = s.cal ∧ (setTariffs f s).meters = s.meters ∧ (setTariffs f s).queue = s.queue ∧ (setTariffs f s).channels = s.channels ∧ (setTariffs f s).tickets = s.tickets ∧ (setTariffs f s).watches = s.watches ∧ (setTariffs f s).sample = s.sample ∧ (setTariffs f s).trunk = s.trunk ∧ (setTariffs f s).mgt = s.mgt ∧ (setTariffs f s).params = s.params ∧ (∀ j, (setTariffs f s).line j = s.line j) ∧ (∀ j, (setTariffs f s).channel j = s.channel j) ∧ (∀ j, (setTariffs f s).meter j = s.meter j) ∧ (∀ j, (setTariffs f s).account j = s.account j) ∧ (∀ j, (setTariffs f s).row j = s.row j) ∧ (∀ j, (setTariffs f s).message j = s.message j) := by
  unfold setTariffs; (try dsimp only); (refine ⟨?_, ?_, ?_, ?_, ?_, ?_, ?_, ?_, ?_, ?_, ?_, ?_, ?_, ?_, ?_, ?_, ?_, ?_, ?_, ?_, ?_, ?_, ?_, ?_⟩ <;> (try intro j) <;> (repeat' split) <;> first | (simp; done) | (simp [State.line, State.channel, State.meter, State.account, State.row, State.message, Management.load]; done) | rfl)

@[simp] theorem readKey_frame (key : Bool) (s : State) :
    (readKey key s).pending = s.pending ∧ (readKey key s).inReset = s.inReset ∧ (readKey key s).now = s.now ∧ (readKey key s).groups = s.groups ∧ (readKey key s).messages = s.messages ∧ (readKey key s).lines = s.lines ∧ (readKey key s).dir = s.dir ∧ (readKey key s).accounts = s.accounts ∧ (readKey key s).cal = s.cal ∧ (readKey key s).meters = s.meters ∧ (readKey key s).queue = s.queue ∧ (readKey key s).channels = s.channels ∧ (readKey key s).tickets = s.tickets ∧ (readKey key s).watches = s.watches ∧ (readKey key s).sample = s.sample ∧ (readKey key s).trunk = s.trunk ∧ (readKey key s).mgt = s.mgt ∧ (readKey key s).params = s.params ∧ (∀ j, (readKey key s).line j = s.line j) ∧ (∀ j, (readKey key s).channel j = s.channel j) ∧ (∀ j, (readKey key s).meter j = s.meter j) ∧ (∀ j, (readKey key s).account j = s.account j) ∧ (∀ j, (readKey key s).row j = s.row j) ∧ (∀ j, (readKey key s).message j = s.message j) := by
  unfold readKey; (try dsimp only); (refine ⟨?_, ?_, ?_, ?_, ?_, ?_, ?_, ?_, ?_, ?_, ?_, ?_, ?_, ?_, ?_, ?_, ?_, ?_, ?_, ?_, ?_, ?_, ?_, ?_⟩ <;> (try intro j) <;> (repeat' split) <;> first | (simp; done) | (simp [State.line, State.channel, State.meter, State.account, State.row, State.message, Management.load]; done) | rfl)

@[simp] theorem takeUnprotect_frame (s : State) :
    (takeUnprotect s).1.pending = s.pending ∧ (takeUnprotect s).1.inReset = s.inReset ∧ (takeUnprotect s).1.now = s.now ∧ (takeUnprotect s).1.key = s.key ∧ (takeUnprotect s).1.groups = s.groups ∧ (takeUnprotect s).1.messages = s.messages ∧ (takeUnprotect s).1.lines = s.lines ∧ (takeUnprotect s).1.accounts = s.accounts ∧ (takeUnprotect s).1.cal = s.cal ∧ (takeUnprotect s).1.meters = s.meters ∧ (takeUnprotect s).1.queue = s.queue ∧ (takeUnprotect s).1.channels = s.channels ∧ (takeUnprotect s).1.tickets = s.tickets ∧ (takeUnprotect s).1.watches = s.watches ∧ (takeUnprotect s).1.sample = s.sample ∧ (takeUnprotect s).1.trunk = s.trunk ∧ (takeUnprotect s).1.mgt = s.mgt ∧ (takeUnprotect s).1.params = s.params ∧ (∀ j, (takeUnprotect s).1.line j = s.line j) ∧ (∀ j, (takeUnprotect s).1.channel j = s.channel j) ∧ (∀ j, (takeUnprotect s).1.meter j = s.meter j) ∧ (∀ j, (takeUnprotect s).1.account j = s.account j) ∧ (∀ j, (takeUnprotect s).1.row j = s.row j) ∧ (∀ j, (takeUnprotect s).1.message j = s.message j) := by
  unfold takeUnprotect; (try dsimp only); (refine ⟨?_, ?_, ?_, ?_, ?_, ?_, ?_, ?_, ?_, ?_, ?_, ?_, ?_, ?_, ?_, ?_, ?_, ?_, ?_, ?_, ?_, ?_, ?_, ?_⟩ <;> (try intro j) <;> (repeat' split) <;> first | (simp; done) | (simp [State.line, State.channel, State.meter, State.account, State.row, State.message, Management.load]; done) | rfl)

@[simp] theorem restoreIfAbove_frame (a : Fin 256) (s : State) :
    (restoreIfAbove a s).pending = s.pending ∧ (restoreIfAbove a s).inReset = s.inReset ∧ (restoreIfAbove a s).now = s.now ∧ (restoreIfAbove a s).key = s.key ∧ (restoreIfAbove a s).groups = s.groups ∧ (restoreIfAbove a s).messages = s.messages ∧ (restoreIfAbove a s).lines = s.lines ∧ (restoreIfAbove a s).dir = s.dir ∧ (restoreIfAbove a s).accounts = s.accounts ∧ (restoreIfAbove a s).cal = s.cal ∧ (restoreIfAbove a s).queue = s.queue ∧ (restoreIfAbove a s).channels = s.channels ∧ (restoreIfAbove a s).tickets = s.tickets ∧ (restoreIfAbove a s).watches = s.watches ∧ (restoreIfAbove a s).sample = s.sample ∧ (restoreIfAbove a s).trunk = s.trunk ∧ (restoreIfAbove a s).mgt = s.mgt ∧ (restoreIfAbove a s).params = s.params ∧ (∀ j, (restoreIfAbove a s).line j = s.line j) ∧ (∀ j, (restoreIfAbove a s).channel j = s.channel j) ∧ (∀ j, (restoreIfAbove a s).account j = s.account j) ∧ (∀ j, (restoreIfAbove a s).row j = s.row j) ∧ (∀ j, (restoreIfAbove a s).message j = s.message j) := by
  unfold restoreIfAbove; (try dsimp only); (refine ⟨?_, ?_, ?_, ?_, ?_, ?_, ?_, ?_, ?_, ?_, ?_, ?_, ?_, ?_, ?_, ?_, ?_, ?_, ?_, ?_, ?_, ?_, ?_⟩ <;> (try intro j) <;> (repeat' split) <;> first | (simp; done) | (simp [State.line, State.channel, State.meter, State.account, State.row, State.message, Management.load]; done) | rfl)

@[simp] theorem releaseRow_frame (r : Fin 64) (s : State) :
    (releaseRow r s).pending = s.pending ∧ (releaseRow r s).inReset = s.inReset ∧ (releaseRow r s).now = s.now ∧ (releaseRow r s).key = s.key ∧ (releaseRow r s).groups = s.groups ∧ (releaseRow r s).messages = s.messages ∧ (releaseRow r s).lines = s.lines ∧ (releaseRow r s).dir = s.dir ∧ (releaseRow r s).accounts = s.accounts ∧ (releaseRow r s).cal = s.cal ∧ (releaseRow r s).meters = s.meters ∧ (releaseRow r s).queue = s.queue ∧ (releaseRow r s).channels = s.channels ∧ (releaseRow r s).watches = s.watches ∧ (releaseRow r s).sample = s.sample ∧ (releaseRow r s).trunk = s.trunk ∧ (releaseRow r s).mgt = s.mgt ∧ (releaseRow r s).params = s.params ∧ (∀ j, (releaseRow r s).line j = s.line j) ∧ (∀ j, (releaseRow r s).channel j = s.channel j) ∧ (∀ j, (releaseRow r s).meter j = s.meter j) ∧ (∀ j, (releaseRow r s).account j = s.account j) ∧ (∀ j, (releaseRow r s).message j = s.message j) := by
  unfold releaseRow; (try dsimp only); (refine ⟨?_, ?_, ?_, ?_, ?_, ?_, ?_, ?_, ?_, ?_, ?_, ?_, ?_, ?_, ?_, ?_, ?_, ?_, ?_, ?_, ?_, ?_, ?_⟩ <;> (try intro j) <;> (repeat' split) <;> first | (simp; done) | (simp [State.line, State.channel, State.meter, State.account, State.row, State.message, Management.load]; done) | rfl)

@[simp] theorem setWatch_frame (k : Fin 4) (w : Watch) (s : State) :
    (setWatch k w s).pending = s.pending ∧ (setWatch k w s).inReset = s.inReset ∧ (setWatch k w s).now = s.now ∧ (setWatch k w s).key = s.key ∧ (setWatch k w s).groups = s.groups ∧ (setWatch k w s).messages = s.messages ∧ (setWatch k w s).lines = s.lines ∧ (setWatch k w s).dir = s.dir ∧ (setWatch k w s).accounts = s.accounts ∧ (setWatch k w s).cal = s.cal ∧ (setWatch k w s).meters = s.meters ∧ (setWatch k w s).queue = s.queue ∧ (setWatch k w s).channels = s.channels ∧ (setWatch k w s).tickets = s.tickets ∧ (setWatch k w s).sample = s.sample ∧ (setWatch k w s).trunk = s.trunk ∧ (setWatch k w s).mgt = s.mgt ∧ (setWatch k w s).params = s.params ∧ (∀ j, (setWatch k w s).line j = s.line j) ∧ (∀ j, (setWatch k w s).channel j = s.channel j) ∧ (∀ j, (setWatch k w s).meter j = s.meter j) ∧ (∀ j, (setWatch k w s).account j = s.account j) ∧ (∀ j, (setWatch k w s).row j = s.row j) ∧ (∀ j, (setWatch k w s).message j = s.message j) := by
  unfold setWatch; (try dsimp only); (refine ⟨?_, ?_, ?_, ?_, ?_, ?_, ?_, ?_, ?_, ?_, ?_, ?_, ?_, ?_, ?_, ?_, ?_, ?_, ?_, ?_, ?_, ?_, ?_, ?_⟩ <;> (try intro j) <;> (repeat' split) <;> first | (simp; done) | (simp [State.line, State.channel, State.meter, State.account, State.row, State.message, Management.load]; done) | rfl)

end Sys2Proof.Machine
end

