-- ==== Sys2Proof/Laws/LineOps.lean ====
section
/-! SUPPORT. The operations on one call record: which of its fields placing output, a notice request and the supervision of activity leave, and how writes of one line compose. -/

namespace Sys2Proof.Machine

open Sys2Proof

@[simp] theorem Line.place_state (ln : Line) (c : Byte) : (ln.place c).state = ln.state := by
  unfold Line.place; split <;> rfl

@[simp] theorem Line.place_group (ln : Line) (c : Byte) : (ln.place c).group = ln.group := by
  unfold Line.place; split <;> rfl

@[simp] theorem Line.place_rings (ln : Line) (c : Byte) : (ln.place c).rings = ln.rings := by
  unfold Line.place; split <;> rfl

@[simp] theorem Line.place_attempts (ln : Line) (c : Byte) : (ln.place c).attempts = ln.attempts := by
  unfold Line.place; split <;> rfl

@[simp] theorem Line.place_admission (ln : Line) (c : Byte) : (ln.place c).admission = ln.admission := by
  unfold Line.place; split <;> rfl

@[simp] theorem Line.place_channel (ln : Line) (c : Byte) : (ln.place c).channel = ln.channel := by
  unfold Line.place; split <;> rfl

@[simp] theorem Line.place_outOfService (ln : Line) (c : Byte) : (ln.place c).outOfService = ln.outOfService := by
  unfold Line.place; split <;> rfl

@[simp] theorem Line.place_idleWarned (ln : Line) (c : Byte) : (ln.place c).idleWarned = ln.idleWarned := by
  unfold Line.place; split <;> rfl

@[simp] theorem Line.place_notices (ln : Line) (c : Byte) : (ln.place c).notices = ln.notices := by
  unfold Line.place; split <;> rfl

@[simp] theorem Line.place_timers (ln : Line) (c : Byte) : (ln.place c).timers = ln.timers := by
  unfold Line.place; split <;> rfl

@[simp] theorem Line.place_rx (ln : Line) (c : Byte) : (ln.place c).rx = ln.rx := by
  unfold Line.place; split <;> rfl

@[simp] theorem Line.place_sending (ln : Line) (c : Byte) : (ln.place c).sending = ln.sending := by
  unfold Line.place; split <;> rfl

@[simp] theorem Line.place_lastSent (ln : Line) (c : Byte) : (ln.place c).lastSent = ln.lastSent := by
  unfold Line.place; split <;> rfl

@[simp] theorem Line.place_ri (ln : Line) (c : Byte) : (ln.place c).ri = ln.ri := by
  unfold Line.place; split <;> rfl

@[simp] theorem Line.place_dcd (ln : Line) (c : Byte) : (ln.place c).dcd = ln.dcd := by
  unfold Line.place; split <;> rfl

@[simp] theorem Line.place_dialogue (ln : Line) (c : Byte) : (ln.place c).dialogue = ln.dialogue := by
  unfold Line.place; split <;> rfl

@[simp] theorem Line.placeAll_state (ln : Line) (cs : List Byte) : (ln.placeAll cs).state = ln.state :=
  foldl_keeps (·.state) _ (fun b a => Line.place_state b a) cs ln

@[simp] theorem Line.placeAll_group (ln : Line) (cs : List Byte) : (ln.placeAll cs).group = ln.group :=
  foldl_keeps (·.group) _ (fun b a => Line.place_group b a) cs ln

@[simp] theorem Line.placeAll_rings (ln : Line) (cs : List Byte) : (ln.placeAll cs).rings = ln.rings :=
  foldl_keeps (·.rings) _ (fun b a => Line.place_rings b a) cs ln

@[simp] theorem Line.placeAll_attempts (ln : Line) (cs : List Byte) : (ln.placeAll cs).attempts = ln.attempts :=
  foldl_keeps (·.attempts) _ (fun b a => Line.place_attempts b a) cs ln

@[simp] theorem Line.placeAll_admission (ln : Line) (cs : List Byte) : (ln.placeAll cs).admission = ln.admission :=
  foldl_keeps (·.admission) _ (fun b a => Line.place_admission b a) cs ln

@[simp] theorem Line.placeAll_channel (ln : Line) (cs : List Byte) : (ln.placeAll cs).channel = ln.channel :=
  foldl_keeps (·.channel) _ (fun b a => Line.place_channel b a) cs ln

@[simp] theorem Line.placeAll_outOfService (ln : Line) (cs : List Byte) : (ln.placeAll cs).outOfService = ln.outOfService :=
  foldl_keeps (·.outOfService) _ (fun b a => Line.place_outOfService b a) cs ln

@[simp] theorem Line.placeAll_idleWarned (ln : Line) (cs : List Byte) : (ln.placeAll cs).idleWarned = ln.idleWarned :=
  foldl_keeps (·.idleWarned) _ (fun b a => Line.place_idleWarned b a) cs ln

@[simp] theorem Line.placeAll_notices (ln : Line) (cs : List Byte) : (ln.placeAll cs).notices = ln.notices :=
  foldl_keeps (·.notices) _ (fun b a => Line.place_notices b a) cs ln

@[simp] theorem Line.placeAll_timers (ln : Line) (cs : List Byte) : (ln.placeAll cs).timers = ln.timers :=
  foldl_keeps (·.timers) _ (fun b a => Line.place_timers b a) cs ln

@[simp] theorem Line.placeAll_rx (ln : Line) (cs : List Byte) : (ln.placeAll cs).rx = ln.rx :=
  foldl_keeps (·.rx) _ (fun b a => Line.place_rx b a) cs ln

@[simp] theorem Line.placeAll_sending (ln : Line) (cs : List Byte) : (ln.placeAll cs).sending = ln.sending :=
  foldl_keeps (·.sending) _ (fun b a => Line.place_sending b a) cs ln

@[simp] theorem Line.placeAll_lastSent (ln : Line) (cs : List Byte) : (ln.placeAll cs).lastSent = ln.lastSent :=
  foldl_keeps (·.lastSent) _ (fun b a => Line.place_lastSent b a) cs ln

@[simp] theorem Line.placeAll_ri (ln : Line) (cs : List Byte) : (ln.placeAll cs).ri = ln.ri :=
  foldl_keeps (·.ri) _ (fun b a => Line.place_ri b a) cs ln

@[simp] theorem Line.placeAll_dcd (ln : Line) (cs : List Byte) : (ln.placeAll cs).dcd = ln.dcd :=
  foldl_keeps (·.dcd) _ (fun b a => Line.place_dcd b a) cs ln

@[simp] theorem Line.placeAll_dialogue (ln : Line) (cs : List Byte) : (ln.placeAll cs).dialogue = ln.dialogue :=
  foldl_keeps (·.dialogue) _ (fun b a => Line.place_dialogue b a) cs ln

@[simp] theorem Line.request_state (now : Nat) (m : Fin 24) (v : Int) (ln : Line) : (Line.request now m v ln).state = ln.state := by
  unfold Line.request; split <;> rfl

@[simp] theorem Line.request_group (now : Nat) (m : Fin 24) (v : Int) (ln : Line) : (Line.request now m v ln).group = ln.group := by
  unfold Line.request; split <;> rfl

@[simp] theorem Line.request_rings (now : Nat) (m : Fin 24) (v : Int) (ln : Line) : (Line.request now m v ln).rings = ln.rings := by
  unfold Line.request; split <;> rfl

@[simp] theorem Line.request_attempts (now : Nat) (m : Fin 24) (v : Int) (ln : Line) : (Line.request now m v ln).attempts = ln.attempts := by
  unfold Line.request; split <;> rfl

@[simp] theorem Line.request_admission (now : Nat) (m : Fin 24) (v : Int) (ln : Line) : (Line.request now m v ln).admission = ln.admission := by
  unfold Line.request; split <;> rfl

@[simp] theorem Line.request_channel (now : Nat) (m : Fin 24) (v : Int) (ln : Line) : (Line.request now m v ln).channel = ln.channel := by
  unfold Line.request; split <;> rfl

@[simp] theorem Line.request_outOfService (now : Nat) (m : Fin 24) (v : Int) (ln : Line) : (Line.request now m v ln).outOfService = ln.outOfService := by
  unfold Line.request; split <;> rfl

@[simp] theorem Line.request_idleWarned (now : Nat) (m : Fin 24) (v : Int) (ln : Line) : (Line.request now m v ln).idleWarned = ln.idleWarned := by
  unfold Line.request; split <;> rfl

@[simp] theorem Line.request_timers (now : Nat) (m : Fin 24) (v : Int) (ln : Line) : (Line.request now m v ln).timers = ln.timers := by
  unfold Line.request; split <;> rfl

@[simp] theorem Line.request_rx (now : Nat) (m : Fin 24) (v : Int) (ln : Line) : (Line.request now m v ln).rx = ln.rx := by
  unfold Line.request; split <;> rfl

@[simp] theorem Line.request_sending (now : Nat) (m : Fin 24) (v : Int) (ln : Line) : (Line.request now m v ln).sending = ln.sending := by
  unfold Line.request; split <;> rfl

@[simp] theorem Line.request_lastSent (now : Nat) (m : Fin 24) (v : Int) (ln : Line) : (Line.request now m v ln).lastSent = ln.lastSent := by
  unfold Line.request; split <;> rfl

@[simp] theorem Line.request_ri (now : Nat) (m : Fin 24) (v : Int) (ln : Line) : (Line.request now m v ln).ri = ln.ri := by
  unfold Line.request; split <;> rfl

@[simp] theorem Line.request_dcd (now : Nat) (m : Fin 24) (v : Int) (ln : Line) : (Line.request now m v ln).dcd = ln.dcd := by
  unfold Line.request; split <;> rfl

@[simp] theorem Line.request_dialogue (now : Nat) (m : Fin 24) (v : Int) (ln : Line) : (Line.request now m v ln).dialogue = ln.dialogue := by
  unfold Line.request; split <;> rfl

@[simp] theorem Line.request_tx (now : Nat) (m : Fin 24) (v : Int) (ln : Line) : (Line.request now m v ln).tx = ln.tx := by
  unfold Line.request; split <;> rfl

theorem Line.placeAll_append (ln : Line) (a b : List Byte) : ln.placeAll (a ++ b) = (ln.placeAll a).placeAll b := by
  simp [Line.placeAll, List.foldl_append]

@[simp] theorem Line.placeAll_nil (ln : Line) : ln.placeAll [] = ln := rfl

@[simp] theorem State.setLine_setLine (s : State) (l : Fin 32) (x y : Line) : (s.setLine l x).setLine l y = s.setLine l y := by
  simp [State.setLine]

@[simp] theorem State.updLine_setLine (s : State) (l : Fin 32) (x : Line) (f : Line → Line) : (s.setLine l x).updLine l f = s.setLine l (f x) := by
  simp [State.updLine]

theorem State.updLine_eq (s : State) (l : Fin 32) (f : Line → Line) : s.updLine l f = s.setLine l (f (s.line l)) := rfl

@[simp] theorem State.setChannel_setChannel (s : State) (c : Fin 24) (x y : Channel) : (s.setChannel c x).setChannel c y = s.setChannel c y := by
  simp [State.setChannel]

@[simp] theorem State.updChannel_setChannel (s : State) (c : Fin 24) (x : Channel) (f : Channel → Channel) :
    (s.setChannel c x).updChannel c f = s.setChannel c (f x) := by
  simp [State.updChannel]

theorem State.updChannel_eq (s : State) (c : Fin 24) (f : Channel → Channel) : s.updChannel c f = s.setChannel c (f (s.channel c)) := rfl

@[simp] theorem State.withNow_line (s : State) (n : Nat) (l : Fin 32) : ({ s with now := n } : State).line l = s.line l := rfl
@[simp] theorem State.withNow_channel (s : State) (n : Nat) (c : Fin 24) : ({ s with now := n } : State).channel c = s.channel c := rfl
@[simp] theorem State.withNow_meter (s : State) (n : Nat) (c : Fin 24) : ({ s with now := n } : State).meter c = s.meter c := rfl
@[simp] theorem State.withNow_account (s : State) (n : Nat) (a : Fin 256) : ({ s with now := n } : State).account a = s.account a := rfl
@[simp] theorem State.withNow_row (s : State) (n : Nat) (r : Fin 64) : ({ s with now := n } : State).row r = s.row r := rfl
@[simp] theorem State.withNow_message (s : State) (n : Nat) (m : Fin 24) : ({ s with now := n } : State).message m = s.message m := rfl
@[simp] theorem State.withNow_groupOf (s : State) (n : Nat) (ln : Line) : ({ s with now := n } : State).groupOf ln = s.groupOf ln := rfl
@[simp] theorem State.setLine_groupOf (s : State) (l : Fin 32) (x ln : Line) : (s.setLine l x).groupOf ln = s.groupOf ln := rfl

/-- A record written back as it stands changes nothing. -/
@[simp] theorem State.setLine_self (s : State) (l : Fin 32) : s.setLine l (s.line l) = s := by
  simp [State.setLine, State.line]

/-- A channel record written back as it stands changes nothing. -/
@[simp] theorem State.setChannel_self (s : State) (c : Fin 24) : s.setChannel c (s.channel c) = s := by
  simp [State.setChannel, State.channel]

end Sys2Proof.Machine
end

