-- ==== Sys2Proof/Laws/PerInstr.lean ====
section
/-! SUPPORT. One lemma for each command of the table: the code it sends, its stated length and its parameter bytes (R183, R184, R200). -/

namespace Sys2Proof.Laws.Index

open Sys2Proof Sys2Proof.Machine

/-- R183, R184, R200: the block of a well-formed command row states a length of one byte; it carries a code of the index with as many parameter bytes as it states, but for an unknown command, whose code is none of the index, and a continuation, which carries at most the 58 bytes of a block. -/
def Statement (i : Instr) : Prop :=
  i.wellFormed = true → ∀ b, blockOf i = some b → b.length ≤ 255 ∧
    match i with
    | .unknownCommand _ _ => b.code ∉ commandCodes ∧ b.bytes = []
    | .continuation _ _ _ _ _ => b.bytes.length ≤ 58
    | _ => b.code ∈ commandCodes ∧ b.bytes.length = b.length

theorem powerOn (written : Byte) : Statement (.powerOn written) := by
  intro _ b hb
  cases hb

theorem resetN (written : Byte) : Statement (.resetN written) := by
  intro _ b hb
  cases hb

theorem resetNRelease : Statement .resetNRelease := by
  intro _ b hb
  cases hb

theorem ringBurst (line : Fin 32) : Statement (.ringBurst line) := by
  intro _ b hb
  cases hb

theorem dcdUp (line : Fin 32) : Statement (.dcdUp line) := by
  intro _ b hb
  cases hb

theorem dcdDown (line : Fin 32) : Statement (.dcdDown line) := by
  intro _ b hb
  cases hb

theorem characterReceived (line : Fin 32) (char : Byte) : Statement (.characterReceived line char) := by
  intro _ b hb
  cases hb

theorem lineBreak (line : Fin 32) : Statement (.lineBreak line) := by
  intro _ b hb
  cases hb

theorem characterSent (line : Fin 32) : Statement (.characterSent line) := by
  intro _ b hb
  cases hb

theorem noticeBegin (line : Fin 32) : Statement (.noticeBegin line) := by
  intro _ b hb
  cases hb

theorem noticeEnd (line : Fin 32) : Statement (.noticeEnd line) := by
  intro _ b hb
  cases hb

theorem prompt (line : Fin 32) : Statement (.prompt line) := by
  intro _ b hb
  cases hb

theorem lineDrainEnd (line : Fin 32) : Statement (.lineDrainEnd line) := by
  intro _ b hb
  cases hb

theorem ringGapExpiry (line : Fin 32) : Statement (.ringGapExpiry line) := by
  intro _ b hb
  cases hb

theorem answerTimerExpiry (line : Fin 32) : Statement (.answerTimerExpiry line) := by
  intro _ b hb
  cases hb

theorem signOnTimerExpiry (line : Fin 32) : Statement (.signOnTimerExpiry line) := by
  intro _ b hb
  cases hb

theorem carrierLoss (line : Fin 32) : Statement (.carrierLoss line) := by
  intro _ b hb
  cases hb

theorem drainTimerExpiry (line : Fin 32) : Statement (.drainTimerExpiry line) := by
  intro _ b hb
  cases hb

theorem guardTimerExpiry (line : Fin 32) : Statement (.guardTimerExpiry line) := by
  intro _ b hb
  cases hb

theorem idleTimerExpiry (line : Fin 32) : Statement (.idleTimerExpiry line) := by
  intro _ b hb
  cases hb

theorem lookupCompletion (line : Fin 32) : Statement (.lookupCompletion line) := by
  intro _ b hb
  cases hb

theorem grant : Statement .grant := by
  intro _ b hb
  cases hb

theorem noticeTimerExpiry (line : Fin 32) : Statement (.noticeTimerExpiry line) := by
  intro _ b hb
  cases hb

theorem waitExpiry (line : Fin 32) : Statement (.waitExpiry line) := by
  intro _ b hb
  cases hb

theorem offerTimeout (channel : Fin 24) : Statement (.offerTimeout channel) := by
  intro _ b hb
  cases hb

theorem closeTimeout (channel : Fin 24) : Statement (.closeTimeout channel) := by
  intro _ b hb
  cases hb

theorem graceExpiry (channel : Fin 24) : Statement (.graceExpiry channel) := by
  intro _ b hb
  cases hb

theorem expelExpiry (channel : Fin 24) : Statement (.expelExpiry channel) := by
  intro _ b hb
  cases hb

theorem stageExpiry : Statement .stageExpiry := by
  intro _ b hb
  cases hb

theorem writeCompletion : Statement .writeCompletion := by
  intro _ b hb
  cases hb

theorem protectionWriteCompletion : Statement .protectionWriteCompletion := by
  intro _ b hb
  cases hb

theorem secondBoundary (order : List (Fin 24)) : Statement (.secondBoundary order) := by
  intro _ b hb
  cases hb

theorem sampleExpiry : Statement .sampleExpiry := by
  intro _ b hb
  cases hb

theorem trunkLoss : Statement .trunkLoss := by
  intro _ b hb
  cases hb

theorem downwardBlock (bytes : List Byte) (levels : InputLevels) : Statement (.downwardBlock bytes levels) := by
  intro _ b hb
  cases hb

theorem dataSegment (channel : Fin 24) (chars : List Byte) : Statement (.dataSegment channel chars) := by
  intro _ b hb
  cases hb

theorem accept (channel : Fin 24) : Statement (.accept channel) := by
  intro _ b hb
  cases hb

theorem reject (channel : Fin 24) (reason : Byte) : Statement (.reject channel reason) := by
  intro _ b hb
  cases hb

theorem close (channel : Fin 24) : Statement (.close channel) := by
  intro _ b hb
  cases hb

theorem closed (channel : Fin 24) : Statement (.closed channel) := by
  intro _ b hb
  cases hb

theorem flow (channel : Fin 24) (go : Bool) : Statement (.flow channel go) := by
  intro _ b hb
  cases hb

theorem upwardBlock : Statement .upwardBlock := by
  intro _ b hb
  cases hb

theorem serviceBlock : Statement .serviceBlock := by
  intro _ b hb
  cases hb

theorem unknownCommand (tag code : Byte) : Statement (.unknownCommand tag code) := by
  intro h b hb
  cases hb
  simp only [Instr.wellFormed, Bool.not_eq_true', List.contains_eq_mem, decide_eq_false_iff_not] at h
  exact ⟨Nat.zero_le _, h, rfl⟩

theorem continuation (tag code length : Byte) (bytes : List Byte) (levels : InputLevels) : Statement (.continuation tag code length bytes levels) := by
  intro h b hb
  cases hb
  simp only [Instr.wellFormed, decide_eq_true_eq] at h
  exact ⟨by have := length.isLt; show length.toNat ≤ 255; omega, h⟩

theorem loadGroup (tag group enabled firstLine size ringCount answerTimeout carrierLoss signOnLimit attempts idleWarn idleClear activity factor answerMask : Byte) : Statement (.loadGroup tag group enabled firstLine size ringCount answerTimeout carrierLoss signOnLimit attempts idleWarn idleClear activity factor answerMask) := by
  intro _ b hb
  cases hb
  simp [commandCodes]

theorem loadMessage (tag slot length : Byte) (text : List Byte) : Statement (.loadMessage tag slot length text) := by
  intro h b hb
  simp only [Instr.wellFormed, decide_eq_true_eq] at h
  cases hb
  simp [commandCodes]
  omega

theorem broadcast (tag length : Byte) (text : List Byte) : Statement (.broadcast tag length text) := by
  intro h b hb
  simp only [Instr.wellFormed, decide_eq_true_eq] at h
  cases hb
  simp [commandCodes]
  omega

theorem lineOutOfService (tag line : Byte) : Statement (.lineOutOfService tag line) := by
  intro _ b hb
  cases hb
  simp [commandCodes]

theorem lineReturn (tag line : Byte) : Statement (.lineReturn tag line) := by
  intro _ b hb
  cases hb
  simp [commandCodes]

theorem forceClear (tag line : Byte) : Statement (.forceClear tag line) := by
  intro _ b hb
  cases hb
  simp [commandCodes]

theorem readLine (tag line : Byte) (ring : Bool) : Statement (.readLine tag line ring) := by
  intro _ b hb
  cases hb
  simp [commandCodes]

theorem stageEntry (tag : Byte) (index : Half) (code : List Byte) (keep : Byte) (password : List Byte) (account cls enabled : Byte) : Statement (.stageEntry tag index code keep password account cls enabled) := by
  intro h b hb
  simp only [Instr.wellFormed, Bool.and_eq_true, decide_eq_true_eq] at h
  cases hb
  simp [commandCodes, halfBytes, h.1, h.2]

theorem commitPage (tag : Byte) : Statement (.commitPage tag) := by
  intro _ b hb
  cases hb
  simp [commandCodes]

theorem discardStage (tag : Byte) : Statement (.discardStage tag) := by
  intro _ b hb
  cases hb
  simp [commandCodes]

theorem readEntry (tag : Byte) (index : Half) : Statement (.readEntry tag index) := by
  intro _ b hb
  cases hb
  simp [commandCodes, halfBytes]

theorem findUser (tag : Byte) (code : List Byte) : Statement (.findUser tag code) := by
  intro h b hb
  simp only [Instr.wellFormed, decide_eq_true_eq] at h
  cases hb
  simp [commandCodes, h]

theorem unlockUser (tag : Byte) (index : Half) : Statement (.unlockUser tag index) := by
  intro _ b hb
  cases hb
  simp [commandCodes, halfBytes]

theorem protectBlock (tag block : Byte) : Statement (.protectBlock tag block) := by
  intro _ b hb
  cases hb
  simp [commandCodes]

theorem protectTariffs (tag : Byte) : Statement (.protectTariffs tag) := by
  intro _ b hb
  cases hb
  simp [commandCodes]

theorem unprotectAll (tag : Byte) (key : Bool) : Statement (.unprotectAll tag key) := by
  intro _ b hb
  cases hb
  simp [commandCodes]

theorem readProtection (tag : Byte) (key : Bool) : Statement (.readProtection tag key) := by
  intro _ b hb
  cases hb
  simp [commandCodes]

theorem setAccount (tag account state : Byte) (balance overdraft warn : Triple) (limit : Byte) : Statement (.setAccount tag account state balance overdraft warn limit) := by
  intro _ b hb
  cases hb
  simp [commandCodes, wideBytes]

theorem setAccountState (tag account state : Byte) : Statement (.setAccountState tag account state) := by
  intro _ b hb
  cases hb
  simp [commandCodes]

theorem creditAccount (tag account : Byte) (amount : Triple) : Statement (.creditAccount tag account amount) := by
  intro _ b hb
  cases hb
  simp [commandCodes, wideBytes]

theorem readAccount (tag account : Byte) : Statement (.readAccount tag account) := by
  intro _ b hb
  cases hb
  simp [commandCodes]

theorem setClock (tag seconds minutes hours weekday day month year : Byte) : Statement (.setClock tag seconds minutes hours weekday day month year) := by
  intro _ b hb
  cases hb
  simp [commandCodes]

theorem readClock (tag : Byte) : Statement (.readClock tag) := by
  intro _ b hb
  cases hb
  simp [commandCodes]

theorem loadHoliday (tag entry month day : Byte) : Statement (.loadHoliday tag entry month day) := by
  intro _ b hb
  cases hb
  simp [commandCodes]

theorem readHoliday (tag entry : Byte) : Statement (.readHoliday tag entry) := by
  intro _ b hb
  cases hb
  simp [commandCodes]

theorem loadSchedule (tag entry enabled weekdays hour minute period : Byte) : Statement (.loadSchedule tag entry enabled weekdays hour minute period) := by
  intro _ b hb
  cases hb
  simp [commandCodes]

theorem readSchedule (tag entry : Byte) : Statement (.readSchedule tag entry) := by
  intro _ b hb
  cases hb
  simp [commandCodes]

theorem loadDaystart (tag weekday period : Byte) : Statement (.loadDaystart tag weekday period) := by
  intro _ b hb
  cases hb
  simp [commandCodes]

theorem readDaystart (tag : Byte) : Statement (.readDaystart tag) := by
  intro _ b hb
  cases hb
  simp [commandCodes]

theorem loadRate (tag period cls : Byte) (rate : Half) : Statement (.loadRate tag period cls rate) := by
  intro _ b hb
  cases hb
  simp [commandCodes, halfBytes]

theorem readRate (tag period : Byte) : Statement (.readRate tag period) := by
  intro _ b hb
  cases hb
  simp [commandCodes]

theorem loadPermit (tag period cls permit : Byte) : Statement (.loadPermit tag period cls permit) := by
  intro _ b hb
  cases hb
  simp [commandCodes]

theorem readPermit (tag period : Byte) : Statement (.readPermit tag period) := by
  intro _ b hb
  cases hb
  simp [commandCodes]

theorem loadClass (tag cls setup : Byte) (maximum : Half) (grace priority essential : Byte) : Statement (.loadClass tag cls setup maximum grace priority essential) := by
  intro _ b hb
  cases hb
  simp [commandCodes, halfBytes]

theorem readClass (tag cls : Byte) : Statement (.readClass tag cls) := by
  intro _ b hb
  cases hb
  simp [commandCodes]

theorem readPeriod (tag : Byte) : Statement (.readPeriod tag) := by
  intro _ b hb
  cases hb
  simp [commandCodes]

theorem setChannelPriority (tag channel flag : Byte) : Statement (.setChannelPriority tag channel flag) := by
  intro _ b hb
  cases hb
  simp [commandCodes]

theorem clearChannel (tag channel : Byte) : Statement (.clearChannel tag channel) := by
  intro _ b hb
  cases hb
  simp [commandCodes]

theorem readChannel (tag channel : Byte) : Statement (.readChannel tag channel) := by
  intro _ b hb
  cases hb
  simp [commandCodes]

theorem readQueue (tag : Byte) : Statement (.readQueue tag) := by
  intro _ b hb
  cases hb
  simp [commandCodes]

theorem fetchTicket (tag : Byte) : Statement (.fetchTicket tag) := by
  intro _ b hb
  cases hb
  simp [commandCodes]

theorem releaseTicket (tag : Byte) (serial : Half) : Statement (.releaseTicket tag serial) := by
  intro _ b hb
  cases hb
  simp [commandCodes, halfBytes]

theorem readTicketCounts (tag : Byte) : Statement (.readTicketCounts tag) := by
  intro _ b hb
  cases hb
  simp [commandCodes]

theorem loadWatch (tag watch enabled mode upper lower critical hysteresis : Byte) : Statement (.loadWatch tag watch enabled mode upper lower critical hysteresis) := by
  intro _ b hb
  cases hb
  simp [commandCodes]

theorem readWatch (tag watch : Byte) : Statement (.readWatch tag watch) := by
  intro _ b hb
  cases hb
  simp [commandCodes]

theorem ackAlert (tag watch : Byte) : Statement (.ackAlert tag watch) := by
  intro _ b hb
  cases hb
  simp [commandCodes]

theorem openService (tag : Byte) : Statement (.openService tag) := by
  intro _ b hb
  cases hb
  simp [commandCodes]

theorem drainService (tag : Byte) : Statement (.drainService tag) := by
  intro _ b hb
  cases hb
  simp [commandCodes]

theorem closeService (tag : Byte) : Statement (.closeService tag) := by
  intro _ b hb
  cases hb
  simp [commandCodes]

theorem restart (tag : Byte) : Statement (.restart tag) := by
  intro _ b hb
  cases hb
  simp [commandCodes]

theorem loadParameters (tag lockout queueWait queueNotice offer close expelGrace holidayWeekday nd selector1 selector2 shedSource polarity : Byte) : Statement (.loadParameters tag lockout queueWait queueNotice offer close expelGrace holidayWeekday nd selector1 selector2 shedSource polarity) := by
  intro _ b hb
  cases hb
  simp [commandCodes]

theorem readParameters (tag : Byte) : Statement (.readParameters tag) := by
  intro _ b hb
  cases hb
  simp [commandCodes]

theorem readCounters (tag : Byte) : Statement (.readCounters tag) := by
  intro _ b hb
  cases hb
  simp [commandCodes]

end Sys2Proof.Laws.Index
end

