-- ==== Sys2Proof/Laws/Store.lean ====
section
/-! SUPPORT. The canonical lists of the store and the shadow: what a write does to every read, and that every operation on the directory keeps the canonical form. -/

namespace Sys2Proof.Machine

open Sys2Proof

section Sparse

variable {α : Type} [DecidableEq α] {d : α}

/-- Every index of the list is at least `k`. -/
def indicesFrom (k : Nat) (l : List (Nat × α)) : Prop := ∀ e ∈ l, k ≤ e.1

theorem sparseWf_nil : sparseWf d [] = true := by simp [sparseWf]

theorem sparseWf_cons {j : Nat} {w : α} {t : List (Nat × α)} :
    sparseWf d ((j, w) :: t) = true ↔ indicesFrom (j + 1) t ∧ w ≠ d ∧ sparseWf d t = true := by
  simp only [sparseWf, indicesFrom, Bool.and_eq_true, decide_eq_true_eq, List.pairwise_cons, List.all_cons]
  constructor
  · rintro ⟨⟨h1, h2⟩, h3, h4⟩; exact ⟨h1, h3, h2, h4⟩
  · rintro ⟨h1, h3, h2, h4⟩; exact ⟨⟨h1, h2⟩, h3, h4⟩

omit [DecidableEq α] in
/-- An index below every index of the list reads as the default. -/
theorem sparseGet_below {l : List (Nat × α)} {k : Nat} (h : indicesFrom (k + 1) l) : sparseGet d l k = d := by
  induction l with
  | nil => rfl
  | cons e t ih =>
    obtain ⟨j, w⟩ := e
    have hj : k + 1 ≤ j := h (j, w) (by simp)
    have : j ≠ k := by omega
    simp only [sparseGet, if_neg this]
    exact ih (fun e he => h e (by simp [he]))

/-- The index written reads as what was written. -/
theorem sparseGet_put_self {l : List (Nat × α)} (hl : sparseWf d l = true) (k : Nat) (v : α) :
    sparseGet d (sparsePut d l k v) k = v := by
  induction l with
  | nil => by_cases h : v = d <;> simp [sparsePut, sparseGet, h]
  | cons e t ih =>
    obtain ⟨j, w⟩ := e
    obtain ⟨h1, h2, h3⟩ := sparseWf_cons.mp hl
    simp only [sparsePut]
    split
    · next hk =>
      split
      · next hv =>
        subst hv
        apply sparseGet_below
        intro e he
        rcases List.mem_cons.mp he with rfl | he
        · exact hk
        · have := h1 e he; omega
      · simp [sparseGet]
    · split
      · next hk =>
        subst hk
        split
        · next hv => subst hv; exact sparseGet_below h1
        · simp [sparseGet]
      · next hk hj =>
        have : j ≠ k := fun h => hj h.symm
        simp only [sparseGet, if_neg this]
        exact ih h3

/-- Every other index reads as before. -/
theorem sparseGet_put_other {l : List (Nat × α)} (hl : sparseWf d l = true) {k i : Nat} (h : i ≠ k) (v : α) :
    sparseGet d (sparsePut d l k v) i = sparseGet d l i := by
  induction l with
  | nil =>
    have : k ≠ i := fun h' => h h'.symm
    by_cases hv : v = d <;> simp [sparsePut, sparseGet, hv, this]
  | cons e t ih =>
    obtain ⟨j, w⟩ := e
    obtain ⟨h1, h2, h3⟩ := sparseWf_cons.mp hl
    have hk : k ≠ i := fun h' => h h'.symm
    simp only [sparsePut]
    split
    · split
      · rfl
      · simp [sparseGet, hk]
    · split
      · next hkj =>
        subst hkj
        split
        · simp [sparseGet, hk]
        · simp [sparseGet, hk]
      · simp only [sparseGet]; split
        · rfl
        · exact ih h3

/-- A write leaves the indices at or above `b` when the index written is. -/
theorem indicesFrom_put {l : List (Nat × α)} {b k : Nat} (h : indicesFrom b l) (hk : b ≤ k) (v : α) :
    indicesFrom b (sparsePut d l k v) := by
  induction l with
  | nil =>
    intro e he
    simp only [sparsePut] at he
    split at he
    · simp at he
    · simp only [List.mem_singleton] at he; subst he; exact hk
  | cons e t ih =>
    obtain ⟨j, w⟩ := e
    have hj : b ≤ j := h (j, w) (by simp)
    have ht : indicesFrom b t := fun e he => h e (by simp [he])
    intro e he
    simp only [sparsePut] at he
    split at he
    · split at he
      · exact h e he
      · rcases List.mem_cons.mp he with rfl | he
        · exact hk
        · exact h e he
    · split at he
      · split at he
        · exact ht e he
        · rcases List.mem_cons.mp he with rfl | he
          · exact hk
          · exact ht e he
      · rcases List.mem_cons.mp he with rfl | he
        · exact hj
        · exact ih ht e he

/-- A write keeps the canonical form. -/
theorem sparsePut_wf {l : List (Nat × α)} (hl : sparseWf d l = true) (k : Nat) (v : α) : sparseWf d (sparsePut d l k v) = true := by
  induction l with
  | nil =>
    by_cases hv : v = d
    · simp [sparsePut, hv, sparseWf_nil]
    · simp only [sparsePut, if_neg hv]
      exact sparseWf_cons.mpr ⟨fun e he => by simp at he, hv, sparseWf_nil⟩
  | cons e t ih =>
    obtain ⟨j, w⟩ := e
    obtain ⟨h1, h2, h3⟩ := sparseWf_cons.mp hl
    simp only [sparsePut]
    split
    · next hk =>
      split
      · exact hl
      · next hv =>
        refine sparseWf_cons.mpr ⟨fun e he => ?_, hv, hl⟩
        rcases List.mem_cons.mp he with rfl | he
        · exact hk
        · have := h1 e he; omega
    · split
      · next hk =>
        subst hk
        split
        · exact h3
        · next hv => exact sparseWf_cons.mpr ⟨h1, hv, h3⟩
      · next hk hj => exact sparseWf_cons.mpr ⟨indicesFrom_put h1 (by omega) v, h2, ih h3⟩

/-- A write below `n` keeps every index below `n`. -/
theorem sparsePut_below {l : List (Nat × α)} {n k : Nat} (h : l.all (fun e => decide (e.1 < n)) = true) (hk : k < n) (v : α) :
    (sparsePut d l k v).all (fun e => decide (e.1 < n)) = true := by
  induction l with
  | nil => by_cases hv : v = d <;> simp [sparsePut, hv, hk]
  | cons e t ih =>
    obtain ⟨j, w⟩ := e
    simp only [List.all_cons, Bool.and_eq_true, decide_eq_true_eq] at h
    simp only [sparsePut]
    split
    · split
      · simpa using h
      · simpa [hk] using h
    · split
      · split
        · exact h.2
        · simpa [hk] using h.2
      · simp only [List.all_cons, Bool.and_eq_true, decide_eq_true_eq]
        exact ⟨h.1, ih h.2⟩

/-- Two canonical lists that read alike at every index are the same list. -/
theorem sparse_ext {l l' : List (Nat × α)} (hl : sparseWf d l = true) (hl' : sparseWf d l' = true)
    (h : ∀ k, sparseGet d l k = sparseGet d l' k) : l = l' := by
  induction l generalizing l' with
  | nil =>
    cases l' with
    | nil => rfl
    | cons e t =>
      obtain ⟨j, w⟩ := e
      obtain ⟨_, h2, _⟩ := sparseWf_cons.mp hl'
      have := h j
      simp [sparseGet] at this
      exact absurd this.symm h2
  | cons e t ih =>
    obtain ⟨j, w⟩ := e
    obtain ⟨h1, h2, h3⟩ := sparseWf_cons.mp hl
    cases l' with
    | nil =>
      have := h j
      simp [sparseGet] at this
      exact absurd this h2
    | cons e' t' =>
      obtain ⟨j', w'⟩ := e'
      obtain ⟨h1', h2', h3'⟩ := sparseWf_cons.mp hl'
      have hj : j = j' := by
        rcases Nat.lt_trichotomy j j' with hlt | heq | hgt
        · have e1 := h j
          have e2 : sparseGet d ((j', w') :: t') j = d := by
            apply sparseGet_below
            intro e he
            rcases List.mem_cons.mp he with rfl | he
            · exact hlt
            · have := h1' e he; omega
          rw [e2] at e1; simp [sparseGet] at e1; exact absurd e1 h2
        · exact heq
        · have e1 := h j'
          have e2 : sparseGet d ((j, w) :: t) j' = d := by
            apply sparseGet_below
            intro e he
            rcases List.mem_cons.mp he with rfl | he
            · exact hgt
            · have := h1 e he; omega
          rw [e2] at e1; simp [sparseGet] at e1; exact absurd e1.symm h2'
      subst hj
      have hw : w = w' := by have := h j; simpa [sparseGet] using this
      subst hw
      have ht : t = t' := by
        apply ih h3 h3'
        intro k
        by_cases hk : j = k
        · subst hk; rw [sparseGet_below h1, sparseGet_below h1']
        · have := h k; simpa [sparseGet, hk] using this
      rw [ht]

end Sparse

/-! ## The directory -/

theorem Directory.wf_iff {d : Directory} : d.wf = true ↔ sparseWf Entry.empty d.store = true ∧ sparseWf Shadow.clear d.shadow = true ∧
    d.store.all (fun e => decide (e.1 < 1024)) = true ∧ d.shadow.all (fun e => decide (e.1 < 1024)) = true := by
  simp only [Directory.wf, Bool.and_eq_true, and_assoc]

/-- The canonical form speaks of the store and the shadow alone. -/
theorem Directory.wf_congr {d d' : Directory} (h : d'.store = d.store) (h' : d'.shadow = d.shadow) : d'.wf = d.wf := by
  simp only [Directory.wf, h, h']

theorem Directory.setEntry_wf {d : Directory} (h : d.wf = true) {k : Nat} (hk : k < 1024) (e : Entry) : (d.setEntry k e).wf = true := by
  rw [Directory.wf_iff] at *
  exact ⟨sparsePut_wf h.1 k e, h.2.1, sparsePut_below h.2.2.1 hk e, h.2.2.2⟩

theorem Directory.setShadow_wf {d : Directory} (h : d.wf = true) {k : Nat} (hk : k < 1024) (x : Shadow) : (d.setShadow k x).wf = true := by
  rw [Directory.wf_iff] at *
  exact ⟨h.1, sparsePut_wf h.2.1 k x, h.2.2.1, sparsePut_below h.2.2.2 hk x⟩

theorem Directory.entry_setEntry {d : Directory} (h : d.wf = true) (k i : Nat) (e : Entry) :
    (d.setEntry k e).entry i = if i = k then e else d.entry i := by
  rw [Directory.wf_iff] at h
  split
  · next hk => subst hk; exact sparseGet_put_self h.1 _ _
  · next hk => exact sparseGet_put_other h.1 hk _

theorem Directory.shadowOf_setShadow {d : Directory} (h : d.wf = true) (k i : Nat) (x : Shadow) :
    (d.setShadow k x).shadowOf i = if i = k then x else d.shadowOf i := by
  rw [Directory.wf_iff] at h
  split
  · next hk => subst hk; exact sparseGet_put_self h.2.1 _ _
  · next hk => exact sparseGet_put_other h.2.1 hk _

@[simp] theorem Directory.shadowOf_setEntry (d : Directory) (k i : Nat) (e : Entry) : (d.setEntry k e).shadowOf i = d.shadowOf i := rfl
@[simp] theorem Directory.entry_setShadow (d : Directory) (k i : Nat) (x : Shadow) : (d.setShadow k x).entry i = d.entry i := rfl

theorem Directory.writeStaged_wf {d : Directory} (h : d.wf = true) (e : Staged) : (d.writeStaged e).wf = true :=
  Directory.setEntry_wf h e.index.isLt _

/-- Every write of a list of staged entries keeps the canonical form. -/
theorem Directory.foldl_wf {f : Directory → Staged → Directory} (hf : ∀ d e, d.wf = true → (f d e).wf = true) :
    ∀ (es : List Staged) (d : Directory), d.wf = true → (es.foldl f d).wf = true
  | [], _, h => h
  | e :: es, d, h => Directory.foldl_wf hf es (f d e) (hf d e h)

theorem Directory.commit_wf {d : Directory} (h : d.wf = true) : d.commit.wf = true :=
  Directory.foldl_wf (fun _ e h => Directory.setShadow_wf (Directory.writeStaged_wf h e) e.index.isLt _) d.stage.staged d h

theorem Directory.interrupted_wf {d : Directory} (h : d.wf = true) (w : Byte) : (d.interrupted w).wf = true := by
  unfold Directory.interrupted
  split
  · exact Directory.foldl_wf (fun d e h => by split; exacts [Directory.writeStaged_wf h e, h]) _ d h
  · exact h
  · exact h
  · exact h

theorem Directory.afterReset_wf {d : Directory} (h : d.wf = true) (w : Byte) : (d.afterReset w).wf = true := by
  have h' := Directory.interrupted_wf h w
  rw [Directory.wf_iff] at *
  exact ⟨h'.1, sparseWf_nil, h'.2.2.1, rfl⟩

/-- An entry that the search finds is stored, not empty, and carries the code; its index is below 1024. -/
theorem Directory.find_some {d : Directory} (h : d.wf = true) {code : List Byte} {i : Nat} {e : Entry} (hf : d.find code = some (i, e)) :
    i < 1024 ∧ (i, e) ∈ d.store ∧ e.isEmpty = false ∧ e.code = code := by
  rw [Directory.wf_iff] at h
  have hm := List.mem_of_find?_eq_some hf
  have hp := List.find?_some hf
  have hb := List.all_eq_true.mp h.2.2.1 _ hm
  simp only [Bool.and_eq_true, Bool.not_eq_true', decide_eq_true_eq] at hp hb
  exact ⟨hb, hm, hp.1, hp.2⟩

theorem recordFailure_wf {s : State} (h : s.dir.wf = true) {i : Nat} (hi : i < 1024) : (recordFailure i s).dir.wf = true :=
  Directory.setShadow_wf h hi _

theorem resetFailures_wf {s : State} (h : s.dir.wf = true) {i : Nat} (hi : i < 1024) : (resetFailures i s).dir.wf = true :=
  Directory.setShadow_wf h hi _

/-- The directory of a part as shipped is in canonical form. -/
theorem Directory.shipped_wf : (⟨[], [], 0, false, .powerOn⟩ : Directory).wf = true := rfl

end Sys2Proof.Machine
end

