-- ==== Sys2Proof/Laws/Teardown.lean ====
section
/-! SUPPORT. The teardown of TRUNK_LOSS, CLOSE SERVICE and RESTART step by step: what abandoning every dialogue, removing a waiter and taking one channel down make of the state, in the terms of Safety.lean. -/

namespace Sys2Proof.Machine

open Sys2Proof

theorem drainEnd_idle {s : State} (h : s.mgt.service ≠ .draining) : drainEnd s = s := by
  simp [drainEnd, h]

/-- Every line of a list, each once, changed by `f`. -/
theorem foldl_setLine (f : Line → Line) (ls : List (Fin 32)) (h : ls.Nodup) (s : State) :
    ls.foldl (fun s l => s.setLine l (f (s.line l))) s =
      { s with lines := Vector.ofFn fun l => if l ∈ ls then f (s.line l) else s.line l } := by
  induction ls generalizing s with
  | nil =>
    have e : (Vector.ofFn fun l => if l ∈ ([] : List (Fin 32)) then f (s.line l) else s.line l) = s.lines := by
      apply Vector.ext
      intro i hi
      simp [State.line]
    rw [List.foldl_nil, e]
  | cons k ks ih =>
    rw [List.nodup_cons] at h
    rw [List.foldl_cons, ih h.2]
    have e : (Vector.ofFn fun l => if l ∈ ks then f ((s.setLine k (f (s.line k))).line l) else (s.setLine k (f (s.line k))).line l) =
        Vector.ofFn fun l => if l ∈ k :: ks then f (s.line l) else s.line l := by
      apply Vector.ext
      intro i hi
      simp only [Vector.getElem_ofFn, State.line, State.setLine, Fin.getElem_fin, List.mem_cons, Fin.ext_iff]
      by_cases e : k.val = i
      · subst e
        simp [h.1]
      · simp [e, Ne.symm e]
    rw [e]
    rfl

/-- R33: an abandonment request naming message `m`, while no drain can end. -/
theorem abandon_eq (l : Fin 32) (m : Fin 24) {s : State} (h : s.mgt.service ≠ .draining) :
    abandon l (some m) s =
      s.setLine l (if (s.line l).state ∈ [.signon, .checking] then (s.line l).torn s.now (s.message m) else s.line l) := by
  by_cases hd : (s.line l).state.inDialogue = true
  · have hs : (s.line l).state = .signon ∨ (s.line l).state = .checking := by
      revert hd; cases (s.line l).state <;> simp [LineState.inDialogue]
    have hm : (s.line l).state ∈ [LineState.signon, .checking] := by simpa using hs
    have ht : (s.line l).torn s.now (s.message m) = Line.draining s.now ((s.line l).refused (s.message m)
        (if (s.line l).dialogue.lookup = .inFlight then .discarded else (s.line l).dialogue.lookup)) := by
      rcases hs with hs | hs <;> simp [Line.torn, hs]
    rw [if_pos hm, ht]
    have hi : ((endDialogue l (placeMessage l m s)).line l).state.inDialogue = true := by
      simpa [endDialogue, placeMessage, State.updLine, State.setLine, State.line] using hd
    rw [abandon, if_pos hd, refuseRequest, if_pos hi, drainEnd_idle (by simpa [toDraining, endDialogue, placeMessage] using h)]
    have hc : (s.line l).state ≠ .connected := by rcases hs with hs | hs <;> simp [hs]
    simp [toDraining, endDialogue, placeMessage, State.updLine_eq, Line.enterDraining, Line.draining, Line.refused, Dialogue.ended, hc, Config.drain, Config.second]
  · have hm : (s.line l).state ∉ [LineState.signon, .checking] := by
      intro k; apply hd; revert k; cases (s.line l).state <;> simp [LineState.inDialogue]
    rw [if_neg hm, abandon, if_neg hd, State.setLine_self]

/-- R172 step 3, R192 step 2: the dialogues abandoned, while no drain can end. -/
theorem abandonAll_eq (m : Fin 24) {s : State} (h : s.mgt.service ≠ .draining) :
    abandonAll m s = s.dialoguesEnded (s.message m) := by
  have step : ∀ (ls : List (Fin 32)) (t : State), t.mgt = s.mgt → t.now = s.now → t.messages = s.messages →
      ls.foldl (fun s l => abandon l (some m) s) t = ls.foldl (fun t l => t.setLine l
        ((fun ln : Line => if ln.state ∈ [LineState.signon, .checking] then ln.torn s.now (s.message m) else ln) (t.line l))) t := by
    intro ls
    induction ls with
    | nil => intros; rfl
    | cons k ks ih =>
      intro t h1 h2 h3
      rw [List.foldl_cons, List.foldl_cons, abandon_eq k m (by rw [h1]; exact h)]
      have e : t.message m = s.message m := by simp [State.message, h3]
      rw [e, h2]
      exact ih _ h1 h2 h3
  refine (step _ _ rfl rfl rfl).trans ((foldl_setLine
    (fun ln : Line => if ln.state ∈ [LineState.signon, .checking] then ln.torn s.now (s.message m) else ln)
    allLines (List.nodup_finRange 32) s).trans ?_)
  simp [State.dialoguesEnded, allLines]

/-- R84, R85, R16: a waiting or offered line gets message `m`, its admission ends and it drains, while no drain of the service can end. -/
theorem line_leaves (l : Fin 32) (m : Fin 24) {s : State} (h : s.mgt.service ≠ .draining)
    (hl : (s.line l).state = .waiting ∨ (s.line l).state = .offered) {a : Admission} (ha : (s.line l).admission = some a) :
    removeRequest l (endLineAdmission l (notify l m 0 s)) = { s with
      accounts := s.accounts.set a.account { s.account a.account with openCount := (s.account a.account).openCount - 1 }
      lines := s.lines.set l (Line.draining s.now { Line.request s.now m 0 (s.line l) with admission := none, channel := none }) } := by
  have ha' : ((notify l m 0 s).line l).admission = some a := by
    simpa [notify, State.updLine, State.setLine, State.line] using ha
  have hc : (s.line l).state ≠ .connected := by rcases hl with hl | hl <;> simp [hl]
  rw [endLineAdmission, ha']
  simp only [endAdmission]
  rw [drainEnd_idle (by simpa [notify] using h), removeRequest, if_pos (by
    simpa [notify, State.updLine, State.updAccount, State.setAccount, State.setLine, State.line] using hl)]
  change s.lines[l.val].state ≠ .connected at hc
  simp [toDraining, notify, State.updLine, State.updAccount, State.setAccount, State.setLine, State.line, State.account,
    Line.enterDraining, Line.draining, hc, Config.drain, Config.second]

/-- The same with the admission ended before the message is queued, as the end of an offer does it (R135). -/
theorem line_leaves_offer (l : Fin 32) (m : Fin 24) {s : State} (h : s.mgt.service ≠ .draining)
    (hl : (s.line l).state = .waiting ∨ (s.line l).state = .offered) {a : Admission} (ha : (s.line l).admission = some a) :
    removeRequest l (notify l m 0 (endLineAdmission l s)) = { s with
      accounts := s.accounts.set a.account { s.account a.account with openCount := (s.account a.account).openCount - 1 }
      lines := s.lines.set l (Line.draining s.now { Line.request s.now m 0 (s.line l) with admission := none, channel := none }) } := by
  rw [← line_leaves l m h hl ha]
  congr 1
  have ha' : ((notify l m 0 s).line l).admission = some a := by
    simpa [notify, State.updLine, State.setLine, State.line] using ha
  have hr : ∀ ln : Line, Line.request s.now m 0 { ln with admission := none } = { Line.request s.now m 0 ln with admission := none } := by
    intro ln; simp only [Line.request]; split <;> rfl
  rw [endLineAdmission, ha, endLineAdmission, ha']
  simp only [endAdmission]
  rw [drainEnd_idle (by simpa using h), drainEnd_idle (by simpa [notify] using h)]
  simp [notify, State.updLine, State.updAccount, State.setAccount, State.setLine, State.line, State.account, hr]

/-- R128, R129, R84: a waiting line leaves the queue with message `m`, while no drain of the service can end. -/
theorem removeWaiter_eq (l : Fin 32) (m : Fin 24) {s : State} (h : s.mgt.service ≠ .draining) (hw : ∃ w ∈ s.queue, w.line = l)
    (hl : (s.line l).state = .waiting) {a : Admission} (ha : (s.line l).admission = some a) :
    removeWaiter l (some m) true s = { s with
      queue := s.queue.filter fun w => !decide (w.line = l)
      accounts := s.accounts.set a.account { s.account a.account with openCount := (s.account a.account).openCount - 1 }
      lines := s.lines.set l (Line.draining s.now { Line.request s.now m 0 (s.line l) with admission := none, channel := none }) } := by
  obtain ⟨w, hw⟩ : ∃ w, s.waiter l = some w := by
    obtain ⟨w, hw, e⟩ := hw
    cases hq : s.waiter l with
    | some w => exact ⟨w, rfl⟩
    | none => exact absurd e (by simpa using List.find?_eq_none.mp hq w hw)
  simp only [removeWaiter, hw, notifyIf, if_true]
  exact line_leaves (s := leaveQueue l s) l m h (.inl hl) ha

/-- R129: the waiters `ws`, which make the queue, leave one after another with message `m`. -/
theorem foldl_removeWaiter (m : Fin 24) (ws : List Waiter) (s : State) (h : s.mgt.service ≠ .draining) (hq : s.queue = ws)
    (hn : (ws.map (·.line)).Nodup) (hw : ∀ w ∈ ws, (s.line w.line).state = .waiting ∧ (s.line w.line).admission.isSome = true) :
    ∃ t, ws.foldl (fun s w => removeWaiter w.line (some m) true s) s = t ∧
      t = { s with queue := [], lines := t.lines, accounts := t.accounts } ∧
      (∀ l, t.line l = if l ∈ ws.map (·.line) then
        Line.draining s.now { Line.request s.now m 0 (s.line l) with admission := none, channel := none } else s.line l) ∧
      ∀ a, t.account a = { s.account a with openCount := (s.account a).openCount -
        (ws.filter fun w => (s.line w.line).admission.any fun x => decide (x.account = a)).length } := by
  induction ws generalizing s with
  | nil =>
    refine ⟨s, rfl, ?_, fun l => by simp, fun a => by simp⟩
    rw [← hq]
  | cons w ks ih =>
    rw [List.map_cons, List.nodup_cons] at hn
    obtain ⟨hs, ha⟩ := hw w (List.mem_cons_self ..)
    obtain ⟨a, ha⟩ := Option.isSome_iff_exists.mp ha
    have hks : ∀ x ∈ ks, x.line ≠ w.line := fun x hx e => hn.1 (e ▸ List.mem_map_of_mem hx)
    have hf : s.queue.filter (fun x => !decide (x.line = w.line)) = ks := by
      rw [hq, List.filter_cons_of_neg (by simp)]
      exact List.filter_eq_self.mpr fun x hx => by simpa using hks x hx
    have hmem : ∃ x ∈ s.queue, x.line = w.line := ⟨w, by rw [hq]; exact List.mem_cons_self .., rfl⟩
    rw [List.foldl_cons, removeWaiter_eq w.line m h hmem hs ha, hf]
    generalize hu : ({ s with
      queue := ks
      accounts := s.accounts.set a.account { s.account a.account with openCount := (s.account a.account).openCount - 1 }
      lines := s.lines.set w.line (Line.draining s.now
        { Line.request s.now m 0 (s.line w.line) with admission := none, channel := none }) } : State) = u
    have hul : ∀ l, u.line l = if l = w.line then Line.draining s.now
        { Line.request s.now m 0 (s.line w.line) with admission := none, channel := none } else s.line l :=
      fun l => by rw [← hu]; exact State.setLine_line s w.line l _
    have hua : ∀ b, u.account b = if b = a.account then { s.account a.account with openCount := (s.account a.account).openCount - 1 }
        else s.account b := fun b => by rw [← hu]; exact State.setAccount_account s a.account b _
    have hun : u.now = s.now := by rw [← hu]
    obtain ⟨t, e1, e2, e3, e4⟩ := ih u (by rw [← hu]; exact h) (by rw [← hu]) hn.2 fun x hx => by
      rw [hul, if_neg (hks x hx)]; exact hw x (List.mem_cons_of_mem _ hx)
    refine ⟨t, e1, by rw [e2, ← hu], fun l => ?_, fun b => ?_⟩
    · rw [e3, hul, hun]
      by_cases el : l = w.line
      · subst el
        simp [hn.1]
      · simp [el]
    · have hc : (ks.filter fun x => (u.line x.line).admission.any fun y => decide (y.account = b)) =
          ks.filter fun x => (s.line x.line).admission.any fun y => decide (y.account = b) :=
        List.filter_congr fun x hx => by rw [hul, if_neg (hks x hx)]
      rw [e4, hc, hua]
      by_cases eb : b = a.account
      · subst eb
        rw [List.filter_cons_of_pos (by simp [ha])]
        simp [Nat.sub_sub, Nat.add_comm]
      · rw [List.filter_cons_of_neg (by simp [ha, Ne.symm eb]), if_neg eb]

/-- R129, R172 step 4, R192 step 3: every waiter leaves with message `m`, while no drain of the service can end. -/
theorem removeAllWaiters_eq (m : Fin 24) {s : State} (h : s.mgt.service ≠ .draining) (hq : s.QueueCoherent)
    (ha : ∀ l, (s.line l).state = .waiting → (s.line l).admission.isSome = true) : removeAllWaiters m s = s.waitersRemoved m := by
  obtain ⟨hn, hw, -⟩ := hq
  have hws : ∀ w ∈ s.queue, (s.line w.line).state = .waiting := fun w h => (hw _).mp ⟨w, h, rfl⟩
  obtain ⟨t, e1, e2, e3, e4⟩ := foldl_removeWaiter m s.queue s h rfl hn fun w hq => ⟨hws w hq, ha _ (hws w hq)⟩
  have hl : t.lines = (s.waitersRemoved m).lines := by
    apply Vector.ext
    intro i hi
    have := e3 ⟨i, hi⟩
    simp only [List.mem_map, hw] at this
    simpa [State.waitersRemoved, State.line] using this
  have hac : t.accounts = (s.waitersRemoved m).accounts := by
    apply Vector.ext
    intro i hi
    have := e4 ⟨i, hi⟩
    have hp : (s.queue.filter fun w => (s.line w.line).admission.any fun x => decide (x.account = ⟨i, hi⟩)).length =
        ((List.finRange 32).filter fun l => decide ((s.line l).state = .waiting) &&
          (s.line l).admission.any fun x => decide (x.account = ⟨i, hi⟩)).length := by
      rw [← List.length_map (·.line)]
      apply List.Perm.length_eq
      rw [List.perm_ext_iff_of_nodup (hn.sublist (List.filter_sublist.map _)) ((List.nodup_finRange 32).filter _)]
      intro l
      simp only [List.mem_map, List.mem_filter, List.mem_finRange, true_and, Bool.and_eq_true, decide_eq_true_eq]
      constructor
      · rintro ⟨w, ⟨h1, h2⟩, rfl⟩
        exact ⟨hws w h1, h2⟩
      · rintro ⟨h1, h2⟩
        obtain ⟨w, h3, rfl⟩ := (hw l).mpr h1
        exact ⟨w, ⟨h3, h2⟩, rfl⟩
    rw [hp] at this
    simpa [State.waitersRemoved, State.account] using this
  rw [removeAllWaiters, e1, e2, hl, hac]
  rfl

/-! ## One channel -/

/-- R130: what a teardown needs of channel `c` as it takes it: an offer with its line, row and admission, or a session with its meter. -/
def State.TakenDown (s : State) (c : Fin 24) : Prop :=
  ((s.channel c).state = .offered → ∃ l, s.OfferStands c l) ∧ ((s.channel c).state = .connected → ∃ l, s.SessionStands c l)

/-- R135, R137: the offer on channel `c` to line `l` ends with message `m`, while no drain of the service can end. -/
theorem endOffer_eq (c : Fin 24) (m : Fin 24) {s : State} {l : Fin 32} {r : Fin 64} {x : Reservation} {a : Admission}
    (h : s.mgt.service ≠ .draining) (hl : (s.channel c).line = some l) (hr : (s.channel c).row = some r) (hx : s.row r = .reserved x)
    (hc : x.channel = c) (ho : (s.line l).state = .offered) (ha : (s.line l).admission = some a) :
    endOffer c (some m) true s = s.offerDropped m c l a.account r (s.channel c) s.trunk.controls := by
  have e : freeRow r c s = s.setRow r .free := by simp [freeRow, hx, hc]
  have e1 : ((s.setRow r .free).channel c).line = some l := hl
  have e2 : s.channels.set c (s.channel c) = s.channels := by simp [State.channel]
  simp only [endOffer, hr, e, e1, notifyIf, if_true]
  rw [line_leaves_offer (s := s.setRow r .free) l m h (.inr ho) ha, State.offerDropped, e2]
  rfl

/-- What `State.OfferStands` gives of the row and the admission. -/
theorem State.OfferStands.parts {s : State} {c : Fin 24} {l : Fin 32} (h : s.OfferStands c l) :
    ∃ r x a, (s.channel c).row = some r ∧ s.row r = .reserved x ∧ x.channel = c ∧ (s.line l).admission = some a := by
  obtain ⟨-, -, -, ha, r, hr, hx⟩ := h
  obtain ⟨a, ha⟩ := Option.isSome_iff_exists.mp ha
  cases e : s.row r with
  | reserved x => rw [e] at hx; exact ⟨r, x, a, hr, e, hx.1, ha⟩
  | free => rw [e] at hx; exact hx.elim
  | closed x => rw [e] at hx; exact hx.elim

/-- R192 step 4, R193: one channel at CLOSE SERVICE or RESTART, while no drain of the service can end. -/
theorem serviceCloseChannel_eq (why : CloseReason) (c : Fin 24) {s : State} (hy : why ≠ .hostLost) (h : s.mgt.service ≠ .draining)
    (hc : s.TakenDown c) : serviceCloseChannel why c s = s.channelDown 21 why c := by
  cases hk : (s.channel c).state with
  | free => simp [serviceCloseChannel, State.channelDown, hk]
  | closing => simp [serviceCloseChannel, State.channelDown, hk, hy]
  | quarantined => simp [serviceCloseChannel, State.channelDown, hk, hy]
  | offered =>
    obtain ⟨l, ho⟩ := hc.1 hk
    obtain ⟨r, x, a, hr, hx, hxc, ha⟩ := ho.parts
    have hl := ho.1
    simp only [serviceCloseChannel, State.channelDown, hk, hl, ha, hr, hy, if_false]
    have hl' : s.channels[c.val].line = some l := hl
    rw [abandonOffer, show Config.mClosing = 21 from rfl, endOffer_eq c 21 h hl hr hx hxc ho.2.1 ha]
    simp [State.offerDropped, handControl, State.updTrunk, State.updChannel, State.setChannel, State.channel, State.after, Config.second, hl']
  | connected =>
    obtain ⟨l, hl, hs, -, m, a, hm, -, e, -⟩ := hc.2 hk
    have hm' : (notify l Config.mClosing 0 s).meter c = some m := hm
    simp only [serviceCloseChannel, State.channelDown, hk, hl]
    rw [closeRequest, hm']
    simp only [e, if_true]
    rfl

/-- R172 step 5: one channel at trunk loss, while no drain of the service can end. -/
theorem loseChannel_eq (c : Fin 24) {s : State} (h : s.mgt.service ≠ .draining) (hc : s.TakenDown c) :
    loseChannel c s = s.channelDown 20 .hostLost c := by
  cases hk : (s.channel c).state with
  | free => simp [loseChannel, State.channelDown, hk]
  | closing => simp [loseChannel, State.channelDown, hk, freeChannel, State.updChannel, State.setChannel]
  | quarantined => simp [loseChannel, State.channelDown, hk, freeChannel, State.updChannel, State.setChannel]
  | offered =>
    obtain ⟨l, ho⟩ := hc.1 hk
    obtain ⟨r, x, a, hr, hx, hxc, ha⟩ := ho.parts
    have hl := ho.1
    simp only [loseChannel, State.channelDown, hk, hl, ha, hr, if_true]
    rw [show Config.mDown = 20 from rfl, endOffer_eq c 20 h hl hr hx hxc ho.2.1 ha]
    simp [State.offerDropped, freeChannel, State.updChannel, State.setChannel, State.channel]
  | connected =>
    obtain ⟨l, hl, hs, -, m, a, hm, -, e, -⟩ := hc.2 hk
    have hm' : (notify l Config.mDown 0 s).meter c = some m := hm
    simp only [loseChannel, State.channelDown, hk, hl]
    rw [closeRequest, hm']
    simp only [e, if_true]
    rfl

end Sys2Proof.Machine
end

