-- ==== Sys2Proof/Laws/TrunkFrames.lean ====
section
/-! SUPPORT. The frame of every shared operation of Management.lean and Trunk.lean. -/

set_option linter.all false

namespace Sys2Proof.Machine

open Sys2Proof

@[simp] theorem setService_frame (v : Service) (s : State) :
    (setService v s).pending = s.pending ∧ (setService v s).inReset = s.inReset ∧ (setService v s).now = s.now ∧ (setService v s).key = s.key ∧ (setService v s).groups = s.groups ∧ (setService v s).messages = s.messages ∧ (setService v s).lines = s.lines ∧ (setService v s).dir = s.dir ∧ (setService v s).accounts = s.accounts ∧ (setService v s).cal = s.cal ∧ (setService v s).meters = s.meters ∧ (setService v s).queue = s.queue ∧ (setService v s).channels = s.channels ∧ (setService v s).tickets = s.tickets ∧ (setService v s).watches = s.watches ∧ (setService v s).sample = s.sample ∧ (setService v s).trunk = s.trunk ∧ (setService v s).params = s.params ∧ (setService v s).mgt.load = s.mgt.load ∧ (∀ j, (setService v s).line j = s.line j) ∧ (∀ j, (setService v s).channel j = s.channel j) ∧ (∀ j, (setService v s).meter j = s.meter j) ∧ (∀ j, (setService v s).account j = s.account j) ∧ (∀ j, (setService v s).row j = s.row j) ∧ (∀ j, (setService v s).message j = s.message j) := by
  unfold setService; (try dsimp only); (refine ⟨?_, ?_, ?_, ?_, ?_, ?_, ?_, ?_, ?_, ?_, ?_, ?_, ?_, ?_, ?_, ?_, ?_, ?_, ?_, ?_, ?_, ?_, ?_, ?_, ?_⟩ <;> (try intro j) <;> (repeat' split) <;> first | (simp; done) | (simp [State.line, State.channel, State.meter, State.account, State.row, State.message, Management.load]; done) | rfl)

@[simp] theorem abandonAll_frame (m : Fin 24) (s : State) :
    (abandonAll m s).pending = s.pending ∧ (abandonAll m s).inReset = s.inReset ∧ (abandonAll m s).now = s.now ∧ (abandonAll m s).key = s.key ∧ (abandonAll m s).groups = s.groups ∧ (abandonAll m s).messages = s.messages ∧ (abandonAll m s).dir = s.dir ∧ (abandonAll m s).accounts = s.accounts ∧ (abandonAll m s).cal = s.cal ∧ (abandonAll m s).meters = s.meters ∧ (abandonAll m s).queue = s.queue ∧ (abandonAll m s).channels = s.channels ∧ (abandonAll m s).tickets = s.tickets ∧ (abandonAll m s).watches = s.watches ∧ (abandonAll m s).sample = s.sample ∧ (abandonAll m s).trunk = s.trunk ∧ (abandonAll m s).params = s.params ∧ (abandonAll m s).mgt.load = s.mgt.load ∧ (∀ j, (abandonAll m s).channel j = s.channel j) ∧ (∀ j, (abandonAll m s).meter j = s.meter j) ∧ (∀ j, (abandonAll m s).account j = s.account j) ∧ (∀ j, (abandonAll m s).row j = s.row j) ∧ (∀ j, (abandonAll m s).message j = s.message j) := by
  unfold abandonAll
  exact ⟨foldl_keeps State.pending _ (fun _ _ => by first | (simp; done) | ((repeat' split) <;> first | (simp; done))) _ _,
    foldl_keeps State.inReset _ (fun _ _ => by first | (simp; done) | ((repeat' split) <;> first | (simp; done))) _ _,
    foldl_keeps State.now _ (fun _ _ => by first | (simp; done) | ((repeat' split) <;> first | (simp; done))) _ _,
    foldl_keeps State.key _ (fun _ _ => by first | (simp; done) | ((repeat' split) <;> first | (simp; done))) _ _,
    foldl_keeps State.groups _ (fun _ _ => by first | (simp; done) | ((repeat' split) <;> first | (simp; done))) _ _,
    foldl_keeps State.messages _ (fun _ _ => by first | (simp; done) | ((repeat' split) <;> first | (simp; done))) _ _,
    foldl_keeps State.dir _ (fun _ _ => by first | (simp; done) | ((repeat' split) <;> first | (simp; done))) _ _,
    foldl_keeps State.accounts _ (fun _ _ => by first | (simp; done) | ((repeat' split) <;> first | (simp; done))) _ _,
    foldl_keeps State.cal _ (fun _ _ => by first | (simp; done) | ((repeat' split) <;> first | (simp; done))) _ _,
    foldl_keeps State.meters _ (fun _ _ => by first | (simp; done) | ((repeat' split) <;> first | (simp; done))) _ _,
    foldl_keeps State.queue _ (fun _ _ => by first | (simp; done) | ((repeat' split) <;> first | (simp; done))) _ _,
    foldl_keeps State.channels _ (fun _ _ => by first | (simp; done) | ((repeat' split) <;> first | (simp; done))) _ _,
    foldl_keeps State.tickets _ (fun _ _ => by first | (simp; done) | ((repeat' split) <;> first | (simp; done))) _ _,
    foldl_keeps State.watches _ (fun _ _ => by first | (simp; done) | ((repeat' split) <;> first | (simp; done))) _ _,
    foldl_keeps State.sample _ (fun _ _ => by first | (simp; done) | ((repeat' split) <;> first | (simp; done))) _ _,
    foldl_keeps State.trunk _ (fun _ _ => by first | (simp; done) | ((repeat' split) <;> first | (simp; done))) _ _,
    foldl_keeps State.params _ (fun _ _ => by first | (simp; done) | ((repeat' split) <;> first | (simp; done))) _ _,
    foldl_keeps (fun s : State => s.mgt.load) _ (fun _ _ => by first | (simp; done) | ((repeat' split) <;> first | (simp; done))) _ _,
    fun j => foldl_keeps (fun s : State => State.channel s j) _ (fun _ _ => by first | (simp; done) | ((repeat' split) <;> first | (simp; done))) _ _,
    fun j => foldl_keeps (fun s : State => State.meter s j) _ (fun _ _ => by first | (simp; done) | ((repeat' split) <;> first | (simp; done))) _ _,
    fun j => foldl_keeps (fun s : State => State.account s j) _ (fun _ _ => by first | (simp; done) | ((repeat' split) <;> first | (simp; done))) _ _,
    fun j => foldl_keeps (fun s : State => State.row s j) _ (fun _ _ => by first | (simp; done) | ((repeat' split) <;> first | (simp; done))) _ _,
    fun j => foldl_keeps (fun s : State => State.message s j) _ (fun _ _ => by first | (simp; done) | ((repeat' split) <;> first | (simp; done))) _ _⟩

@[simp] theorem removeAllWaiters_frame (m : Fin 24) (s : State) :
    (removeAllWaiters m s).pending = s.pending ∧ (removeAllWaiters m s).inReset = s.inReset ∧ (removeAllWaiters m s).now = s.now ∧ (removeAllWaiters m s).key = s.key ∧ (removeAllWaiters m s).groups = s.groups ∧ (removeAllWaiters m s).messages = s.messages ∧ (removeAllWaiters m s).dir = s.dir ∧ (removeAllWaiters m s).cal = s.cal ∧ (removeAllWaiters m s).meters = s.meters ∧ (removeAllWaiters m s).channels = s.channels ∧ (removeAllWaiters m s).tickets = s.tickets ∧ (removeAllWaiters m s).watches = s.watches ∧ (removeAllWaiters m s).sample = s.sample ∧ (removeAllWaiters m s).trunk = s.trunk ∧ (removeAllWaiters m s).params = s.params ∧ (removeAllWaiters m s).mgt.load = s.mgt.load ∧ (∀ j, (removeAllWaiters m s).channel j = s.channel j) ∧ (∀ j, (removeAllWaiters m s).meter j = s.meter j) ∧ (∀ j, (removeAllWaiters m s).row j = s.row j) ∧ (∀ j, (removeAllWaiters m s).message j = s.message j) := by
  unfold removeAllWaiters
  exact ⟨foldl_keeps State.pending _ (fun _ _ => by first | (simp; done) | ((repeat' split) <;> first | (simp; done))) _ _,
    foldl_keeps State.inReset _ (fun _ _ => by first | (simp; done) | ((repeat' split) <;> first | (simp; done))) _ _,
    foldl_keeps State.now _ (fun _ _ => by first | (simp; done) | ((repeat' split) <;> first | (simp; done))) _ _,
    foldl_keeps State.key _ (fun _ _ => by first | (simp; done) | ((repeat' split) <;> first | (simp; done))) _ _,
    foldl_keeps State.groups _ (fun _ _ => by first | (simp; done) | ((repeat' split) <;> first | (simp; done))) _ _,
    foldl_keeps State.messages _ (fun _ _ => by first | (simp; done) | ((repeat' split) <;> first | (simp; done))) _ _,
    foldl_keeps State.dir _ (fun _ _ => by first | (simp; done) | ((repeat' split) <;> first | (simp; done))) _ _,
    foldl_keeps State.cal _ (fun _ _ => by first | (simp; done) | ((repeat' split) <;> first | (simp; done))) _ _,
    foldl_keeps State.meters _ (fun _ _ => by first | (simp; done) | ((repeat' split) <;> first | (simp; done))) _ _,
    foldl_keeps State.channels _ (fun _ _ => by first | (simp; done) | ((repeat' split) <;> first | (simp; done))) _ _,
    foldl_keeps State.tickets _ (fun _ _ => by first | (simp; done) | ((repeat' split) <;> first | (simp; done))) _ _,
    foldl_keeps State.watches _ (fun _ _ => by first | (simp; done) | ((repeat' split) <;> first | (simp; done))) _ _,
    foldl_keeps State.sample _ (fun _ _ => by first | (simp; done) | ((repeat' split) <;> first | (simp; done))) _ _,
    foldl_keeps State.trunk _ (fun _ _ => by first | (simp; done) | ((repeat' split) <;> first | (simp; done))) _ _,
    foldl_keeps State.params _ (fun _ _ => by first | (simp; done) | ((repeat' split) <;> first | (simp; done))) _ _,
    foldl_keeps (fun s : State => s.mgt.load) _ (fun _ _ => by first | (simp; done) | ((repeat' split) <;> first | (simp; done))) _ _,
    fun j => foldl_keeps (fun s : State => State.channel s j) _ (fun _ _ => by first | (simp; done) | ((repeat' split) <;> first | (simp; done))) _ _,
    fun j => foldl_keeps (fun s : State => State.meter s j) _ (fun _ _ => by first | (simp; done) | ((repeat' split) <;> first | (simp; done))) _ _,
    fun j => foldl_keeps (fun s : State => State.row s j) _ (fun _ _ => by first | (simp; done) | ((repeat' split) <;> first | (simp; done))) _ _,
    fun j => foldl_keeps (fun s : State => State.message s j) _ (fun _ _ => by first | (simp; done) | ((repeat' split) <;> first | (simp; done))) _ _⟩

@[simp] theorem serviceCloseChannel_frame (why : CloseReason) (c : Fin 24) (s : State) :
    (serviceCloseChannel why c s).pending = s.pending ∧ (serviceCloseChannel why c s).inReset = s.inReset ∧ (serviceCloseChannel why c s).now = s.now ∧ (serviceCloseChannel why c s).key = s.key ∧ (serviceCloseChannel why c s).groups = s.groups ∧ (serviceCloseChannel why c s).messages = s.messages ∧ (serviceCloseChannel why c s).dir = s.dir ∧ (serviceCloseChannel why c s).cal = s.cal ∧ (serviceCloseChannel why c s).queue = s.queue ∧ (serviceCloseChannel why c s).watches = s.watches ∧ (serviceCloseChannel why c s).sample = s.sample ∧ (serviceCloseChannel why c s).params = s.params ∧ (serviceCloseChannel why c s).mgt.load = s.mgt.load ∧ (serviceCloseChannel why c s).trunk.counter = s.trunk.counter ∧ (serviceCloseChannel why c s).trunk.nd = s.trunk.nd ∧ (serviceCloseChannel why c s).trunk.counters = s.trunk.counters ∧ (serviceCloseChannel why c s).trunk.up = s.trunk.up ∧ (∀ j, (serviceCloseChannel why c s).message j = s.message j) := by
  unfold serviceCloseChannel; (try dsimp only); (refine ⟨?_, ?_, ?_, ?_, ?_, ?_, ?_, ?_, ?_, ?_, ?_, ?_, ?_, ?_, ?_, ?_, ?_, ?_⟩ <;> (try intro j) <;> (repeat' split) <;> first | (simp; done) | (simp [State.line, State.channel, State.meter, State.account, State.row, State.message, Management.load]; done) | rfl)

@[simp] theorem serviceCloseAll_frame (why : CloseReason) (s : State) :
    (serviceCloseAll why s).pending = s.pending ∧ (serviceCloseAll why s).inReset = s.inReset ∧ (serviceCloseAll why s).now = s.now ∧ (serviceCloseAll why s).key = s.key ∧ (serviceCloseAll why s).groups = s.groups ∧ (serviceCloseAll why s).messages = s.messages ∧ (serviceCloseAll why s).dir = s.dir ∧ (serviceCloseAll why s).cal = s.cal ∧ (serviceCloseAll why s).queue = s.queue ∧ (serviceCloseAll why s).watches = s.watches ∧ (serviceCloseAll why s).sample = s.sample ∧ (serviceCloseAll why s).params = s.params ∧ (serviceCloseAll why s).mgt.load = s.mgt.load ∧ (serviceCloseAll why s).trunk.counter = s.trunk.counter ∧ (serviceCloseAll why s).trunk.nd = s.trunk.nd ∧ (serviceCloseAll why s).trunk.counters = s.trunk.counters ∧ (serviceCloseAll why s).trunk.up = s.trunk.up ∧ (∀ j, (serviceCloseAll why s).message j = s.message j) := by
  unfold serviceCloseAll
  exact ⟨foldl_keeps State.pending _ (fun _ _ => by first | (simp; done) | ((repeat' split) <;> first | (simp; done))) _ _,
    foldl_keeps State.inReset _ (fun _ _ => by first | (simp; done) | ((repeat' split) <;> first | (simp; done))) _ _,
    foldl_keeps State.now _ (fun _ _ => by first | (simp; done) | ((repeat' split) <;> first | (simp; done))) _ _,
    foldl_keeps State.key _ (fun _ _ => by first | (simp; done) | ((repeat' split) <;> first | (simp; done))) _ _,
    foldl_keeps State.groups _ (fun _ _ => by first | (simp; done) | ((repeat' split) <;> first | (simp; done))) _ _,
    foldl_keeps State.messages _ (fun _ _ => by first | (simp; done) | ((repeat' split) <;> first | (simp; done))) _ _,
    foldl_keeps State.dir _ (fun _ _ => by first | (simp; done) | ((repeat' split) <;> first | (simp; done))) _ _,
    foldl_keeps State.cal _ (fun _ _ => by first | (simp; done) | ((repeat' split) <;> first | (simp; done))) _ _,
    foldl_keeps State.queue _ (fun _ _ => by first | (simp; done) | ((repeat' split) <;> first | (simp; done))) _ _,
    foldl_keeps State.watches _ (fun _ _ => by first | (simp; done) | ((repeat' split) <;> first | (simp; done))) _ _,
    foldl_keeps State.sample _ (fun _ _ => by first | (simp; done) | ((repeat' split) <;> first | (simp; done))) _ _,
    foldl_keeps State.params _ (fun _ _ => by first | (simp; done) | ((repeat' split) <;> first | (simp; done))) _ _,
    foldl_keeps (fun s : State => s.mgt.load) _ (fun _ _ => by first | (simp; done) | ((repeat' split) <;> first | (simp; done))) _ _,
    foldl_keeps (fun s : State => s.trunk.counter) _ (fun _ _ => by first | (simp; done) | ((repeat' split) <;> first | (simp; done))) _ _,
    foldl_keeps (fun s : State => s.trunk.nd) _ (fun _ _ => by first | (simp; done) | ((repeat' split) <;> first | (simp; done))) _ _,
    foldl_keeps (fun s : State => s.trunk.counters) _ (fun _ _ => by first | (simp; done) | ((repeat' split) <;> first | (simp; done))) _ _,
    foldl_keeps (fun s : State => s.trunk.up) _ (fun _ _ => by first | (simp; done) | ((repeat' split) <;> first | (simp; done))) _ _,
    fun j => foldl_keeps (fun s : State => State.message s j) _ (fun _ _ => by first | (simp; done) | ((repeat' split) <;> first | (simp; done))) _ _⟩

@[simp] theorem teardown_frame (why : CloseReason) (s : State) :
    (teardown why s).pending = s.pending ∧ (teardown why s).inReset = s.inReset ∧ (teardown why s).now = s.now ∧ (teardown why s).key = s.key ∧ (teardown why s).groups = s.groups ∧ (teardown why s).messages = s.messages ∧ (teardown why s).dir = s.dir ∧ (teardown why s).cal = s.cal ∧ (teardown why s).watches = s.watches ∧ (teardown why s).sample = s.sample ∧ (teardown why s).params = s.params ∧ (teardown why s).mgt.load = s.mgt.load ∧ (teardown why s).trunk.counter = s.trunk.counter ∧ (teardown why s).trunk.nd = s.trunk.nd ∧ (teardown why s).trunk.counters = s.trunk.counters ∧ (teardown why s).trunk.up = s.trunk.up ∧ (∀ j, (teardown why s).message j = s.message j) := by
  unfold teardown; (try dsimp only); (refine ⟨?_, ?_, ?_, ?_, ?_, ?_, ?_, ?_, ?_, ?_, ?_, ?_, ?_, ?_, ?_, ?_, ?_⟩ <;> (try intro j) <;> (repeat' split) <;> first | (simp; done) | (simp [State.line, State.channel, State.meter, State.account, State.row, State.message, Management.load]; done) | rfl)

@[simp] theorem freeAllChannels_frame (s : State) :
    (freeAllChannels s).pending = s.pending ∧ (freeAllChannels s).inReset = s.inReset ∧ (freeAllChannels s).now = s.now ∧ (freeAllChannels s).key = s.key ∧ (freeAllChannels s).groups = s.groups ∧ (freeAllChannels s).messages = s.messages ∧ (freeAllChannels s).lines = s.lines ∧ (freeAllChannels s).dir = s.dir ∧ (freeAllChannels s).accounts = s.accounts ∧ (freeAllChannels s).cal = s.cal ∧ (freeAllChannels s).meters = s.meters ∧ (freeAllChannels s).queue = s.queue ∧ (freeAllChannels s).tickets = s.tickets ∧ (freeAllChannels s).watches = s.watches ∧ (freeAllChannels s).sample = s.sample ∧ (freeAllChannels s).trunk = s.trunk ∧ (freeAllChannels s).mgt = s.mgt ∧ (freeAllChannels s).params = s.params ∧ (∀ j, (freeAllChannels s).line j = s.line j) ∧ (∀ j, (freeAllChannels s).meter j = s.meter j) ∧ (∀ j, (freeAllChannels s).account j = s.account j) ∧ (∀ j, (freeAllChannels s).row j = s.row j) ∧ (∀ j, (freeAllChannels s).message j = s.message j) := by
  unfold freeAllChannels
  exact ⟨foldl_keeps State.pending _ (fun _ _ => by first | (simp; done) | ((repeat' split) <;> first | (simp; done))) _ _,
    foldl_keeps State.inReset _ (fun _ _ => by first | (simp; done) | ((repeat' split) <;> first | (simp; done))) _ _,
    foldl_keeps State.now _ (fun _ _ => by first | (simp; done) | ((repeat' split) <;> first | (simp; done))) _ _,
    foldl_keeps State.key _ (fun _ _ => by first | (simp; done) | ((repeat' split) <;> first | (simp; done))) _ _,
    foldl_keeps State.groups _ (fun _ _ => by first | (simp; done) | ((repeat' split) <;> first | (simp; done))) _ _,
    foldl_keeps State.messages _ (fun _ _ => by first | (simp; done) | ((repeat' split) <;> first | (simp; done))) _ _,
    foldl_keeps State.lines _ (fun _ _ => by first | (simp; done) | ((repeat' split) <;> first | (simp; done))) _ _,
    foldl_keeps State.dir _ (fun _ _ => by first | (simp; done) | ((repeat' split) <;> first | (simp; done))) _ _,
    foldl_keeps State.accounts _ (fun _ _ => by first | (simp; done) | ((repeat' split) <;> first | (simp; done))) _ _,
    foldl_keeps State.cal _ (fun _ _ => by first | (simp; done) | ((repeat' split) <;> first | (simp; done))) _ _,
    foldl_keeps State.meters _ (fun _ _ => by first | (simp; done) | ((repeat' split) <;> first | (simp; done))) _ _,
    foldl_keeps State.queue _ (fun _ _ => by first | (simp; done) | ((repeat' split) <;> first | (simp; done))) _ _,
    foldl_keeps State.tickets _ (fun _ _ => by first | (simp; done) | ((repeat' split) <;> first | (simp; done))) _ _,
    foldl_keeps State.watches _ (fun _ _ => by first | (simp; done) | ((repeat' split) <;> first | (simp; done))) _ _,
    foldl_keeps State.sample _ (fun _ _ => by first | (simp; done) | ((repeat' split) <;> first | (simp; done))) _ _,
    foldl_keeps State.trunk _ (fun _ _ => by first | (simp; done) | ((repeat' split) <;> first | (simp; done))) _ _,
    foldl_keeps State.mgt _ (fun _ _ => by first | (simp; done) | ((repeat' split) <;> first | (simp; done))) _ _,
    foldl_keeps State.params _ (fun _ _ => by first | (simp; done) | ((repeat' split) <;> first | (simp; done))) _ _,
    fun j => foldl_keeps (fun s : State => State.line s j) _ (fun _ _ => by first | (simp; done) | ((repeat' split) <;> first | (simp; done))) _ _,
    fun j => foldl_keeps (fun s : State => State.meter s j) _ (fun _ _ => by first | (simp; done) | ((repeat' split) <;> first | (simp; done))) _ _,
    fun j => foldl_keeps (fun s : State => State.account s j) _ (fun _ _ => by first | (simp; done) | ((repeat' split) <;> first | (simp; done))) _ _,
    fun j => foldl_keeps (fun s : State => State.row s j) _ (fun _ _ => by first | (simp; done) | ((repeat' split) <;> first | (simp; done))) _ _,
    fun j => foldl_keeps (fun s : State => State.message s j) _ (fun _ _ => by first | (simp; done) | ((repeat' split) <;> first | (simp; done))) _ _⟩

@[simp] theorem restartTrunk_frame (s : State) :
    (restartTrunk s).pending = s.pending ∧ (restartTrunk s).inReset = s.inReset ∧ (restartTrunk s).now = s.now ∧ (restartTrunk s).key = s.key ∧ (restartTrunk s).groups = s.groups ∧ (restartTrunk s).messages = s.messages ∧ (restartTrunk s).lines = s.lines ∧ (restartTrunk s).dir = s.dir ∧ (restartTrunk s).accounts = s.accounts ∧ (restartTrunk s).cal = s.cal ∧ (restartTrunk s).meters = s.meters ∧ (restartTrunk s).queue = s.queue ∧ (restartTrunk s).channels = s.channels ∧ (restartTrunk s).tickets = s.tickets ∧ (restartTrunk s).watches = s.watches ∧ (restartTrunk s).sample = s.sample ∧ (restartTrunk s).mgt = s.mgt ∧ (restartTrunk s).params = s.params ∧ (restartTrunk s).trunk.counter = s.trunk.counter ∧ (restartTrunk s).trunk.nd = s.trunk.nd ∧ (restartTrunk s).trunk.up = s.trunk.up ∧ (∀ j, (restartTrunk s).line j = s.line j) ∧ (∀ j, (restartTrunk s).channel j = s.channel j) ∧ (∀ j, (restartTrunk s).meter j = s.meter j) ∧ (∀ j, (restartTrunk s).account j = s.account j) ∧ (∀ j, (restartTrunk s).row j = s.row j) ∧ (∀ j, (restartTrunk s).message j = s.message j) := by
  unfold restartTrunk; (try dsimp only); (refine ⟨?_, ?_, ?_, ?_, ?_, ?_, ?_, ?_, ?_, ?_, ?_, ?_, ?_, ?_, ?_, ?_, ?_, ?_, ?_, ?_, ?_, ?_, ?_, ?_, ?_, ?_, ?_⟩ <;> (try intro j) <;> (repeat' split) <;> first | (simp; done) | (simp [State.line, State.channel, State.meter, State.account, State.row, State.message, Management.load]; done) | rfl)

@[simp] theorem restartLines_frame (s : State) :
    (restartLines s).pending = s.pending ∧ (restartLines s).inReset = s.inReset ∧ (restartLines s).now = s.now ∧ (restartLines s).key = s.key ∧ (restartLines s).groups = s.groups ∧ (restartLines s).messages = s.messages ∧ (restartLines s).dir = s.dir ∧ (restartLines s).accounts = s.accounts ∧ (restartLines s).cal = s.cal ∧ (restartLines s).meters = s.meters ∧ (restartLines s).queue = s.queue ∧ (restartLines s).channels = s.channels ∧ (restartLines s).tickets = s.tickets ∧ (restartLines s).watches = s.watches ∧ (restartLines s).sample = s.sample ∧ (restartLines s).trunk = s.trunk ∧ (restartLines s).mgt = s.mgt ∧ (restartLines s).params = s.params ∧ (∀ j, (restartLines s).channel j = s.channel j) ∧ (∀ j, (restartLines s).meter j = s.meter j) ∧ (∀ j, (restartLines s).account j = s.account j) ∧ (∀ j, (restartLines s).row j = s.row j) ∧ (∀ j, (restartLines s).message j = s.message j) := by
  unfold restartLines; (try dsimp only); (refine ⟨?_, ?_, ?_, ?_, ?_, ?_, ?_, ?_, ?_, ?_, ?_, ?_, ?_, ?_, ?_, ?_, ?_, ?_, ?_, ?_, ?_, ?_, ?_⟩ <;> (try intro j) <;> (repeat' split) <;> first | (simp; done) | (simp [State.line, State.channel, State.meter, State.account, State.row, State.message, Management.load]; done) | rfl)

@[simp] theorem restartManagement_frame (s : State) :
    (restartManagement s).pending = s.pending ∧ (restartManagement s).inReset = s.inReset ∧ (restartManagement s).now = s.now ∧ (restartManagement s).key = s.key ∧ (restartManagement s).groups = s.groups ∧ (restartManagement s).messages = s.messages ∧ (restartManagement s).lines = s.lines ∧ (restartManagement s).dir = s.dir ∧ (restartManagement s).accounts = s.accounts ∧ (restartManagement s).cal = s.cal ∧ (restartManagement s).meters = s.meters ∧ (restartManagement s).queue = s.queue ∧ (restartManagement s).channels = s.channels ∧ (restartManagement s).tickets = s.tickets ∧ (restartManagement s).watches = s.watches ∧ (restartManagement s).sample = s.sample ∧ (restartManagement s).trunk = s.trunk ∧ (restartManagement s).params = s.params ∧ (∀ j, (restartManagement s).line j = s.line j) ∧ (∀ j, (restartManagement s).channel j = s.channel j) ∧ (∀ j, (restartManagement s).meter j = s.meter j) ∧ (∀ j, (restartManagement s).account j = s.account j) ∧ (∀ j, (restartManagement s).row j = s.row j) ∧ (∀ j, (restartManagement s).message j = s.message j) := by
  unfold restartManagement; (try dsimp only); (refine ⟨?_, ?_, ?_, ?_, ?_, ?_, ?_, ?_, ?_, ?_, ?_, ?_, ?_, ?_, ?_, ?_, ?_, ?_, ?_, ?_, ?_, ?_, ?_, ?_⟩ <;> (try intro j) <;> (repeat' split) <;> first | (simp; done) | (simp [State.line, State.channel, State.meter, State.account, State.row, State.message, Management.load]; done) | rfl)

@[simp] theorem loseChannel_frame (c : Fin 24) (s : State) :
    (loseChannel c s).pending = s.pending ∧ (loseChannel c s).inReset = s.inReset ∧ (loseChannel c s).now = s.now ∧ (loseChannel c s).key = s.key ∧ (loseChannel c s).groups = s.groups ∧ (loseChannel c s).messages = s.messages ∧ (loseChannel c s).dir = s.dir ∧ (loseChannel c s).cal = s.cal ∧ (loseChannel c s).queue = s.queue ∧ (loseChannel c s).watches = s.watches ∧ (loseChannel c s).sample = s.sample ∧ (loseChannel c s).params = s.params ∧ (loseChannel c s).mgt.load = s.mgt.load ∧ (loseChannel c s).trunk.counter = s.trunk.counter ∧ (loseChannel c s).trunk.nd = s.trunk.nd ∧ (loseChannel c s).trunk.counters = s.trunk.counters ∧ (loseChannel c s).trunk.up = s.trunk.up ∧ (∀ j, (loseChannel c s).message j = s.message j) := by
  unfold loseChannel; (try dsimp only); (refine ⟨?_, ?_, ?_, ?_, ?_, ?_, ?_, ?_, ?_, ?_, ?_, ?_, ?_, ?_, ?_, ?_, ?_, ?_⟩ <;> (try intro j) <;> (repeat' split) <;> first | (simp; done) | (simp [State.line, State.channel, State.meter, State.account, State.row, State.message, Management.load]; done) | rfl)

@[simp] theorem loseChannels_frame (s : State) :
    (loseChannels s).pending = s.pending ∧ (loseChannels s).inReset = s.inReset ∧ (loseChannels s).now = s.now ∧ (loseChannels s).key = s.key ∧ (loseChannels s).groups = s.groups ∧ (loseChannels s).messages = s.messages ∧ (loseChannels s).dir = s.dir ∧ (loseChannels s).cal = s.cal ∧ (loseChannels s).queue = s.queue ∧ (loseChannels s).watches = s.watches ∧ (loseChannels s).sample = s.sample ∧ (loseChannels s).params = s.params ∧ (loseChannels s).mgt.load = s.mgt.load ∧ (loseChannels s).trunk.counter = s.trunk.counter ∧ (loseChannels s).trunk.nd = s.trunk.nd ∧ (loseChannels s).trunk.counters = s.trunk.counters ∧ (loseChannels s).trunk.up = s.trunk.up ∧ (∀ j, (loseChannels s).message j = s.message j) := by
  unfold loseChannels
  exact ⟨foldl_keeps State.pending _ (fun _ _ => by first | (simp; done) | ((repeat' split) <;> first | (simp; done))) _ _,
    foldl_keeps State.inReset _ (fun _ _ => by first | (simp; done) | ((repeat' split) <;> first | (simp; done))) _ _,
    foldl_keeps State.now _ (fun _ _ => by first | (simp; done) | ((repeat' split) <;> first | (simp; done))) _ _,
    foldl_keeps State.key _ (fun _ _ => by first | (simp; done) | ((repeat' split) <;> first | (simp; done))) _ _,
    foldl_keeps State.groups _ (fun _ _ => by first | (simp; done) | ((repeat' split) <;> first | (simp; done))) _ _,
    foldl_keeps State.messages _ (fun _ _ => by first | (simp; done) | ((repeat' split) <;> first | (simp; done))) _ _,
    foldl_keeps State.dir _ (fun _ _ => by first | (simp; done) | ((repeat' split) <;> first | (simp; done))) _ _,
    foldl_keeps State.cal _ (fun _ _ => by first | (simp; done) | ((repeat' split) <;> first | (simp; done))) _ _,
    foldl_keeps State.queue _ (fun _ _ => by first | (simp; done) | ((repeat' split) <;> first | (simp; done))) _ _,
    foldl_keeps State.watches _ (fun _ _ => by first | (simp; done) | ((repeat' split) <;> first | (simp; done))) _ _,
    foldl_keeps State.sample _ (fun _ _ => by first | (simp; done) | ((repeat' split) <;> first | (simp; done))) _ _,
    foldl_keeps State.params _ (fun _ _ => by first | (simp; done) | ((repeat' split) <;> first | (simp; done))) _ _,
    foldl_keeps (fun s : State => s.mgt.load) _ (fun _ _ => by first | (simp; done) | ((repeat' split) <;> first | (simp; done))) _ _,
    foldl_keeps (fun s : State => s.trunk.counter) _ (fun _ _ => by first | (simp; done) | ((repeat' split) <;> first | (simp; done))) _ _,
    foldl_keeps (fun s : State => s.trunk.nd) _ (fun _ _ => by first | (simp; done) | ((repeat' split) <;> first | (simp; done))) _ _,
    foldl_keeps (fun s : State => s.trunk.counters) _ (fun _ _ => by first | (simp; done) | ((repeat' split) <;> first | (simp; done))) _ _,
    foldl_keeps (fun s : State => s.trunk.up) _ (fun _ _ => by first | (simp; done) | ((repeat' split) <;> first | (simp; done))) _ _,
    fun j => foldl_keeps (fun s : State => State.message s j) _ (fun _ _ => by first | (simp; done) | ((repeat' split) <;> first | (simp; done))) _ _⟩

@[simp] theorem trunkDown_frame (s : State) :
    (trunkDown s).pending = s.pending ∧ (trunkDown s).inReset = s.inReset ∧ (trunkDown s).now = s.now ∧ (trunkDown s).key = s.key ∧ (trunkDown s).groups = s.groups ∧ (trunkDown s).messages = s.messages ∧ (trunkDown s).lines = s.lines ∧ (trunkDown s).dir = s.dir ∧ (trunkDown s).accounts = s.accounts ∧ (trunkDown s).cal = s.cal ∧ (trunkDown s).meters = s.meters ∧ (trunkDown s).queue = s.queue ∧ (trunkDown s).channels = s.channels ∧ (trunkDown s).tickets = s.tickets ∧ (trunkDown s).watches = s.watches ∧ (trunkDown s).sample = s.sample ∧ (trunkDown s).params = s.params ∧ (trunkDown s).mgt.load = s.mgt.load ∧ (trunkDown s).trunk.counter = s.trunk.counter ∧ (trunkDown s).trunk.nd = s.trunk.nd ∧ (trunkDown s).trunk.controls = s.trunk.controls ∧ (trunkDown s).trunk.counters = s.trunk.counters ∧ (∀ j, (trunkDown s).line j = s.line j) ∧ (∀ j, (trunkDown s).channel j = s.channel j) ∧ (∀ j, (trunkDown s).meter j = s.meter j) ∧ (∀ j, (trunkDown s).account j = s.account j) ∧ (∀ j, (trunkDown s).row j = s.row j) ∧ (∀ j, (trunkDown s).message j = s.message j) := by
  unfold trunkDown; (try dsimp only); (refine ⟨?_, ?_, ?_, ?_, ?_, ?_, ?_, ?_, ?_, ?_, ?_, ?_, ?_, ?_, ?_, ?_, ?_, ?_, ?_, ?_, ?_, ?_, ?_, ?_, ?_, ?_, ?_, ?_⟩ <;> (try intro j) <;> (repeat' split) <;> first | (simp; done) | (simp [State.line, State.channel, State.meter, State.account, State.row, State.message, Management.load]; done) | rfl)

@[simp] theorem emptyControls_frame (s : State) :
    (emptyControls s).pending = s.pending ∧ (emptyControls s).inReset = s.inReset ∧ (emptyControls s).now = s.now ∧ (emptyControls s).key = s.key ∧ (emptyControls s).groups = s.groups ∧ (emptyControls s).messages = s.messages ∧ (emptyControls s).lines = s.lines ∧ (emptyControls s).dir = s.dir ∧ (emptyControls s).accounts = s.accounts ∧ (emptyControls s).cal = s.cal ∧ (emptyControls s).meters = s.meters ∧ (emptyControls s).queue = s.queue ∧ (emptyControls s).channels = s.channels ∧ (emptyControls s).tickets = s.tickets ∧ (emptyControls s).watches = s.watches ∧ (emptyControls s).sample = s.sample ∧ (emptyControls s).mgt = s.mgt ∧ (emptyControls s).params = s.params ∧ (emptyControls s).trunk.counter = s.trunk.counter ∧ (emptyControls s).trunk.nd = s.trunk.nd ∧ (emptyControls s).trunk.counters = s.trunk.counters ∧ (emptyControls s).trunk.up = s.trunk.up ∧ (∀ j, (emptyControls s).line j = s.line j) ∧ (∀ j, (emptyControls s).channel j = s.channel j) ∧ (∀ j, (emptyControls s).meter j = s.meter j) ∧ (∀ j, (emptyControls s).account j = s.account j) ∧ (∀ j, (emptyControls s).row j = s.row j) ∧ (∀ j, (emptyControls s).message j = s.message j) := by
  unfold emptyControls; (try dsimp only); (refine ⟨?_, ?_, ?_, ?_, ?_, ?_, ?_, ?_, ?_, ?_, ?_, ?_, ?_, ?_, ?_, ?_, ?_, ?_, ?_, ?_, ?_, ?_, ?_, ?_, ?_, ?_, ?_, ?_⟩ <;> (try intro j) <;> (repeat' split) <;> first | (simp; done) | (simp [State.line, State.channel, State.meter, State.account, State.row, State.message, Management.load]; done) | rfl)

@[simp] theorem loseTrunk_frame (s : State) :
    (loseTrunk s).pending = s.pending ∧ (loseTrunk s).inReset = s.inReset ∧ (loseTrunk s).now = s.now ∧ (loseTrunk s).key = s.key ∧ (loseTrunk s).groups = s.groups ∧ (loseTrunk s).messages = s.messages ∧ (loseTrunk s).dir = s.dir ∧ (loseTrunk s).cal = s.cal ∧ (loseTrunk s).watches = s.watches ∧ (loseTrunk s).sample = s.sample ∧ (loseTrunk s).params = s.params ∧ (loseTrunk s).trunk.counter = s.trunk.counter ∧ (loseTrunk s).trunk.nd = s.trunk.nd ∧ (loseTrunk s).trunk.counters = s.trunk.counters ∧ (∀ j, (loseTrunk s).message j = s.message j) := by
  unfold loseTrunk; (try dsimp only); (refine ⟨?_, ?_, ?_, ?_, ?_, ?_, ?_, ?_, ?_, ?_, ?_, ?_, ?_, ?_, ?_⟩ <;> (try intro j) <;> (repeat' split) <;> first | (simp; done) | (simp [State.line, State.channel, State.meter, State.account, State.row, State.message, Management.load]; done) | rfl)

@[simp] theorem flowStop_frame (l : Fin 32) (c : Fin 24) (s : State) :
    (flowStop l c s).pending = s.pending ∧ (flowStop l c s).inReset = s.inReset ∧ (flowStop l c s).now = s.now ∧ (flowStop l c s).key = s.key ∧ (flowStop l c s).groups = s.groups ∧ (flowStop l c s).messages = s.messages ∧ (flowStop l c s).lines = s.lines ∧ (flowStop l c s).dir = s.dir ∧ (flowStop l c s).accounts = s.accounts ∧ (flowStop l c s).cal = s.cal ∧ (flowStop l c s).meters = s.meters ∧ (flowStop l c s).queue = s.queue ∧ (flowStop l c s).channels = s.channels ∧ (flowStop l c s).tickets = s.tickets ∧ (flowStop l c s).watches = s.watches ∧ (flowStop l c s).sample = s.sample ∧ (flowStop l c s).mgt = s.mgt ∧ (flowStop l c s).params = s.params ∧ (flowStop l c s).trunk.counter = s.trunk.counter ∧ (flowStop l c s).trunk.nd = s.trunk.nd ∧ (flowStop l c s).trunk.counters = s.trunk.counters ∧ (flowStop l c s).trunk.up = s.trunk.up ∧ (∀ j, (flowStop l c s).line j = s.line j) ∧ (∀ j, (flowStop l c s).channel j = s.channel j) ∧ (∀ j, (flowStop l c s).meter j = s.meter j) ∧ (∀ j, (flowStop l c s).account j = s.account j) ∧ (∀ j, (flowStop l c s).row j = s.row j) ∧ (∀ j, (flowStop l c s).message j = s.message j) := by
  unfold flowStop; (try dsimp only); (refine ⟨?_, ?_, ?_, ?_, ?_, ?_, ?_, ?_, ?_, ?_, ?_, ?_, ?_, ?_, ?_, ?_, ?_, ?_, ?_, ?_, ?_, ?_, ?_, ?_, ?_, ?_, ?_, ?_⟩ <;> (try intro j) <;> (repeat' split) <;> first | (simp; done) | (simp [State.line, State.channel, State.meter, State.account, State.row, State.message, Management.load]; done) | rfl)

@[simp] theorem takeData_frame (c : Fin 24) (chars : List Byte) (s : State) :
    (takeData c chars s).pending = s.pending ∧ (takeData c chars s).inReset = s.inReset ∧ (takeData c chars s).now = s.now ∧ (takeData c chars s).key = s.key ∧ (takeData c chars s).groups = s.groups ∧ (takeData c chars s).messages = s.messages ∧ (takeData c chars s).dir = s.dir ∧ (takeData c chars s).accounts = s.accounts ∧ (takeData c chars s).cal = s.cal ∧ (takeData c chars s).meters = s.meters ∧ (takeData c chars s).queue = s.queue ∧ (takeData c chars s).channels = s.channels ∧ (takeData c chars s).tickets = s.tickets ∧ (takeData c chars s).watches = s.watches ∧ (takeData c chars s).sample = s.sample ∧ (takeData c chars s).params = s.params ∧ (takeData c chars s).mgt.load = s.mgt.load ∧ (takeData c chars s).trunk.counter = s.trunk.counter ∧ (takeData c chars s).trunk.nd = s.trunk.nd ∧ (takeData c chars s).trunk.up = s.trunk.up ∧ (∀ j, (takeData c chars s).channel j = s.channel j) ∧ (∀ j, (takeData c chars s).meter j = s.meter j) ∧ (∀ j, (takeData c chars s).account j = s.account j) ∧ (∀ j, (takeData c chars s).row j = s.row j) ∧ (∀ j, (takeData c chars s).message j = s.message j) := by
  unfold takeData; (try dsimp only); (refine ⟨?_, ?_, ?_, ?_, ?_, ?_, ?_, ?_, ?_, ?_, ?_, ?_, ?_, ?_, ?_, ?_, ?_, ?_, ?_, ?_, ?_, ?_, ?_, ?_, ?_⟩ <;> (try intro j) <;> (repeat' split) <;> first | (simp; done) | (simp [State.line, State.channel, State.meter, State.account, State.row, State.message, Management.load]; done) | rfl)

@[simp] theorem setControls_frame (q : List Control) (s : State) :
    (setControls q s).pending = s.pending ∧ (setControls q s).inReset = s.inReset ∧ (setControls q s).now = s.now ∧ (setControls q s).key = s.key ∧ (setControls q s).groups = s.groups ∧ (setControls q s).messages = s.messages ∧ (setControls q s).lines = s.lines ∧ (setControls q s).dir = s.dir ∧ (setControls q s).accounts = s.accounts ∧ (setControls q s).cal = s.cal ∧ (setControls q s).meters = s.meters ∧ (setControls q s).queue = s.queue ∧ (setControls q s).channels = s.channels ∧ (setControls q s).tickets = s.tickets ∧ (setControls q s).watches = s.watches ∧ (setControls q s).sample = s.sample ∧ (setControls q s).mgt = s.mgt ∧ (setControls q s).params = s.params ∧ (setControls q s).trunk.counter = s.trunk.counter ∧ (setControls q s).trunk.nd = s.trunk.nd ∧ (setControls q s).trunk.counters = s.trunk.counters ∧ (setControls q s).trunk.up = s.trunk.up ∧ (∀ j, (setControls q s).line j = s.line j) ∧ (∀ j, (setControls q s).channel j = s.channel j) ∧ (∀ j, (setControls q s).meter j = s.meter j) ∧ (∀ j, (setControls q s).account j = s.account j) ∧ (∀ j, (setControls q s).row j = s.row j) ∧ (∀ j, (setControls q s).message j = s.message j) := by
  unfold setControls; (try dsimp only); (refine ⟨?_, ?_, ?_, ?_, ?_, ?_, ?_, ?_, ?_, ?_, ?_, ?_, ?_, ?_, ?_, ?_, ?_, ?_, ?_, ?_, ?_, ?_, ?_, ?_, ?_, ?_, ?_, ?_⟩ <;> (try intro j) <;> (repeat' split) <;> first | (simp; done) | (simp [State.line, State.channel, State.meter, State.account, State.row, State.message, Management.load]; done) | rfl)

@[simp] theorem giveSegment_frame (r : State × List Byte) (c : Fin 24) :
    (giveSegment r c).1.pending = r.1.pending ∧ (giveSegment r c).1.inReset = r.1.inReset ∧ (giveSegment r c).1.now = r.1.now ∧ (giveSegment r c).1.key = r.1.key ∧ (giveSegment r c).1.groups = r.1.groups ∧ (giveSegment r c).1.messages = r.1.messages ∧ (giveSegment r c).1.dir = r.1.dir ∧ (giveSegment r c).1.accounts = r.1.accounts ∧ (giveSegment r c).1.cal = r.1.cal ∧ (giveSegment r c).1.meters = r.1.meters ∧ (giveSegment r c).1.queue = r.1.queue ∧ (giveSegment r c).1.channels = r.1.channels ∧ (giveSegment r c).1.tickets = r.1.tickets ∧ (giveSegment r c).1.watches = r.1.watches ∧ (giveSegment r c).1.sample = r.1.sample ∧ (giveSegment r c).1.mgt = r.1.mgt ∧ (giveSegment r c).1.params = r.1.params ∧ (giveSegment r c).1.trunk.counter = r.1.trunk.counter ∧ (giveSegment r c).1.trunk.nd = r.1.trunk.nd ∧ (giveSegment r c).1.trunk.controls = r.1.trunk.controls ∧ (giveSegment r c).1.trunk.counters = r.1.trunk.counters ∧ (giveSegment r c).1.trunk.up = r.1.trunk.up ∧ (∀ j, (giveSegment r c).1.channel j = r.1.channel j) ∧ (∀ j, (giveSegment r c).1.meter j = r.1.meter j) ∧ (∀ j, (giveSegment r c).1.account j = r.1.account j) ∧ (∀ j, (giveSegment r c).1.row j = r.1.row j) ∧ (∀ j, (giveSegment r c).1.message j = r.1.message j) := by
  unfold giveSegment; (refine ⟨?_, ?_, ?_, ?_, ?_, ?_, ?_, ?_, ?_, ?_, ?_, ?_, ?_, ?_, ?_, ?_, ?_, ?_, ?_, ?_, ?_, ?_, ?_, ?_, ?_, ?_, ?_⟩ <;> (try intro j) <;> (repeat' split) <;> simp)

@[simp] theorem serveTurn_frame (cs : List (Fin 24)) (r : State × List Byte) :
    (serveTurn cs r).1.pending = r.1.pending ∧ (serveTurn cs r).1.inReset = r.1.inReset ∧ (serveTurn cs r).1.now = r.1.now ∧ (serveTurn cs r).1.key = r.1.key ∧ (serveTurn cs r).1.groups = r.1.groups ∧ (serveTurn cs r).1.messages = r.1.messages ∧ (serveTurn cs r).1.dir = r.1.dir ∧ (serveTurn cs r).1.accounts = r.1.accounts ∧ (serveTurn cs r).1.cal = r.1.cal ∧ (serveTurn cs r).1.meters = r.1.meters ∧ (serveTurn cs r).1.queue = r.1.queue ∧ (serveTurn cs r).1.channels = r.1.channels ∧ (serveTurn cs r).1.tickets = r.1.tickets ∧ (serveTurn cs r).1.watches = r.1.watches ∧ (serveTurn cs r).1.sample = r.1.sample ∧ (serveTurn cs r).1.mgt = r.1.mgt ∧ (serveTurn cs r).1.params = r.1.params ∧ (serveTurn cs r).1.trunk.counter = r.1.trunk.counter ∧ (serveTurn cs r).1.trunk.nd = r.1.trunk.nd ∧ (serveTurn cs r).1.trunk.controls = r.1.trunk.controls ∧ (serveTurn cs r).1.trunk.counters = r.1.trunk.counters ∧ (serveTurn cs r).1.trunk.up = r.1.trunk.up ∧ (∀ j, (serveTurn cs r).1.channel j = r.1.channel j) ∧ (∀ j, (serveTurn cs r).1.meter j = r.1.meter j) ∧ (∀ j, (serveTurn cs r).1.account j = r.1.account j) ∧ (∀ j, (serveTurn cs r).1.row j = r.1.row j) ∧ (∀ j, (serveTurn cs r).1.message j = r.1.message j) := by
  unfold serveTurn
  exact ⟨foldl_keeps (fun r : State × List Byte => r.1.pending) _ (fun _ _ => by simp) _ _,
    foldl_keeps (fun r : State × List Byte => r.1.inReset) _ (fun _ _ => by simp) _ _,
    foldl_keeps (fun r : State × List Byte => r.1.now) _ (fun _ _ => by simp) _ _,
    foldl_keeps (fun r : State × List Byte => r.1.key) _ (fun _ _ => by simp) _ _,
    foldl_keeps (fun r : State × List Byte => r.1.groups) _ (fun _ _ => by simp) _ _,
    foldl_keeps (fun r : State × List Byte => r.1.messages) _ (fun _ _ => by simp) _ _,
    foldl_keeps (fun r : State × List Byte => r.1.dir) _ (fun _ _ => by simp) _ _,
    foldl_keeps (fun r : State × List Byte => r.1.accounts) _ (fun _ _ => by simp) _ _,
    foldl_keeps (fun r : State × List Byte => r.1.cal) _ (fun _ _ => by simp) _ _,
    foldl_keeps (fun r : State × List Byte => r.1.meters) _ (fun _ _ => by simp) _ _,
    foldl_keeps (fun r : State × List Byte => r.1.queue) _ (fun _ _ => by simp) _ _,
    foldl_keeps (fun r : State × List Byte => r.1.channels) _ (fun _ _ => by simp) _ _,
    foldl_keeps (fun r : State × List Byte => r.1.tickets) _ (fun _ _ => by simp) _ _,
    foldl_keeps (fun r : State × List Byte => r.1.watches) _ (fun _ _ => by simp) _ _,
    foldl_keeps (fun r : State × List Byte => r.1.sample) _ (fun _ _ => by simp) _ _,
    foldl_keeps (fun r : State × List Byte => r.1.mgt) _ (fun _ _ => by simp) _ _,
    foldl_keeps (fun r : State × List Byte => r.1.params) _ (fun _ _ => by simp) _ _,
    foldl_keeps (fun r : State × List Byte => r.1.trunk.counter) _ (fun _ _ => by simp) _ _,
    foldl_keeps (fun r : State × List Byte => r.1.trunk.nd) _ (fun _ _ => by simp) _ _,
    foldl_keeps (fun r : State × List Byte => r.1.trunk.controls) _ (fun _ _ => by simp) _ _,
    foldl_keeps (fun r : State × List Byte => r.1.trunk.counters) _ (fun _ _ => by simp) _ _,
    foldl_keeps (fun r : State × List Byte => r.1.trunk.up) _ (fun _ _ => by simp) _ _,
    fun j => foldl_keeps (fun r : State × List Byte => r.1.channel j) _ (fun _ _ => by simp) _ _,
    fun j => foldl_keeps (fun r : State × List Byte => r.1.meter j) _ (fun _ _ => by simp) _ _,
    fun j => foldl_keeps (fun r : State × List Byte => r.1.account j) _ (fun _ _ => by simp) _ _,
    fun j => foldl_keeps (fun r : State × List Byte => r.1.row j) _ (fun _ _ => by simp) _ _,
    fun j => foldl_keeps (fun r : State × List Byte => r.1.message j) _ (fun _ _ => by simp) _ _⟩

@[simp] theorem buildPayload_frame (s : State) :
    (buildPayload s).1.pending = s.pending ∧ (buildPayload s).1.inReset = s.inReset ∧ (buildPayload s).1.now = s.now ∧ (buildPayload s).1.key = s.key ∧ (buildPayload s).1.groups = s.groups ∧ (buildPayload s).1.messages = s.messages ∧ (buildPayload s).1.dir = s.dir ∧ (buildPayload s).1.accounts = s.accounts ∧ (buildPayload s).1.cal = s.cal ∧ (buildPayload s).1.meters = s.meters ∧ (buildPayload s).1.queue = s.queue ∧ (buildPayload s).1.channels = s.channels ∧ (buildPayload s).1.tickets = s.tickets ∧ (buildPayload s).1.watches = s.watches ∧ (buildPayload s).1.sample = s.sample ∧ (buildPayload s).1.mgt = s.mgt ∧ (buildPayload s).1.params = s.params ∧ (buildPayload s).1.trunk.counter = s.trunk.counter ∧ (buildPayload s).1.trunk.nd = s.trunk.nd ∧ (buildPayload s).1.trunk.counters = s.trunk.counters ∧ (buildPayload s).1.trunk.up = s.trunk.up ∧ (∀ j, (buildPayload s).1.channel j = s.channel j) ∧ (∀ j, (buildPayload s).1.meter j = s.meter j) ∧ (∀ j, (buildPayload s).1.account j = s.account j) ∧ (∀ j, (buildPayload s).1.row j = s.row j) ∧ (∀ j, (buildPayload s).1.message j = s.message j) := by
  unfold buildPayload; (try dsimp only); (refine ⟨?_, ?_, ?_, ?_, ?_, ?_, ?_, ?_, ?_, ?_, ?_, ?_, ?_, ?_, ?_, ?_, ?_, ?_, ?_, ?_, ?_, ?_, ?_, ?_, ?_, ?_⟩ <;> (try intro j) <;> (repeat' split) <;> first | (simp; done) | (simp [State.line, State.channel, State.meter, State.account, State.row, State.message, Management.load]; done) | rfl)

@[simp] theorem sendBlock_frame (s : State) :
    (sendBlock s).pending = s.pending ∧ (sendBlock s).inReset = s.inReset ∧ (sendBlock s).now = s.now ∧ (sendBlock s).key = s.key ∧ (sendBlock s).groups = s.groups ∧ (sendBlock s).messages = s.messages ∧ (sendBlock s).dir = s.dir ∧ (sendBlock s).accounts = s.accounts ∧ (sendBlock s).cal = s.cal ∧ (sendBlock s).meters = s.meters ∧ (sendBlock s).queue = s.queue ∧ (sendBlock s).channels = s.channels ∧ (sendBlock s).tickets = s.tickets ∧ (sendBlock s).watches = s.watches ∧ (sendBlock s).sample = s.sample ∧ (sendBlock s).mgt = s.mgt ∧ (sendBlock s).params = s.params ∧ (sendBlock s).trunk.nd = s.trunk.nd ∧ (sendBlock s).trunk.counters = s.trunk.counters ∧ (sendBlock s).trunk.up = s.trunk.up ∧ (∀ j, (sendBlock s).channel j = s.channel j) ∧ (∀ j, (sendBlock s).meter j = s.meter j) ∧ (∀ j, (sendBlock s).account j = s.account j) ∧ (∀ j, (sendBlock s).row j = s.row j) ∧ (∀ j, (sendBlock s).message j = s.message j) := by
  unfold sendBlock; (try dsimp only); (refine ⟨?_, ?_, ?_, ?_, ?_, ?_, ?_, ?_, ?_, ?_, ?_, ?_, ?_, ?_, ?_, ?_, ?_, ?_, ?_, ?_, ?_, ?_, ?_, ?_, ?_⟩ <;> (try intro j) <;> (repeat' split) <;> first | (simp; done) | (simp [State.line, State.channel, State.meter, State.account, State.row, State.message, Management.load]; done) | rfl)

@[simp] theorem sendService_frame (s : State) :
    (sendService s).pending = s.pending ∧ (sendService s).inReset = s.inReset ∧ (sendService s).now = s.now ∧ (sendService s).key = s.key ∧ (sendService s).groups = s.groups ∧ (sendService s).messages = s.messages ∧ (sendService s).lines = s.lines ∧ (sendService s).dir = s.dir ∧ (sendService s).accounts = s.accounts ∧ (sendService s).cal = s.cal ∧ (sendService s).meters = s.meters ∧ (sendService s).queue = s.queue ∧ (sendService s).channels = s.channels ∧ (sendService s).tickets = s.tickets ∧ (sendService s).watches = s.watches ∧ (sendService s).sample = s.sample ∧ (sendService s).params = s.params ∧ (sendService s).trunk.controls = s.trunk.controls ∧ (sendService s).trunk.counters = s.trunk.counters ∧ (sendService s).trunk.up = s.trunk.up ∧ (∀ j, (sendService s).line j = s.line j) ∧ (∀ j, (sendService s).channel j = s.channel j) ∧ (∀ j, (sendService s).meter j = s.meter j) ∧ (∀ j, (sendService s).account j = s.account j) ∧ (∀ j, (sendService s).row j = s.row j) ∧ (∀ j, (sendService s).message j = s.message j) := by
  unfold sendService; (try dsimp only); (refine ⟨?_, ?_, ?_, ?_, ?_, ?_, ?_, ?_, ?_, ?_, ?_, ?_, ?_, ?_, ?_, ?_, ?_, ?_, ?_, ?_, ?_, ?_, ?_, ?_, ?_, ?_⟩ <;> (try intro j) <;> (repeat' split) <;> first | (simp; done) | (simp [State.line, State.channel, State.meter, State.account, State.row, State.message, Management.load]; done) | rfl)

@[simp] theorem deliver_frame (d : Delivery) (s : State) :
    (deliver d s).pending = s.pending ∧ (deliver d s).inReset = s.inReset ∧ (deliver d s).now = s.now ∧ (deliver d s).key = s.key ∧ (deliver d s).groups = s.groups ∧ (deliver d s).messages = s.messages ∧ (deliver d s).dir = s.dir ∧ (deliver d s).cal = s.cal ∧ (deliver d s).queue = s.queue ∧ (deliver d s).watches = s.watches ∧ (deliver d s).sample = s.sample ∧ (deliver d s).params = s.params ∧ (deliver d s).mgt.load = s.mgt.load ∧ (deliver d s).trunk.counter = s.trunk.counter ∧ (deliver d s).trunk.nd = s.trunk.nd ∧ (deliver d s).trunk.up = s.trunk.up ∧ (∀ j, (deliver d s).message j = s.message j) := by
  unfold deliver; (try dsimp only); (refine ⟨?_, ?_, ?_, ?_, ?_, ?_, ?_, ?_, ?_, ?_, ?_, ?_, ?_, ?_, ?_, ?_, ?_⟩ <;> (try intro j) <;> (repeat' split) <;> first | (simp; done) | (simp [State.line, State.channel, State.meter, State.account, State.row, State.message, Management.load]; done) | rfl)

@[simp] theorem deliverAll_frame (ds : List Delivery) (s : State) :
    (deliverAll ds s).pending = s.pending ∧ (deliverAll ds s).inReset = s.inReset ∧ (deliverAll ds s).now = s.now ∧ (deliverAll ds s).key = s.key ∧ (deliverAll ds s).groups = s.groups ∧ (deliverAll ds s).messages = s.messages ∧ (deliverAll ds s).dir = s.dir ∧ (deliverAll ds s).cal = s.cal ∧ (deliverAll ds s).queue = s.queue ∧ (deliverAll ds s).watches = s.watches ∧ (deliverAll ds s).sample = s.sample ∧ (deliverAll ds s).params = s.params ∧ (deliverAll ds s).mgt.load = s.mgt.load ∧ (deliverAll ds s).trunk.counter = s.trunk.counter ∧ (deliverAll ds s).trunk.nd = s.trunk.nd ∧ (deliverAll ds s).trunk.up = s.trunk.up ∧ (∀ j, (deliverAll ds s).message j = s.message j) := by
  unfold deliverAll
  exact ⟨foldl_keeps State.pending _ (fun _ _ => by first | (simp; done) | ((repeat' split) <;> first | (simp; done))) _ _,
    foldl_keeps State.inReset _ (fun _ _ => by first | (simp; done) | ((repeat' split) <;> first | (simp; done))) _ _,
    foldl_keeps State.now _ (fun _ _ => by first | (simp; done) | ((repeat' split) <;> first | (simp; done))) _ _,
    foldl_keeps State.key _ (fun _ _ => by first | (simp; done) | ((repeat' split) <;> first | (simp; done))) _ _,
    foldl_keeps State.groups _ (fun _ _ => by first | (simp; done) | ((repeat' split) <;> first | (simp; done))) _ _,
    foldl_keeps State.messages _ (fun _ _ => by first | (simp; done) | ((repeat' split) <;> first | (simp; done))) _ _,
    foldl_keeps State.dir _ (fun _ _ => by first | (simp; done) | ((repeat' split) <;> first | (simp; done))) _ _,
    foldl_keeps State.cal _ (fun _ _ => by first | (simp; done) | ((repeat' split) <;> first | (simp; done))) _ _,
    foldl_keeps State.queue _ (fun _ _ => by first | (simp; done) | ((repeat' split) <;> first | (simp; done))) _ _,
    foldl_keeps State.watches _ (fun _ _ => by first | (simp; done) | ((repeat' split) <;> first | (simp; done))) _ _,
    foldl_keeps State.sample _ (fun _ _ => by first | (simp; done) | ((repeat' split) <;> first | (simp; done))) _ _,
    foldl_keeps State.params _ (fun _ _ => by first | (simp; done) | ((repeat' split) <;> first | (simp; done))) _ _,
    foldl_keeps (fun s : State => s.mgt.load) _ (fun _ _ => by first | (simp; done) | ((repeat' split) <;> first | (simp; done))) _ _,
    foldl_keeps (fun s : State => s.trunk.counter) _ (fun _ _ => by first | (simp; done) | ((repeat' split) <;> first | (simp; done))) _ _,
    foldl_keeps (fun s : State => s.trunk.nd) _ (fun _ _ => by first | (simp; done) | ((repeat' split) <;> first | (simp; done))) _ _,
    foldl_keeps (fun s : State => s.trunk.up) _ (fun _ _ => by first | (simp; done) | ((repeat' split) <;> first | (simp; done))) _ _,
    fun j => foldl_keeps (fun s : State => State.message s j) _ (fun _ _ => by first | (simp; done) | ((repeat' split) <;> first | (simp; done))) _ _⟩

@[simp] theorem takeTraffic_frame (pay : List Byte) (s : State) :
    (takeTraffic pay s).pending = s.pending ∧ (takeTraffic pay s).inReset = s.inReset ∧ (takeTraffic pay s).now = s.now ∧ (takeTraffic pay s).key = s.key ∧ (takeTraffic pay s).groups = s.groups ∧ (takeTraffic pay s).messages = s.messages ∧ (takeTraffic pay s).dir = s.dir ∧ (takeTraffic pay s).cal = s.cal ∧ (takeTraffic pay s).queue = s.queue ∧ (takeTraffic pay s).watches = s.watches ∧ (takeTraffic pay s).sample = s.sample ∧ (takeTraffic pay s).params = s.params ∧ (takeTraffic pay s).mgt.load = s.mgt.load ∧ (takeTraffic pay s).trunk.counter = s.trunk.counter ∧ (takeTraffic pay s).trunk.nd = s.trunk.nd ∧ (takeTraffic pay s).trunk.up = s.trunk.up ∧ (∀ j, (takeTraffic pay s).message j = s.message j) := by
  unfold takeTraffic; (try dsimp only); (refine ⟨?_, ?_, ?_, ?_, ?_, ?_, ?_, ?_, ?_, ?_, ?_, ?_, ?_, ?_, ?_, ?_, ?_⟩ <;> (try intro j) <;> (repeat' split) <;> first | (simp; done) | (simp [State.line, State.channel, State.meter, State.account, State.row, State.message, Management.load]; done) | rfl)

@[simp] theorem trunkAlive_frame (s : State) :
    (trunkAlive s).pending = s.pending ∧ (trunkAlive s).inReset = s.inReset ∧ (trunkAlive s).now = s.now ∧ (trunkAlive s).key = s.key ∧ (trunkAlive s).groups = s.groups ∧ (trunkAlive s).messages = s.messages ∧ (trunkAlive s).lines = s.lines ∧ (trunkAlive s).dir = s.dir ∧ (trunkAlive s).accounts = s.accounts ∧ (trunkAlive s).cal = s.cal ∧ (trunkAlive s).meters = s.meters ∧ (trunkAlive s).queue = s.queue ∧ (trunkAlive s).channels = s.channels ∧ (trunkAlive s).tickets = s.tickets ∧ (trunkAlive s).watches = s.watches ∧ (trunkAlive s).sample = s.sample ∧ (trunkAlive s).params = s.params ∧ (trunkAlive s).mgt.load = s.mgt.load ∧ (trunkAlive s).trunk.counter = s.trunk.counter ∧ (trunkAlive s).trunk.nd = s.trunk.nd ∧ (trunkAlive s).trunk.controls = s.trunk.controls ∧ (trunkAlive s).trunk.counters = s.trunk.counters ∧ (∀ j, (trunkAlive s).line j = s.line j) ∧ (∀ j, (trunkAlive s).channel j = s.channel j) ∧ (∀ j, (trunkAlive s).meter j = s.meter j) ∧ (∀ j, (trunkAlive s).account j = s.account j) ∧ (∀ j, (trunkAlive s).row j = s.row j) ∧ (∀ j, (trunkAlive s).message j = s.message j) := by
  unfold trunkAlive; (try dsimp only); (refine ⟨?_, ?_, ?_, ?_, ?_, ?_, ?_, ?_, ?_, ?_, ?_, ?_, ?_, ?_, ?_, ?_, ?_, ?_, ?_, ?_, ?_, ?_, ?_, ?_, ?_, ?_, ?_, ?_⟩ <;> (try intro j) <;> (repeat' split) <;> first | (simp; done) | (simp [State.line, State.channel, State.meter, State.account, State.row, State.message, Management.load]; done) | rfl)

@[simp] theorem countCrc_frame (s : State) :
    (countCrc s).pending = s.pending ∧ (countCrc s).inReset = s.inReset ∧ (countCrc s).now = s.now ∧ (countCrc s).key = s.key ∧ (countCrc s).groups = s.groups ∧ (countCrc s).messages = s.messages ∧ (countCrc s).lines = s.lines ∧ (countCrc s).dir = s.dir ∧ (countCrc s).accounts = s.accounts ∧ (countCrc s).cal = s.cal ∧ (countCrc s).meters = s.meters ∧ (countCrc s).queue = s.queue ∧ (countCrc s).channels = s.channels ∧ (countCrc s).tickets = s.tickets ∧ (countCrc s).watches = s.watches ∧ (countCrc s).sample = s.sample ∧ (countCrc s).mgt = s.mgt ∧ (countCrc s).params = s.params ∧ (countCrc s).trunk.counter = s.trunk.counter ∧ (countCrc s).trunk.nd = s.trunk.nd ∧ (countCrc s).trunk.controls = s.trunk.controls ∧ (countCrc s).trunk.up = s.trunk.up ∧ (∀ j, (countCrc s).line j = s.line j) ∧ (∀ j, (countCrc s).channel j = s.channel j) ∧ (∀ j, (countCrc s).meter j = s.meter j) ∧ (∀ j, (countCrc s).account j = s.account j) ∧ (∀ j, (countCrc s).row j = s.row j) ∧ (∀ j, (countCrc s).message j = s.message j) := by
  unfold countCrc; (try dsimp only); (refine ⟨?_, ?_, ?_, ?_, ?_, ?_, ?_, ?_, ?_, ?_, ?_, ?_, ?_, ?_, ?_, ?_, ?_, ?_, ?_, ?_, ?_, ?_, ?_, ?_, ?_, ?_, ?_, ?_⟩ <;> (try intro j) <;> (repeat' split) <;> first | (simp; done) | (simp [State.line, State.channel, State.meter, State.account, State.row, State.message, Management.load]; done) | rfl)

@[simp] theorem countKind_frame (s : State) :
    (countKind s).pending = s.pending ∧ (countKind s).inReset = s.inReset ∧ (countKind s).now = s.now ∧ (countKind s).key = s.key ∧ (countKind s).groups = s.groups ∧ (countKind s).messages = s.messages ∧ (countKind s).lines = s.lines ∧ (countKind s).dir = s.dir ∧ (countKind s).accounts = s.accounts ∧ (countKind s).cal = s.cal ∧ (countKind s).meters = s.meters ∧ (countKind s).queue = s.queue ∧ (countKind s).channels = s.channels ∧ (countKind s).tickets = s.tickets ∧ (countKind s).watches = s.watches ∧ (countKind s).sample = s.sample ∧ (countKind s).mgt = s.mgt ∧ (countKind s).params = s.params ∧ (countKind s).trunk.counter = s.trunk.counter ∧ (countKind s).trunk.nd = s.trunk.nd ∧ (countKind s).trunk.controls = s.trunk.controls ∧ (countKind s).trunk.up = s.trunk.up ∧ (∀ j, (countKind s).line j = s.line j) ∧ (∀ j, (countKind s).channel j = s.channel j) ∧ (∀ j, (countKind s).meter j = s.meter j) ∧ (∀ j, (countKind s).account j = s.account j) ∧ (∀ j, (countKind s).row j = s.row j) ∧ (∀ j, (countKind s).message j = s.message j) := by
  unfold countKind; (try dsimp only); (refine ⟨?_, ?_, ?_, ?_, ?_, ?_, ?_, ?_, ?_, ?_, ?_, ?_, ?_, ?_, ?_, ?_, ?_, ?_, ?_, ?_, ?_, ?_, ?_, ?_, ?_, ?_, ?_, ?_⟩ <;> (try intro j) <;> (repeat' split) <;> first | (simp; done) | (simp [State.line, State.channel, State.meter, State.account, State.row, State.message, Management.load]; done) | rfl)

end Sys2Proof.Machine
end

