-- ==== Sys2Proof/Tests/Slice0.lean ====
section
/-! SUPPORT. Tests on fixed values: the ill-formed terms that WellFormed refuses, single steps on small states, and for every statement a state and operands that meet the hypotheses of each of its clauses. -/

namespace Sys2Proof.Tests

set_option Elab.async false

open Sys2Proof Sys2Proof.Machine

/-! ## WellFormed refuses each ill-formed term -/

theorem test_secondBoundary_named_twice : (Instr.secondBoundary [3, 3]).wellFormed = false := by decide
theorem test_secondBoundary_named_once : (Instr.secondBoundary [3, 0]).wellFormed = true := by decide
theorem test_downwardBlock_empty : (Instr.downwardBlock [] ⟨false, 0⟩).wellFormed = false := by decide
theorem test_downwardBlock_one_byte : (Instr.downwardBlock [0x21] ⟨false, 0⟩).wellFormed = true := by decide
theorem test_dataSegment_empty : (Instr.dataSegment 0 []).wellFormed = false := by decide
theorem test_dataSegment_60 : (Instr.dataSegment 0 (List.replicate 60 0)).wellFormed = false := by decide
theorem test_dataSegment_59 : (Instr.dataSegment 0 (List.replicate 59 0)).wellFormed = true := by decide
theorem test_unknownCommand_known : (Instr.unknownCommand 1 0x85).wellFormed = false := by decide
theorem test_unknownCommand_unknown : (Instr.unknownCommand 1 0x86).wellFormed = true := by decide
theorem test_continuation_59 : (Instr.continuation 1 0x11 59 (List.replicate 59 0) ⟨false, 0⟩).wellFormed = false := by decide
theorem test_continuation_58 : (Instr.continuation 1 0x11 58 (List.replicate 58 0) ⟨false, 0⟩).wellFormed = true := by decide
theorem test_loadMessage_254 : (Instr.loadMessage 1 0 254 (List.replicate 254 0)).wellFormed = false := by decide +kernel
theorem test_loadMessage_253 : (Instr.loadMessage 1 0 253 (List.replicate 253 0)).wellFormed = true := by decide +kernel
theorem test_broadcast_255 : (Instr.broadcast 1 255 (List.replicate 255 0)).wellFormed = false := by decide +kernel
theorem test_broadcast_254 : (Instr.broadcast 1 254 (List.replicate 254 0)).wellFormed = true := by decide +kernel
theorem test_stageEntry_short_code : (Instr.stageEntry 1 0 (spaces 5) 0 (spaces 8) 0 0 0).wellFormed = false := by decide
theorem test_stageEntry_short_password : (Instr.stageEntry 1 0 (spaces 6) 0 (spaces 7) 0 0 0).wellFormed = false := by decide
theorem test_findUser_long_code : (Instr.findUser 1 (spaces 7)).wellFormed = false := by decide

/-! ## Single steps and formats -/

theorem test_no_word_spells_a_command : decodeTableWord 16 0x4200 = none := by decide
theorem test_withFetchWord : State.reset.withFetchWord 16 0x4200 = State.reset := rfl

/-- R198: the check value for host software. -/
theorem test_crc_check_value : crc [0x31, 0x32, 0x33, 0x34, 0x35, 0x36, 0x37, 0x38, 0x39] = 0x29B1 := by decide +kernel

/-- R90: 28 February of a leap year, and of another. -/
theorem test_clock_leap : (Clock.advance ⟨59, 59, 23, 2, 28, 2, 4⟩).1 = ⟨0, 0, 0, 3, 29, 2, 4⟩ := by decide
theorem test_clock_no_leap : (Clock.advance ⟨59, 59, 23, 6, 28, 2, 5⟩).1 = ⟨0, 0, 0, 0, 1, 3, 5⟩ := by decide
theorem test_clock_century : (Clock.advance ⟨59, 59, 23, 6, 31, 12, 99⟩).1 = ⟨0, 0, 0, 0, 1, 1, 0⟩ := by decide

/-- R111: the clamp of the effective rate. -/
theorem test_rate_clamp : effectiveRate 65535 63 = 65535 := by decide
theorem test_rate_half : effectiveRate 3001 8 = 1500 := by decide

/-- R152: the serial after 65535 is 1. -/
theorem test_serial_wraps : nextSerial 65535 = 1 := by decide
theorem test_serial_skips : skipHeld [5, 6] 64 5 = 7 := by decide

/-- R161: a HIGH set at 11 against an upper limit of 10 and a hysteresis of 2 stays at 9 and clears at 8. -/
theorem test_hysteresis : ((Watch.flags ⟨true, .latched, 10, 0, 255, 2, 0, true, false, false, false⟩ 9).high,
    (Watch.flags ⟨true, .latched, 10, 0, 255, 2, 0, true, false, false, false⟩ 8).high) = (true, false) := by decide

/-- R19: values in decimal. -/
theorem test_decimal_zero : decimalText 0 = [0x30] := by decide
theorem test_decimal_negative : decimalText (-120) = [0x2D, 0x31, 0x32, 0x30] := by decide

/-- R47, R53: a code with a gap is no code. -/
theorem test_code_gap : validCode [0x41, 0x20, 0x42, 0x20, 0x20, 0x20] = false := by decide
theorem test_code_short : validCode [0x41, 0x39, 0x20, 0x20, 0x20, 0x20] = true := by decide

/-- R199: an OPEN control segment. -/
theorem test_open_segment : Control.bytes ⟨23, .opened 5 [0x41] 7 2⟩ = [0x58, 0x01, 5, 0x41, 0x20, 0x20, 0x20, 0x20, 0x20, 7, 2] := by decide

/-- The state after a command, or the same state where it stopped. -/
def after (i : Instr) (s : State) : State :=
  match exec i s with
  | .next t => t
  | .fault _ | .refused _ => s

/-- R197: an upward IDLE block of a part with nothing to send. -/
theorem test_idle_block : (after .upwardBlock .reset).trunk.counter = 1 ∧
    (after .upwardBlock .reset).trunk.sent.take 62 = 0x11 :: List.replicate 61 0 := by decide +kernel

/-- R171: a valid block at a part just released brings the trunk up. -/
theorem test_first_block : (after (.downwardBlock (blockBytes 0x21 []) ⟨false, 0⟩) .reset).trunk.up = true ∧
    (after (.downwardBlock (blockBytes 0x21 []) ⟨false, 0⟩) .reset).mgt.sticky.restarted = true := by decide +kernel

/-- R183: a command on the wire, READ COUNTERS with tag 9. -/
theorem test_command_block : (after (.downwardBlock (blockBytes 0x23 [9, 0x85, 0]) ⟨false, 0⟩) .reset).mgt.replies =
    [⟨9, 0x85, .done, [0, 0, 0, 0, 0, 0, 0, 0]⟩] := by decide +kernel

/-! ## States for the witnesses -/

def code : List Byte := [0x41, 0x42, 0x20, 0x20, 0x20, 0x20]
def password : List Byte := [0x50, 0x20, 0x20, 0x20, 0x20, 0x20, 0x20, 0x20]
def admission : Admission := ⟨code, 7, 2, false⟩
def meter : Meter := ⟨7, 7, 2, 1, 16, 3600, 1799, 1, 1, 0, 9, [⟨0, 9, 1⟩], false, none, none, false, false, false⟩
def reservation : Reservation := ⟨1, 7, code, 7, 2, some ⟨26, 1, 1, 0, 0, 0⟩⟩
def offered : Reservation := ⟨0, 6, code, 7, 2, none⟩
def ticket : Ticket := ⟨3, code, 7, 2, none, 1, ⟨26, 1, 1, 0, 0, 0⟩, 9, 1, 1, 0, .idle, ⟨false, false, false, false, false⟩, [⟨0, 9, 1⟩]⟩
def waiter : Waiter := ⟨5, false, 0, 6000, some 600⟩
def staged : Staged := ⟨1023, code, none, 7, 2, true⟩

/-- A part at work: lines 0 to 10 stand in the eleven line states, channels 0 to 3 in OFFERED, CONNECTED, CLOSING and QUARANTINED, with a waiter, a session, an offer, a ticket, a staged entry and running timers. -/
def busy : State := { State.reset with
  lines := #v[
      Line.powerOn false false,
      { Line.powerOn true false with state := .ringing, group := some 0, rings := 1, timers := { LineTimers.stopped with ringGap := some 80 } },
      { Line.powerOn false false with state := .answering, group := some 0, timers := { LineTimers.stopped with answer := some 300 } },
      { Line.powerOn false true with
        state := .signon, group := some 0, dialogue := { Dialogue.idle with phase := .announce }
        timers := { LineTimers.stopped with signOn := some 900, carrier := some 5 } },
      { Line.powerOn false true with
        state := .checking, group := some 0, dialogue := ⟨.lookup, [0x41, 0x42], [0x50], .inFlight, code, false⟩
        timers := { LineTimers.stopped with signOn := some 900, carrier := some 5 } },
      { Line.powerOn false true with
        state := .waiting, group := some 0, admission := some admission, timers := { LineTimers.stopped with carrier := some 5 } },
      { Line.powerOn false true with
        state := .offered, group := some 0, admission := some admission, channel := some 0
        timers := { LineTimers.stopped with carrier := some 5 } },
      { Line.powerOn false true with
        state := .connected, group := some 0, admission := some admission, channel := some 1
        timers := { LineTimers.stopped with carrier := some 5, idle := some 100 } },
      { Line.powerOn false true with state := .draining, timers := { LineTimers.stopped with carrier := some 5, drain := some 100 } },
      { Line.powerOn false false with state := .clearing, timers := { LineTimers.stopped with guard := some 20 } },
      { Line.powerOn false false with state := .blocked }] ++ Vector.replicate 21 (Line.powerOn false false)
  dir := ⟨[(0, ⟨code, password, 7, 2, true⟩)], [], 0, false, ⟨.staging, some 127, [staged], .none, some 300, false⟩⟩
  accounts := State.reset.accounts.set 7 ⟨.active, 100, 0, 10, 15, 3, false⟩
  cal := { Calendar.powerOn with valid := true, boundary := some 10, permits := Vector.replicate 8 (Vector.replicate 8 .opened) }
  meters := State.reset.meters.set 1 (some meter)
  queue := [waiter]
  channels := #v[
      { Channel.powerOn with state := .offered, line := some 6, row := some 0, timer := some 100 },
      { Channel.powerOn with state := .connected, line := some 7, row := some 1 },
      { Channel.powerOn with state := .closing, line := some 8, timer := some 100 },
      { Channel.powerOn with state := .quarantined, line := some 8 }] ++ Vector.replicate 20 Channel.powerOn
  tickets := ⟨#v[Row.reserved offered, Row.reserved reservation, Row.closed ticket] ++ Vector.replicate 61 Row.free, [2], 2⟩
  trunk := { Trunk.powerOn with up := true, lossTimer := some 30 }
  mgt := { Management.powerOn with service := .opened } }

theorem ready (s : State) (h : s.inReset = false ∧ s.mgt.held = none ∧
    s.mgt.replies.length + (if s.mgt.writing.isSome then 1 else 0) < 16) : s.Ready := h

theorem busy_ready : busy.Ready := ⟨rfl, rfl, by decide +kernel⟩

theorem busy_coherent : busy.Coherent := by
  refine ⟨?_, ?_, ?_, ?_, ?_, ?_⟩
  · intro c
    have h : c = 0 ∨ c = 1 ∨ (busy.channel c).state = .closing ∨ (busy.channel c).state = .quarantined ∨ (busy.channel c).state = .free := by
      revert c; decide +kernel
    have hm : c = 1 ∨ busy.meter c = none := by revert c; decide +kernel
    have hr : c = 0 ∨ c = 1 ∨ (busy.channel c).row = none := by revert c; decide +kernel
    have ht : (busy.channel c).state ∈ [ChannelState.quarantined, .free] → (busy.channel c).timer = none := by revert c; decide +kernel
    have hl : (busy.channel c).state = .free → (busy.channel c).line = none := by revert c; decide +kernel
    by_cases h0 : c = 0
    · subst h0
      exact ⟨by decide +kernel, 6, by decide +kernel, by decide +kernel, by decide +kernel, by decide +kernel, 0, by decide +kernel, by exact ⟨rfl, rfl⟩⟩
    by_cases h1 : c = 1
    · subst h1
      exact ⟨rfl, 7, by decide +kernel, by decide +kernel, by decide +kernel, meter, admission, by decide +kernel, by decide +kernel, rfl, rfl,
        by decide +kernel, by exact ⟨rfl, rfl⟩⟩
    have hm := hm.resolve_left h1
    have hr := (hr.resolve_left h0).resolve_left h1
    rcases (h.resolve_left h0).resolve_left h1 with h | h | h
    · simp only [State.ChannelCoherent, h]; exact ⟨hm, hr⟩
    · simp only [State.ChannelCoherent, h]; exact ⟨hm, hr, ht (by simp [h])⟩
    · simp only [State.ChannelCoherent, h]; exact ⟨hm, hr, hl h, ht (by simp [h])⟩
  · intro l
    have h : l = 5 ∨ l = 6 ∨ l = 7 ∨ ((busy.line l).state ∉ [.waiting, .offered, .connected] ∧ (busy.line l).channel = none ∧ (busy.line l).admission = none) := by
      revert l; decide +kernel
    rcases h with h | h | h | ⟨h, hc, ha⟩
    · subst h; exact ⟨by decide +kernel, by decide +kernel⟩
    · subst h; exact ⟨0, by decide +kernel, by decide +kernel, by decide +kernel⟩
    · subst h; exact ⟨1, by decide +kernel, by decide +kernel, by decide +kernel⟩
    · unfold State.LineCoherent
      split <;> first | exact ⟨hc, ha⟩ | (exfalso; simp_all)
  · intro r
    have h : r = 0 ∨ r = 1 ∨ r = 2 ∨ busy.row r = .free := by revert r; decide +kernel
    rcases h with h | h | h | h
    · subst h; exact ⟨by decide +kernel, .inl ⟨by decide +kernel, rfl⟩⟩
    · subst h; exact ⟨by decide +kernel, .inr ⟨by decide +kernel, rfl⟩⟩
    · subst h; trivial
    · simp only [State.RowCoherent, h]
  · unfold State.QueueCoherent; decide +kernel
  · unfold State.LookupsStand; decide +kernel
  · unfold State.OpenCountsExact State.admissionsOf; decide +kernel

/-- The part with its stage buffer as given. -/
def staging (g : Stage) : State := { busy with dir := { busy.dir with stage := g } }
def committing : State := staging ⟨.committing, some 127, [staged], .page, none, false⟩
def protecting : State := staging ⟨.committing, some 127, [staged], .protectBlock 7, some 300, false⟩
def unprotecting : State := staging ⟨.committing, none, [], .unprotectAll, none, false⟩
def emptied : State := staging ⟨.empty, none, [], .none, none, false⟩

theorem sound_committing : committing.dir.stage.Sound :=
  ⟨⟨by decide +kernel, fun _ => ⟨127, rfl, by decide +kernel⟩⟩, fun h => absurd h (by decide +kernel), by decide +kernel, fun _ => ⟨by decide +kernel, rfl⟩⟩

theorem ordered_busy : busy.dir.stage.Ordered := ⟨by decide +kernel, fun _ => ⟨127, rfl, by decide +kernel⟩⟩

/-! ## The hypotheses of every statement are met -/

theorem witness_StepTakesFront : State.reset.pending = [] := rfl

theorem witness_EveryCommandCompletes : ({ busy with inReset := true } : State).inReset = true := rfl

theorem witness_PowerOnBlocks : committing.dir.wf = true ∧ committing.dir.stage.Sound ∧ committing.dir.stage.write = .page ∧
    (∀ e ∈ committing.dir.stage.staged, e.index.val ≠ 0) ∧ (∃ e, e ∈ committing.dir.stage.staged) ∧ protecting.dir.stage.write = .protectBlock 7 ∧
    unprotecting.dir.stage.write = .unprotectAll :=
  ⟨by decide +kernel, sound_committing, rfl, by decide +kernel, ⟨staged, by decide +kernel⟩, rfl, rfl⟩

/-- Groups all off. -/
def ungrouped : State := { busy with groups := Vector.replicate 4 (Group.powerOn false) }

theorem witness_RingsCountedAndAnswered :
    (busy.inReset = false ∧ (busy.line 31).state = .idle ∧ busy.CapturesAt 31 (some 0) ∧ ¬ busy.AnswersAt 0 1) ∧
    ungrouped.CapturesAt 31 none ∧ (ungrouped.line 31).state = .idle ∧
    ((busy.line 1).state = .ringing ∧ (busy.line 1).group = some 0 ∧ (busy.line 1).rings < 255 ∧ busy.AnswersAt 0 2 ∧ (busy.line 1).dcd = false) ∧
    ((busy.updLine 1 fun ln => { ln with rings := 255, dcd := true }).line 1).dcd = true ∧
    ¬ ((busy.updLine 1 fun ln => { ln with rings := 255, dcd := true }).line 1).rings < 255 ∧
    ((busy.line 10).state ≠ .idle ∧ (busy.line 10).state ≠ .ringing) ∧ (busy.line 1).timers.ringGap = some 80 := by
  simp only [State.CapturesAt, State.CoversAt, State.AnswersAt]
  decide +kernel

theorem witness_CarrierReports : busy.inReset = false ∧ (busy.line 2).state = .answering ∧
    (busy.line 3).state ∈ [LineState.signon, .checking, .waiting, .offered, .connected, .draining] ∧
    (busy.line 8).state ∈ [LineState.signon, .checking, .waiting, .offered, .connected, .draining] ∧
    (busy.line 0).state ∈ [LineState.idle, .ringing, .clearing, .blocked] ∧ (busy.line 10).state ∈ [LineState.idle, .ringing, .clearing, .blocked] ∧
    (busy.line 2).state ∈ [LineState.idle, .ringing, .answering, .clearing, .blocked] := by decide +kernel

/-- Line 7 with notices of messages 10, 11, 12 and, as `more` says, others. -/
def noticed (more : List Notice) : Line := { busy.line 7 with notices := [⟨10, 0, 0⟩, ⟨11, 0, 0⟩, ⟨12, 0, 0⟩] ++ more }

theorem witness_BoundedQueues :
    ({ busy.line 7 with tx := List.replicate 128 0 }.tx.length ≤ 128 ∧ (busy.line 7).counters.discards ≤ 65535) ∧
    (∀ x ∈ busy.trunk.controls, x.place ≠ (1, (ControlKind.lineBreak).slot)) ∧
    (([⟨0, .closed⟩, ⟨1, .flow .go⟩, ⟨2, .closed⟩] : List Control) = [⟨0, .closed⟩] ++ ⟨1, .flow .go⟩ :: [⟨2, .closed⟩] ∧
      (⟨1, .flow .go⟩ : Control).place = (1, (ControlKind.flow .stop).slot) ∧
      (([⟨0, .closed⟩, ⟨1, .flow .go⟩, ⟨2, .closed⟩] : List Control).map Control.place).Nodup) ∧
    (busy.line 10).state ∉ [LineState.signon, .checking, .waiting, .offered, .connected, .draining] ∧
    (noticed []).state ∈ [LineState.signon, .checking, .waiting, .offered, .connected, .draining] ∧
    ((noticed []).notices = [⟨10, 0, 0⟩] ++ ⟨11, 0, 0⟩ :: [⟨12, 0, 0⟩] ∧ ((noticed []).notices.map (·.msg)).Nodup) ∧
    ((∀ n ∈ (noticed []).notices, n.msg ≠ 23) ∧ (noticed []).notices.length < 4) ∧
    ((∀ n ∈ (noticed [⟨13, 0, 0⟩]).notices, n.msg ≠ 23) ∧
      (noticed [⟨13, 0, 0⟩]).notices = ⟨10, 0, 0⟩ :: [⟨11, 0, 0⟩, ⟨12, 0, 0⟩, ⟨13, 0, 0⟩]) := by decide +kernel

/-- Line 7 with a transmit buffer of `n` characters, STOP announced for its channel. -/
def filled (n : Nat) : State :=
  { busy.updLine 7 fun ln => { ln with tx := List.replicate n 0x41 } with trunk := { busy.trunk with announced := Vector.replicate 24 .stop } }

theorem witness_LineActivity : (busy.inReset = false ∧ (busy.line 7).state = .connected ∧ (busy.line 7).channel = some 1 ∧ (busy.line 7).rx.length < 64) ∧
    (¬ ((busy.updLine 7 fun ln => { ln with rx := List.replicate 64 0 }).line 7).rx.length < 64) ∧
    ((busy.line 6).state ≠ .connected ∧ (busy.line 6).state ≠ .signon) ∧
    ((busy.line 3).state = .signon ∧ (busy.line 3).dialogue.phase ≠ .user ∧ (busy.line 3).dialogue.phase ≠ .password) ∧
    (((filled 33).line 7).tx = 0x41 :: List.replicate 32 0x41 ∧ ((filled 33).line 7).sending = none ∧ (filled 33).trunk.announced[1] = .stop) ∧
    (((filled 34).line 7).tx = 0x41 :: List.replicate 33 0x41 ∧ (List.replicate 33 (0x41 : Byte)).length ≠ 32) ∧
    (busy.line 7).tx = [] := by decide +kernel

/-- Every message is text "M#" but M10's, which is empty. -/
def texts : Vector (List Byte) 24 := (Vector.replicate 24 [0x4D, 0x23]).set 10 []

/-- The part with those texts and line `l` with the notices and buffers given. -/
def noticing (l : Fin 32) (ns : List Notice) (tx : List Byte) (sending : Option Sending) (now : Nat) : State :=
  { busy.updLine l fun ln => { ln with notices := ns, tx := tx, sending := sending } with messages := texts, now := now }

theorem witness_NoticesSent :
    (let s := noticing 7 [⟨11, 5, 0⟩] [0x41] none 20;
      s.inReset = false ∧ (s.line 7).notices = [⟨11, 5, 0⟩] ∧ (s.line 7).sending = none ∧ (s.line 7).state ∈ [LineState.connected, .draining] ∧
        (⟨11, 5, 0⟩ : Notice).joined + 20 ≤ s.now ∧ s.message 11 ≠ []) ∧
    (let s := noticing 3 [⟨10, 5, 0⟩] [] none 0;
      (s.line 3).state ∈ [LineState.signon, .checking, .waiting, .offered] ∧ (s.line 3).tx = [] ∧ s.message 10 = []) ∧
    (let s := noticing 7 [⟨11, 5, 0⟩] [0x41] none 19;
      (s.line 7).state ∉ [LineState.signon, .checking, .waiting, .offered] ∧ (s.line 7).lastSent ≠ some 0x0D ∧ (s.line 7).tx ≠ [] ∧
        ¬ (⟨11, 5, 0⟩ : Notice).joined + 20 ≤ s.now) ∧
    (let s := noticing 7 [⟨10, 5, 0⟩, ⟨11, 6, 0⟩] [] (some ⟨12, []⟩) 0;
      (s.line 7).sending ≠ none ∧ (s.line 7).notices.dropWhile (fun x => decide (s.message x.msg = [])) = ⟨11, 6, 0⟩ :: []) ∧
    (let s := noticing 7 [⟨10, 5, 0⟩] [] (some ⟨12, []⟩) 0;
      (s.line 7).notices.dropWhile (fun x => decide (s.message x.msg = [])) = []) ∧
    ((busy.line 7).notices = [] ∧ (busy.line 7).sending = none) ∧ (-9999999 : Int).natAbs < 10000000 ∧ (0 : Int).natAbs < 10000000 := by
  refine ⟨?_, ?_, ?_, ?_, ?_, ?_, ?_, ?_⟩ <;> decide +kernel

theorem witness_LineTimers : (busy.inReset = false ∧ (busy.line 8).state = .draining ∧ (busy.line 8).tx = [] ∧ (busy.line 8).notices = [] ∧
      (busy.line 8).sending = none) ∧ (busy.line 8).timers.drain = some 100 ∧
    ((busy.line 2).state = .answering ∧ (busy.line 2).timers.answer = some 300) ∧
    ((busy.line 9).state = .clearing ∧ (busy.line 9).timers.guard = some 20 ∧ (busy.line 9).outOfService = false) ∧
    ((busy.updLine 9 fun ln => { ln with outOfService := true }).line 9).outOfService = true ∧
    ((busy.line 7).state = .connected ∧ (busy.line 7).timers.idle = some 100 ∧ (busy.line 7).idleWarned = false) := by decide +kernel

theorem witness_LineServiceCommands : busy.Ready ∧ 31 < (32 : Byte).toNat ∧ (31 : Fin 32).val = (31 : Byte).toNat ∧
    (busy.line 0).state ∈ [LineState.idle, .ringing] ∧ (busy.line 1).state ∈ [LineState.idle, .ringing] ∧
    (busy.line 2).state ∉ [LineState.idle, .ringing, .blocked] ∧ (busy.line 10).state = .blocked ∧
    ((busy.line 9).state ≠ .blocked ∧ (busy.line 9).outOfService = false) ∧
    ((busy.updLine 9 fun ln => { ln with outOfService := true }).line 9).outOfService = true := ⟨busy_ready, by decide +kernel⟩

theorem witness_ReadLine : busy.Ready ∧ 31 < (32 : Byte).toNat ∧ (31 : Fin 32).val = (31 : Byte).toNat := ⟨busy_ready, by decide +kernel⟩

theorem witness_LineTables : busy.Ready ∧
    ((3 : Fin 4).val = (3 : Byte).toNat ∧ (1 : Byte).toNat ≤ 1 ∧ (31 : Byte).toNat ≤ 31 ∧ (1 : Byte).toNat ∈ [1, 2, 4, 8, 16, 32] ∧
      (31 : Byte).toNat % (1 : Byte).toNat = 0 ∧ (15 : Byte).toNat ≤ 15 ∧ 5 ≤ (5 : Byte).toNat ∧ (60 : Byte).toNat ≤ 60 ∧ (20 : Byte).toNat ≤ 20 ∧
      10 ≤ (10 : Byte).toNat ∧ (7 : Byte).toNat ≤ 7 ∧ (63 : Byte).toNat ≤ 63) ∧
    (3 < (4 : Byte).toNat ∧ ¬ (4 : Byte).toNat % (8 : Byte).toNat = 0) ∧
    ((23 : Fin 24).val = (23 : Byte).toNat ∧ (spaces 56).length = (56 : Byte).toNat ∧ (spaces 56).length ≤ 56) ∧
    (23 < (24 : Byte).toNat ∧ (spaces 55).length ≠ (56 : Byte).toNat) ∧ 56 < (spaces 57).length ∧ (spaces 114).length ≤ 114 ∧ 114 < (spaces 115).length ∧
    ((spaces 57).length = (57 : Byte).toNat ∧ (spaces 57).length ≤ 57) ∧ 57 < (spaces 58).length ∧ (spaces 115).length ≤ 115 ∧
    115 < (spaces 116).length := ⟨busy_ready, by decide +kernel⟩

/-- Line 3 in the phase given, with the user code and the password typed so far. -/
def dialogued (p : Phase) (user password : List Byte) : State :=
  busy.updLine 3 fun ln => { ln with dialogue := { ln.dialogue with phase := p, user := user, password := password } }

theorem witness_DialogueFields :
    (busy.inReset = false ∧ (busy.line 3).state = .signon ∧ (busy.line 3).tx = [] ∧ (busy.line 3).sending = none ∧ (busy.line 3).dialogue.phase = .announce) ∧
    ((dialogued .userPrompt [] []).line 3).dialogue.phase = .userPrompt ∧ ((dialogued .passwordPrompt [] []).line 3).dialogue.phase = .passwordPrompt ∧
    ((dialogued .user [] []).line 3).dialogue.phase ∉ [Phase.announce, .userPrompt, .passwordPrompt] ∧
    (((dialogued .user [] []).line 3).dialogue.phase = .user ∧ ((dialogued .user [] []).line 3).dialogue.user = []) ∧
    ((dialogued .user (spaces 6) []).line 3).dialogue.user ≠ [] ∧ 6 ≤ ((dialogued .user (spaces 6) []).line 3).dialogue.user.length ∧
    ((dialogued .user (spaces 5) []).line 3).dialogue.user.length < 6 ∧
    (((0x8D : Byte) &&& 0x7F).toNat = 0x0D ∧ ((0x88 : Byte) &&& 0x7F).toNat = 0x08 ∧ ((0xFF : Byte) &&& 0x7F).toNat = 0x7F ∧
      ((0xDA : Byte) &&& 0x7F).toNat = 0x5A ∧ ((0xB0 : Byte) &&& 0x7F).toNat = 0x30 ∧ ((0xFA : Byte) &&& 0x7F).toNat = 0x7A ∧
      ((0xA0 : Byte) &&& 0x7F).toNat = 0x20 ∧ ((0xFE : Byte) &&& 0x7F).toNat = 0x7E ∧ ((0x21 : Byte) &&& 0x7F).toNat = 0x21) ∧
    (((dialogued .password code []).line 3).dialogue.phase = .password ∧ ((dialogued .password code (spaces 7)).line 3).dialogue.password.length < 8) ∧
    8 ≤ ((dialogued .password code (spaces 8)).line 3).dialogue.password.length := by decide +kernel

/-- Line 4 with the lookup field and the deferral given. -/
def looking (k : Lookup) (deferred : Bool) : State :=
  busy.updLine 4 fun ln => { ln with dialogue := { ln.dialogue with lookup := k, deferred := deferred } }

theorem witness_DialogueCutShort : (busy.inReset = false ∧ (busy.line 4).state ∈ [LineState.signon, .checking] ∧ (busy.line 4).timers.signOn = some 900) ∧
    ((busy.line 3).state ∈ [LineState.signon, .checking] ∧ (busy.line 3).timers.signOn = some 900) ∧
    (((looking .discarded false).line 4).dialogue.deferred = false ∧ ((looking .discarded false).line 4).dialogue.lookup = .discarded) ∧
    ((looking .inFlight true).line 4).dialogue.deferred = true ∧ (busy.line 3).dialogue.lookup = .none := by decide +kernel

/-- The part with account 7 as given. -/
def holding (a : Account) : State := { busy with accounts := busy.accounts.set 7 a }
/-- The one entry of that part's store. -/
def entry0 : Entry := ⟨code, password, 7, 2, true⟩

theorem witness_LookupRefuses :
    (busy.inReset = false ∧ (busy.line 4).state = .checking ∧ (busy.line 4).dialogue.lookup = .inFlight ∧ (busy.line 4).dialogue.deferred = false) ∧
    ({ busy with mgt := .powerOn } : State).mgt.service ≠ .opened ∧
    (busy.mgt.service = .opened ∧ busy.dir.find (busy.line 4).dialogue.code = some (0, entry0) ∧
      entry0.password = ((busy.line 4).dialogue.password ++ List.replicate 8 0x20).take 8 ∧ (busy.dir.shadowOf 0).locked = false) ∧
    ((entry0.enabled = true ∧ (busy.account 7).state = .active ∧ -((busy.account 7).overdraft : Int) < (busy.account 7).balance) ∧
      busy.cal.permits[busy.cal.period][(2 : Fin 8)] = .opened ∧ busy.shedding = false) ∧
    ¬ (-(((holding ⟨.active, -5, 5, 0, 15, 3, false⟩).account 7).overdraft : Int) < ((holding ⟨.active, -5, 5, 0, 15, 3, false⟩).account 7).balance) ∧
    Calendar.powerOn.permits[(0 : Fin 8)][(2 : Fin 8)] ≠ .opened ∧
    (let s : State := { busy with params := { Params.powerOn with shedSource := some 3 }, watches := Vector.replicate 4 { Watch.powerOn with enabled := true, crit := true } };
      ¬ (s.shedding = false ∨ s.cal.classes[(2 : Fin 8)].essential = true)) ∧
    ((holding ⟨.active, 100, 0, 0, 3, 3, false⟩).account 7).limit ≤ ((holding ⟨.active, 100, 0, 0, 3, 3, false⟩).account 7).openCount ∧
    (busy.account 7).openCount < (busy.account 7).limit ∧ 16 ≤ ({ busy with queue := List.replicate 16 waiter } : State).queue.length ∧
    ({ busy with dir := ⟨[], [], 0, false, .powerOn⟩ } : State).dir.find code = none ∧
    (({ entry0 with password := spaces 8 } : Entry).password ≠ ((busy.line 4).dialogue.password ++ List.replicate 8 0x20).take 8 ∧
      ({ busy with dir := ⟨[(0, { entry0 with password := spaces 8 })], [], 0, false, .powerOn⟩ } : State).dir.find code =
        some (0, { entry0 with password := spaces 8 })) ∧
    (({ busy.dir with shadow := [(0, ⟨5, true⟩)] } : Directory).shadowOf 0).locked = true ∧
    ((busy.line 4).attempts + 1 < (busy.groupOf (busy.line 4)).attempts ∧
      (busy.groupOf (busy.line 4)).attempts ≤ ((busy.updLine 4 fun ln => { ln with attempts := 2 }).line 4).attempts + 1) := by
  decide +kernel

theorem witness_LookupAdmits : busy.inReset = false ∧ (busy.line 4).state = .checking ∧ (busy.line 4).dialogue.lookup = .inFlight ∧
    (busy.line 4).dialogue.deferred = false ∧ busy.mgt.service = .opened ∧ busy.dir.find (busy.line 4).dialogue.code = some (0, entry0) ∧
    entry0.password = ((busy.line 4).dialogue.password ++ List.replicate 8 0x20).take 8 ∧ (busy.dir.shadowOf 0).locked = false ∧
    entry0.enabled = true ∧ (busy.account entry0.account).state = .active ∧
    -((busy.account entry0.account).overdraft : Int) < (busy.account entry0.account).balance ∧
    busy.cal.permits[busy.cal.period][entry0.cls] = .opened ∧ busy.shedding = false ∧
    (busy.account entry0.account).openCount < (busy.account entry0.account).limit ∧ busy.queue.length < 16 ∧ (∀ w ∈ busy.queue, w.line ≠ 4) := by
  decide +kernel

theorem witness_CallCleared : busy.Ready ∧
    ((busy.line 3).state ∈ [LineState.signon, .checking] ∧ (busy.line 3).timers.carrier = some 5) ∧
    ((busy.line 4).state ∈ [LineState.signon, .checking] ∧ (busy.line 4).timers.carrier = some 5) ∧
    ((busy.line 5).state = .waiting ∧ (busy.line 5).timers.carrier = some 5 ∧ (∃ w ∈ busy.queue, w.line = 5) ∧
      (busy.line 5).admission = some admission) ∧
    ((busy.line 8).state = .draining ∧ (busy.line 8).timers.carrier = some 5) ∧ 31 < (32 : Byte).toNat ∧ (31 : Fin 32).val = (31 : Byte).toNat ∧
    (busy.line 31).state ∈ [LineState.idle, .ringing, .answering, .draining, .clearing, .blocked] ∧
    (busy.line 10).state ∈ [LineState.idle, .ringing, .answering, .draining, .clearing, .blocked] := ⟨busy_ready, by decide +kernel⟩

theorem codeField : CodeField code ∧ CodeField (spaces 6) :=
  ⟨⟨[0x41, 0x42], 4, rfl, rfl, by decide⟩, ⟨[], 6, rfl, rfl, by decide⟩⟩

theorem not_codeField : ¬ CodeField (spaces 5) := by
  rintro ⟨a, n, h, hl, _⟩
  have := congrArg List.length h
  rw [List.length_append, List.length_replicate, hl] at this
  exact absurd this (by decide)

theorem passwordField : PasswordField password := ⟨[0x50], 7, rfl, rfl, by decide⟩

theorem witness_StageCommands : busy.Ready ∧ busy.dir.stage.Ordered ∧ CodeField code ∧ PasswordField password ∧
    ((1023 : Half).toNat < 1024 ∧ (7 : Byte).toNat < 8 ∧ (1 : Byte).toNat ≤ 1 ∧ (0 : Byte) ≠ 1) ∧ ¬ (1024 : Half).toNat < 1024 ∧
    (busy.dir.stage.state = .staging ∧ busy.dir.protect.getLsbD ((1023 : Half).toNat / 128) = false ∧ busy.dir.stage.page = some 127 ∧
      (127 : Fin 128).val = (1023 : Half).toNat / 8 ∧ (1023 : Fin 1024).val = (1023 : Half).toNat ∧ (255 : Fin 256).val = (255 : Byte).toNat) ∧
    (127 : Fin 128).val ≠ (1015 : Half).toNat / 8 ∧ (0x80 : Byte).getLsbD ((1023 : Half).toNat / 128) = true ∧
    committing.dir.stage.state = .committing ∧ emptied.dir.stage.state = .empty ∧ committing.Ready ∧ emptied.Ready :=
  ⟨busy_ready, ordered_busy, codeField.1, passwordField, by decide +kernel, by decide +kernel, by decide +kernel, by decide +kernel,
    by decide +kernel, rfl, rfl, ready _ (by decide +kernel), ready _ (by decide +kernel)⟩

/-- The staged entry meets no other index that carries its code. -/
def unconflicted : State := { busy with dir := { busy.dir with store := [] } }

theorem witness_CommitPage :
    (busy.Ready ∧ busy.dir.wf = true ∧ busy.dir.stage.Ordered ∧ busy.dir.stage.state = .staging ∧ busy.dir.stage.page = some 127) ∧
    (committing.Ready ∧ committing.dir.stage.state = .committing) ∧ (emptied.Ready ∧ emptied.dir.stage.state = .empty) ∧
    (0x80 : Byte).getLsbD ((127 : Fin 128).val / 16) = true ∧ busy.dir.protect.getLsbD ((127 : Fin 128).val / 16) = false ∧
    (staged ∈ busy.dir.stage.staged ∧ busy.dir.Conflict staged ∧ (∀ x ∈ busy.dir.stage.staged, busy.dir.Conflict x → staged.index ≤ x.index) ∧
      0 ≠ staged.index.val ∧ busy.dir.Carries 0 staged.code) ∧
    (unconflicted.Ready ∧ unconflicted.dir.wf = true ∧ ∀ e ∈ unconflicted.dir.stage.staged, ¬ unconflicted.dir.Conflict e) ∧
    ((unconflicted.line 4).dialogue.lookup ≠ .none ∧ ∃ e ∈ unconflicted.dir.stage.staged, e.code = (unconflicted.line 4).dialogue.code) ∧
    (unconflicted.line 3).dialogue.lookup = .none := by
  have carries : busy.dir.Carries 0 staged.code := .inr ⟨by decide +kernel, by decide +kernel⟩
  refine ⟨⟨busy_ready, by decide +kernel, ordered_busy, rfl, rfl⟩, ⟨ready _ (by decide +kernel), rfl⟩, ⟨ready _ (by decide +kernel), rfl⟩, by decide +kernel,
    by decide +kernel, ⟨by decide +kernel, ⟨by decide +kernel, 0, by decide +kernel, carries⟩, fun x hx _ => ?_, by decide +kernel, carries⟩,
    ⟨ready _ (by decide +kernel), by decide +kernel, fun e he hc => ?_⟩, by decide +kernel, by decide +kernel⟩
  · exact (List.mem_singleton.mp hx : x = staged) ▸ Nat.le_refl _
  · have he : e = staged := List.mem_singleton.mp he
    subst he
    obtain ⟨_, i, hi, ⟨y, hy, hyi, _⟩ | ⟨_, hcode⟩⟩ := hc
    · have hy : y = staged := List.mem_singleton.mp hy
      subst hy
      exact hi hyi.symm
    · exact absurd hcode (by decide : spaces 6 ≠ code)

/-- A write in progress with its reply owed to tag 1. -/
def owing (s : State) (code : Byte) : State := { s with mgt := { s.mgt with writing := some (1, code) } }

theorem witness_StoreEvents :
    ((owing committing 0x21).inReset = false ∧ (owing committing 0x21).dir.wf = true ∧ (owing committing 0x21).dir.stage.Ordered ∧
      (owing committing 0x21).dir.stage.write = .page ∧ (owing committing 0x21).mgt.writing = some (1, 0x21)) ∧
    (staged ∈ (owing committing 0x21).dir.stage.staged ∧ staged.code ≠ List.replicate 6 0x20 ∧
      ∀ e ∈ (owing committing 0x21).dir.stage.staged, e.index.val ≠ 1022) ∧
    ((owing protecting 0x26).mgt.writing = some (1, 0x26) ∧ (owing protecting 0x26).dir.stage.write = .protectBlock 7 ∧
      (owing protecting 0x26).dir.stage.write ≠ .page) ∧
    ((owing unprotecting 0x28).dir.stage.write = .unprotectAll ∧ (owing unprotecting 0x28).dir.stage.staged = []) ∧
    (busy.inReset = false ∧ busy.mgt.writing = none ∧ busy.dir.stage.write = .none) ∧
    (busy.dir.stage.timer = some 300 ∧ busy.dir.stage.state = .staging) ∧
    (protecting.dir.stage.timer = some 300 ∧ protecting.dir.stage.state = .committing) :=
  ⟨⟨rfl, by decide +kernel, sound_committing.1, rfl, rfl⟩, by decide +kernel, by decide +kernel, by decide +kernel, by decide +kernel,
    by decide +kernel, by decide +kernel⟩

theorem witness_ProtectionCommands : busy.Ready ∧ 7 < (8 : Byte).toNat ∧ (7 : Fin 8).val = (7 : Byte).toNat ∧ busy.dir.stage.state ≠ .committing ∧
    (0x80 : Byte).getLsbD (7 : Fin 8).val = true ∧ busy.dir.protect.getLsbD (7 : Fin 8).val = false ∧ busy.dir.protect = 0 ∧ (0x80 : Byte) ≠ 0 ∧
    protecting.dir.stage.state = .committing ∧ protecting.Ready :=
  ⟨busy_ready, by decide +kernel, by decide +kernel, by decide +kernel, by decide +kernel, by decide +kernel, by decide +kernel, by decide +kernel, rfl,
    ready _ (by decide +kernel)⟩

theorem witness_EntryCommands : (busy.Ready ∧ busy.dir.wf = true ∧ ¬ busy.dir.stage.state = .committing) ∧
    (protecting.Ready ∧ protecting.dir.wf = true ∧ protecting.dir.stage.state = .committing) ∧
    (1023 < (1024 : Half).toNat ∧ (1023 : Half).toNat < 1024) ∧ ¬ CodeField (spaces 5) ∧ CodeField code ∧ CodeField (spaces 6) ∧
    (code ≠ List.replicate 6 0x20 ∧ (busy.dir.entry 0).code = code) ∧ ∀ i, (unconflicted.dir.entry i).code ≠ code :=
  ⟨⟨busy_ready, by decide +kernel, by decide +kernel⟩, ⟨ready _ (by decide +kernel), by decide +kernel, rfl⟩, by decide +kernel, not_codeField, codeField.1,
    codeField.2, by decide +kernel, fun _ => (by decide : spaces 6 ≠ code)⟩

theorem witness_AccountCommands : busy.Ready ∧ (255 : Fin 256).val = (255 : Byte).toNat ∧
    ((2 : Byte).toNat ≤ 2 ∧ AccountState.suspended.code = 2 ∧ (0x800000 : Triple).toNat ≤ 8388608 ∧ (15 : Byte).toNat ≤ 15 ∧
      -((0x800000 : Triple).toNat : Int) ≤ (0x800000 : Triple).toInt) ∧
    (2 < (3 : Byte).toNat ∧ ¬ -((1 : Triple).toNat : Int) ≤ (0xFFFFFE : Triple).toInt) ∧
    ((busy.account 7).balance + (0xFFFF9B : Triple).toInt < -((busy.account 7).overdraft : Int)) ∧
    (-((busy.account 7).overdraft : Int) ≤ (busy.account 7).balance + (0xFFFF9C : Triple).toInt) ∧
    8388607 < (busy.account 7).balance + (0x7FFFFF : Triple).toInt := ⟨busy_ready, by decide +kernel⟩

theorem witness_ClockCommands : busy.Ready ∧
    ((59 : Byte).toNat ≤ 59 ∧ (23 : Byte).toNat ≤ 23 ∧ (6 : Byte).toNat ≤ 6 ∧ 1 ≤ (2 : Byte).toNat ∧ (2 : Byte).toNat ≤ 12 ∧ (96 : Byte).toNat ≤ 99 ∧
      1 ≤ (29 : Byte).toNat ∧ (29 : Byte).toNat ≤ (if (96 : Byte).toNat % 4 = 0 then 29 else 28)) ∧
    ¬ (29 : Byte).toNat ≤ (if (97 : Byte).toNat % 4 = 0 then 29 else 28) ∧ ((31 : Byte).toNat ≤ 31 ∧ ¬ (60 : Byte).toNat ≤ 59) :=
  ⟨busy_ready, by decide +kernel⟩

/-- The part as day start 1 rules on weekday 0. -/
def risen : Calendar := { busy.cal with dayStart := Vector.replicate 7 1 }

theorem witness_PeriodMoves : busy.Coherent ∧ busy.cal.weekday < 7 ∧ (∀ c m, busy.meter c = some m → m.segments ≠ []) ∧
    (busy.cal.Gives 0 ∧ (0 : Fin 8) = busy.cal.period) ∧ (risen.Gives 1 ∧ (1 : Fin 8) ≠ risen.period) := by
  refine ⟨busy_coherent, by decide +kernel, fun c m h => ?_, ?_, ?_⟩
  · have hc : c = 1 ∨ busy.meter c = none := by clear h; revert c; decide +kernel
    rcases hc with hc | hc
    · subst hc
      have hm : busy.meter 1 = some meter := by decide +kernel
      rw [hm] at h
      cases h
      decide +kernel
    · rw [hc] at h; cases h
  · unfold Calendar.Gives Calendar.Qualifies Calendar.Yields; decide +kernel
  · unfold Calendar.Gives Calendar.Qualifies Calendar.Yields; decide +kernel

theorem witness_TariffLoads : busy.Ready ∧ busy.Coherent ∧ busy.dir.tariffs = false ∧
    ({ busy with dir := { busy.dir with tariffs := true } } : State).dir.tariffs = true ∧
    ((15 : Byte).toNat ≤ 15 ∧ (15 : Fin 16).val = (15 : Byte).toNat ∧ (29 : Byte).toNat ≤ 29 ∧ ¬ (16 : Byte).toNat ≤ 15 ∧ ¬ (30 : Byte).toNat ≤ 29) ∧
    ((1 : Byte).toNat ≤ 1 ∧ (127 : Byte).toNat ≤ 127 ∧ (23 : Byte).toNat ≤ 23 ∧ (59 : Byte).toNat ≤ 59 ∧ (7 : Byte).toNat ≤ 7 ∧ ¬ (128 : Byte).toNat ≤ 127) ∧
    (6 < (7 : Byte).toNat ∧ 7 < (8 : Byte).toNat ∧ (6 : Fin 7).val = (6 : Byte).toNat ∧ (7 : Fin 8).val = (7 : Byte).toNat) ∧
    (2 < (3 : Byte).toNat ∧ Permit.expel.code = 2 ∧ (7 : Fin 8) ≠ busy.cal.period ∧ Permit.opened = busy.cal.permits[(0 : Fin 8)][(2 : Fin 8)] ∧
      (0 : Fin 8) = busy.cal.period ∧ Permit.expel ≠ busy.cal.permits[(0 : Fin 8)][(2 : Fin 8)]) ∧
    ((1440 : Half).toNat ≤ 1440 ∧ 1 ≤ (1 : Half).toNat ∧ ¬ (1441 : Half).toNat ≤ 1440) :=
  ⟨busy_ready, busy_coherent, rfl, rfl, by decide +kernel, by decide +kernel, by decide +kernel, by decide +kernel, by decide +kernel⟩

theorem witness_TariffReads : busy.Ready ∧ 15 < (16 : Byte).toNat ∧ (15 : Fin 16).val = (15 : Byte).toNat ∧ 7 < (8 : Byte).toNat ∧
    (7 : Fin 8).val = (7 : Byte).toNat := ⟨busy_ready, by decide +kernel⟩

theorem witness_SecondBoundary : (busy.inReset = false ∧ ([1, 0] : List (Fin 24)).Nodup) ∧
    (let c : Calendar := { busy.cal with clock := ⟨59, 59, 23, 6, 31, 12, 99⟩ };
      c.boundary = some 10 ∧ c.valid = true ∧ c.weekday < 7 ∧ c.clock.weekday < 7 ∧ 59 ≤ c.clock.seconds ∧ 59 ≤ c.clock.minutes ∧ 23 ≤ c.clock.hours) ∧
    (busy.cal.boundary = some 10 ∧ busy.cal.valid = true ∧ busy.cal.weekday < 7 ∧ busy.cal.clock.weekday < 7 ∧ busy.params.holidayWeekday < 7 ∧
      ¬ 59 ≤ busy.cal.clock.seconds) ∧
    State.reset.cal.valid = false ∧ State.reset.cal.boundary = none := by decide +kernel

/-- The part with the meter of channel 1 as given, a rate of a unit a second and no grace. -/
def metered (m : Meter) : State := { busy with
  meters := busy.meters.set 1 (some m)
  cal := { busy.cal with rates := Vector.replicate 8 (Vector.replicate 8 3600), classes := Vector.replicate 8 ⟨0, 60, 0, false, false⟩ } }

theorem witness_SessionCharged : busy.meter 1 = some meter ∧ meter.segments = [] ++ [⟨0, 9, 1⟩] ∧
    -((busy.account meter.account).overdraft : Int) ≤ (busy.account meter.account).balance ∧
    ((busy.account meter.account).balance + (busy.account meter.account).overdraft).toNat = 100 ∧ meter.exhausted = false ∧
    (metered { meter with exhausted := true }).meter 1 = some { meter with exhausted := true } ∧ busy.cal.classes[meter.cls].grace ≠ 0 ∧
    (metered meter).cal.classes[meter.cls].grace = 0 := by decide +kernel

/-- The session's account has nothing left. -/
def penniless (s : State) : State := { s with accounts := s.accounts.set 7 ⟨.active, 0, 0, 0, 15, 3, false⟩ }

/-- A meter `t` seconds into its session, with a maximum of `n` seconds. -/
def timed (t n : Nat) : Meter := { meter with elapsed := t, maximum := n, segments := [⟨0, t, 1⟩] }

theorem witness_MeterAccrues :
    (let s := metered (timed 3599 3600);
      s.meter 1 = some (timed 3599 3600) ∧ (timed 3599 3600).segments = [] ++ [⟨0, 3599, 1⟩] ∧
        ((chargeSession 1 1 { s with meters := s.meters.set 1 (some { timed 3600 3600 with accumulator := 1799 }) }).meter 1).map (·.elapsed) = some 3600) ∧
    (let s := metered (timed 3299 3600);
      300 < 3600 ∧ ((chargeSession 1 1 { s with meters := s.meters.set 1 (some { timed 3300 3600 with accumulator := 1799 }) }).meter 1).map
        (fun m => m.elapsed + 300) = some 3600) ∧
    (timed 0 300).maximum ≤ 300 ∧
    (let s := penniless (metered (timed 9 3600));
      (chargeSession 1 1 { s with meters := s.meters.set 1 (some { timed 10 3600 with accumulator := 1799 }) }).meter 1 = none) ∧
    busy.meter 0 = none := by decide +kernel

theorem witness_SessionCloses :
    (busy.meter 1 = some meter ∧ (busy.line meter.line).state = .connected ∧ busy.row meter.row = .reserved reservation ∧ reservation.channel = 1 ∧
      ¬ 1800 ≤ meter.accumulator ∧ 1 ≤ busy.tickets.serial ∧ busy.tickets.serial ≤ 65535) ∧
    (1800 ≤ ({ meter with accumulator := 1800 } : Meter).accumulator ∧
      ((chargeUnits 1 1 (metered { meter with accumulator := 1800 })).1.meter 1).isSome = true) := by decide +kernel

/-- The session's timers all running, its idle warning given. -/
def ending : State :=
  (metered { meter with grace := some 100, expel := some 100 }).updLine 7 fun ln => { ln with idleWarned := true }

theorem witness_CloseCauses : ending.Ready ∧ ending.inReset = false ∧ ending.meter 1 = some { meter with grace := some 100, expel := some 100 } ∧
    (ending.channel 1).line = some 7 ∧ meter.line = 7 ∧ (ending.channel 1).state = .connected ∧ (ending.line 7).state = .connected ∧
    (ending.line 7).channel = some 1 ∧ (ending.line 7).timers.idle = some 100 ∧ (ending.line 7).idleWarned = true ∧
    (ending.line 7).timers.carrier = some 5 ∧ (7 : Fin 32).val = (7 : Byte).toNat := ⟨ready _ (by decide +kernel), by decide +kernel⟩

/-- Every channel waits for its CLOSED. -/
def shut : State := { busy with channels := Vector.replicate 24 { Channel.powerOn with state := .closing } }

theorem witness_Grant :
    (busy.inReset = false ∧ busy.queue = waiter :: [] ∧ (busy.line waiter.line).state = .waiting ∧ (busy.line waiter.line).admission = some admission) ∧
    ((busy.channel 4).state = .free ∧ (∀ x ∈ busy.trunk.controls, x.channel = 4 → x.kind.slot ≠ 0) ∧ (busy.channel 4).priorityOnly = false ∧
      ∀ j : Fin 24, j < 4 → (busy.channel j).state ≠ .free) ∧
    (busy.row 3 = .free ∧ ∀ j : Fin 64, j < 3 → busy.row j ≠ .free) ∧ State.reset.queue = [] ∧
    (shut.queue = waiter :: [] ∧ ∀ c, (shut.channel c).state ≠ .free) ∧
    ∀ r, ({ busy with tickets := ⟨Vector.replicate 64 (.closed ticket), [], 2⟩ } : State).row r ≠ .free := by decide +kernel

/-- Class 2 with a setup charge of `n` units. -/
def setup (n : Nat) : State := { busy with cal := { busy.cal with classes := busy.cal.classes.set 2 ⟨n, 60, 0, false, false⟩ } }

theorem witness_OfferAccepted : busy.inReset = false ∧ (busy.channel 0).state = .offered ∧ (busy.channel 0).line = some 6 ∧ (busy.line 6).state = .offered ∧
    (busy.channel 0).row = some 0 ∧ (busy.line 6).admission = some admission ∧ busy.row 0 = .reserved offered ∧ offered.channel = 0 ∧ offered.start = none ∧
    ((after (.accept 0) (setup 101)).meter 0 = none ∧ ((after (.accept 0) (setup 100)).meter 0).isSome = true) ∧
    busy.cal.permits[busy.cal.period][admission.cls] ≠ .expel ∧
    ({ busy.cal with permits := Vector.replicate 8 (Vector.replicate 8 .expel) } : Calendar).permits[busy.cal.period][admission.cls] = .expel := by
  decide +kernel

theorem witness_OfferEnds : busy.Ready ∧ busy.inReset = false ∧ (busy.channel 0).state = .offered ∧ (busy.channel 0).line = some 6 ∧
    (busy.line 6).state = .offered ∧ (busy.line 6).channel = some 0 ∧ (busy.channel 0).row = some 0 ∧ (busy.line 6).admission = some admission ∧
    busy.row 0 = .reserved offered ∧ offered.channel = 0 ∧ (busy.channel 0).timer = some 100 ∧ (busy.line 6).timers.carrier = some 5 ∧
    (6 : Fin 32).val = (6 : Byte).toNat := ⟨busy_ready, by decide +kernel⟩

theorem witness_DownwardControls : (busy.inReset = false ∧ (busy.channel 1).state = .connected ∧ (busy.channel 1).line = some 7) ∧
    ((busy.channel 2).state = .closing ∧ (busy.channel 2).timer = some 100) ∧ (busy.channel 23).state = .free ∧ (busy.channel 3).state = .quarantined ∧
    (busy.channel 0).state = .offered ∧ ((busy.line 7).placeAll (spaces 111)).tx.length < 112 ∧
    (112 ≤ ((busy.line 7).placeAll (spaces 112)).tx.length ∧ busy.trunk.announced[(1 : Fin 24)] = .go) ∧ (filled 112).trunk.announced[(1 : Fin 24)] = .stop := by
  decide +kernel

theorem witness_WaiterTimers : busy.inReset = false ∧ (busy.line 5).state = .waiting ∧ busy.queue = [] ++ waiter :: [] ∧ waiter.line = 5 ∧
    waiter.notice = some 600 ∧ (busy.line 5).admission = some admission := by decide +kernel

theorem witness_ChannelCommands : busy.Ready ∧ (0 : Byte) = 0 ∧ 24 < (25 : Byte).toNat ∧ 1 < (2 : Byte).toNat ∧ (23 : Fin 24).val + 1 = (24 : Byte).toNat ∧
    (0 : Fin 24).val + 1 = (1 : Byte).toNat ∧ (1 : Byte).toNat ≤ 1 ∧ (busy.channel 3).state = .quarantined ∧ (busy.channel 2).state ≠ .quarantined :=
  ⟨busy_ready, by decide +kernel⟩

theorem witness_TicketCommands : (busy.Ready ∧ busy.tickets.closeList = 2 :: [] ∧ busy.row 2 = .closed ticket) ∧
    (State.reset.Ready ∧ State.reset.tickets.closeList = []) ∧ (0 : Half) = 0 ∧
    ((1 : Half) ≠ 0 ∧ (busy.row 2).serial = some (1 : Half).toNat ∧ ∀ j, j ≠ 2 → (busy.row j).serial ≠ some (1 : Half).toNat) ∧
    ((0xFFFF : Half) ≠ 0 ∧ ∀ r, (busy.row r).serial ≠ some (0xFFFF : Half).toNat) :=
  ⟨⟨busy_ready, by decide +kernel⟩, ⟨ready _ (by decide +kernel), rfl⟩, by decide +kernel⟩

theorem witness_LoadMonitor : (busy.inReset = false ∧ busy.sample = some 10) ∧ busy.Ready ∧
    (busy.params.alertHigh = false ∧ ({ busy.params with alertHigh := true } : Params).alertHigh = true) ∧
    ((3 : Byte).toNat ≤ 3 ∧ (1 : Byte).toNat ≤ 1 ∧ (2 : Byte).toNat ≤ 2 ∧ (3 : Fin 4).val = (3 : Byte).toNat ∧ WatchMode.criticalOnly.code = 2) ∧
    (3 < (4 : Byte).toNat ∧ ¬ (3 : Byte).toNat ≤ 2) := ⟨by decide +kernel, busy_ready, by decide +kernel, by decide +kernel⟩

/-- The part with the service state given. -/
def serving (s : State) (v : Service) : State := { s with mgt := { s.mgt with service := v } }

theorem witness_ServiceState :
    ((serving .reset .draining).mgt.service = .draining ∧
      ∀ l, ((serving .reset .draining).line l).admission = none ∧ ((serving .reset .draining).line l).state ≠ .signon ∧
        ((serving .reset .draining).line l).state ≠ .checking) ∧
    (busy.mgt.service ≠ .draining ∧ busy.mgt.service = .opened ∧ ¬ ∀ l, (busy.line l).admission = none ∧ (busy.line l).state ≠ .signon ∧
      (busy.line l).state ≠ .checking) ∧
    (busy.Ready ∧ busy.cal.valid = true) ∧ (State.reset.Ready ∧ State.reset.cal.valid = false ∧ State.reset.mgt.service = .closed) :=
  ⟨by decide +kernel, by decide +kernel, ⟨busy_ready, rfl⟩, ready _ (by decide +kernel), rfl, rfl⟩

theorem witness_CloseService : busy.Ready ∧ busy.Coherent ∧ (busy.channel 0).state ∈ [ChannelState.offered, .connected] ∧
    (busy.channel 1).state ∈ [ChannelState.offered, .connected] := ⟨busy_ready, busy_coherent, by decide +kernel⟩

theorem witness_Restart : busy.Ready ∧ busy.Coherent := ⟨busy_ready, busy_coherent⟩

theorem witness_TrunkLoss : busy.inReset = false ∧ busy.Coherent ∧ busy.trunk.lossTimer = some 30 := ⟨rfl, busy_coherent, rfl⟩

/-- What a step answers equals the state given. -/
def answers (o : Host.Outcome State Fault Refusal) (t : State) : Bool :=
  match o with
  | .next u => decide (u = t)
  | .fault _ | .refused _ => false

theorem test_closeService : answers (exec (.closeService 1) busy)
    ((State.callsEnded 21 .operator { busy with mgt := { busy.mgt with service := .closed } }).replied 1 0x82 .done []) = true := by decide +kernel

theorem witness_ParametersAndCounters : busy.Ready ∧
    (1 ≤ (1 : Byte).toNat ∧ (7 : Byte).toNat ≤ 7 ∧ (60 : Byte).toNat ≤ 60 ∧ (30 : Byte).toNat ≤ 30 ∧ (6 : Byte).toNat ≤ 6 ∧ (64 : Byte).toNat ≤ 64 ∧
      (4 : Byte).toNat ≤ 4 ∧ (7 : Fin 8).val = (7 : Byte).toNat ∧ (3 : Fin 4).val + 1 = (4 : Byte).toNat) ∧
    (¬ 1 ≤ (0 : Byte).toNat ∧ ¬ (65 : Byte).toNat ≤ 64 ∧ ¬ (5 : Byte).toNat ≤ 4) ∧
    ((0 : Byte).toNat = busy.params.holidayWeekday ∧ (6 : Byte).toNat ≠ busy.params.holidayWeekday) := ⟨busy_ready, by decide +kernel⟩

/-- A LOAD MESSAGE of `n` text bytes into slot 23, held after its first block. -/
def loading (n : Nat) : PartialCommand := ⟨1, 0x11, n + 2, 23 :: byteOf n :: spaces 56⟩
/-- A BROADCAST of `n` text bytes, held after its first block. -/
def broadcasting (n : Nat) : PartialCommand := ⟨1, 0x12, n + 1, byteOf n :: spaces 57⟩
def held (p : PartialCommand) : State := { busy with mgt := { busy.mgt with held := some p } }

/-- Lengths that a command does not have, at the boundaries: a fixed one too long, LOAD MESSAGE without its second byte and with a text one byte short, BROADCAST without a byte and with a text one byte long. -/
theorem wrong_lengths : CommandBlock.WrongLength ⟨1, 0x41, 1, [0]⟩ ∧ CommandBlock.WrongLength ⟨1, 0x20, 58, []⟩ ∧
    CommandBlock.WrongLength ⟨1, 0x11, 1, [0]⟩ ∧ CommandBlock.WrongLength ⟨1, 0x11, 3, [0, 2, 0x20]⟩ ∧
    CommandBlock.WrongLength ⟨1, 0x12, 0, []⟩ ∧ CommandBlock.WrongLength ⟨1, 0x12, 2, [0, 0x20]⟩ :=
  ⟨.inl ⟨_, rfl, by decide⟩, .inl ⟨_, rfl, by decide⟩, .inr (.inl (by decide)), .inr (.inl (by decide)), .inr (.inr (by decide)), .inr (.inr (by decide))⟩

/-- Every command of the index has its parameter length, but for the two with a text. -/
theorem test_requiredLength : commandCodes.filter (fun k => (requiredLength k).isNone) = [0x11, 0x12] := by decide +kernel

theorem witness_CommandBlocks :
    (busy.inReset = false ∧ blockOf (.readClock 1) = some ⟨1, 0x41, 0, []⟩ ∧ (Instr.readClock 1).wellFormed = true) ∧
    (let s : State := { busy with mgt := { busy.mgt with replies := List.replicate 16 ⟨0, 0, .done, []⟩ } };
      s.mgt.held = none ∧ 16 ≤ s.mgt.replies.length + (if s.mgt.writing.isSome then 1 else 0)) ∧
    (busy.Ready ∧ blockOf (.unknownCommand 1 0x86) = some ⟨1, 0x86, 0, []⟩ ∧ (Instr.unknownCommand 1 0x86).wellFormed = true ∧
      (0x86 : Byte) ∉ commandCodes) ∧
    (busy.Ready ∧ (0x41 : Byte) ∈ commandCodes ∧ blockOf (.continuation 1 0x41 117 [] ⟨false, 0⟩) = some ⟨1, 0x41, 117, []⟩ ∧
      blockOf (.continuation 1 0x41 59 [] ⟨false, 0⟩) = some ⟨1, 0x41, 59, []⟩ ∧ blockOf (.continuation 1 0x41 116 [] ⟨false, 0⟩) = some ⟨1, 0x41, 116, []⟩ ∧
      blockOf (.continuation 1 0x41 1 [0] ⟨false, 0⟩) = some ⟨1, 0x41, 1, [0]⟩) ∧
    ((held (loading 57)).PartialSound ∧ (held (broadcasting 64)).PartialSound) ∧
    ¬ ((1 : Byte) = (loading 57).tag ∧ (0x41 : Byte) = (loading 57).code) ∧
    (blockOf (.continuation 1 0x11 1 [0x20] ⟨false, 0⟩) = some ⟨1, 0x11, 1, [0x20]⟩ ∧
      (Instr.continuation 1 0x11 1 [0x20] ⟨false, 0⟩).wellFormed = true ∧ 1 + 58 = (loading 57).length ∧
      (loading 57).bytes ++ [0x20] = 23 :: 57 :: spaces 57 ∧ (23 : Fin 24).val = (23 : Byte).toNat ∧ (spaces 57).length = (57 : Byte).toNat) ∧
    ((loading 64).bytes ++ spaces 8 = 23 :: 64 :: spaces 64 ∧ (spaces 64).length ≤ 64) ∧
    ((loading 65).bytes ++ spaces 9 = 23 :: 65 :: spaces 65 ∧ 64 < (spaces 65).length) ∧
    (blockOf (.continuation 1 0x12 7 (spaces 7) ⟨false, 0⟩) = some ⟨1, 0x12, 7, spaces 7⟩ ∧ 7 + 58 = (broadcasting 64).length ∧
      (broadcasting 64).bytes ++ spaces 7 = 64 :: spaces 64 ∧ (spaces 64).length = (64 : Byte).toNat) := by
  refine ⟨by decide +kernel, by decide +kernel, ⟨busy_ready, by decide +kernel⟩, ⟨busy_ready, by decide +kernel⟩, ⟨?_, ?_⟩, by decide +kernel, by decide +kernel, by decide +kernel,
    by decide +kernel, by decide +kernel⟩ <;> · rintro p ⟨⟩; decide +kernel

theorem witness_UpwardBlock : busy.inReset = false ∧ busy.Coherent ∧ busy.trunk.counter < busy.trunk.nd ∧
    ({ busy.trunk with counter := 15 } : Trunk).nd ≤ ({ busy.trunk with counter := 15 } : Trunk).counter := ⟨rfl, busy_coherent, by decide +kernel⟩

theorem witness_ServiceBlock : busy.inReset = false ∧ busy.trunk.counter ≠ busy.trunk.nd ∧
    ({ busy.trunk with counter := 15 } : Trunk).counter = ({ busy.trunk with counter := 15 } : Trunk).nd ∧ busy.mgt.replies = [] ∧
    (busy.replied 1 0x41 .done []).mgt.replies = ⟨1, 0x41, .done, []⟩ :: [] := by decide +kernel

theorem witness_DownwardBlock : busy.inReset = false ∧ ¬ 64 ≤ ((blockBytes 0x21 []).take 63).length ∧
    (64 ≤ (blockBytes 0x24 []).length ∧ ((blockBytes 0x24 []).drop 62).take 2 = be16 (crc ((blockBytes 0x24 []).take 62)).toNat ∧
      (blockBytes 0x24 []).head? = some 0x24 ∧ (0x24 : Byte) ∉ [0x21, 0x22, 0x23]) ∧
    (64 ≤ (blockBytes 0x21 []).length ∧ ((blockBytes 0x21 []).drop 62).take 2 = be16 (crc ((blockBytes 0x21 []).take 62)).toNat ∧
      (blockBytes 0x21 []).head? = some 0x21) := by decide +kernel

theorem witness_BlockLayout : (spaces 61).length ≤ 61 := by decide

/-- One malformed remainder of a payload for each cause of R177, at the boundaries: a bad header, a count of 0 and of 60, a segment one character too long and one whose count would stand past byte 61, a code outside the five, a code, a reason and a FLOW argument past byte 61, and a FLOW argument of 2. -/
theorem malformed_causes : MalformedSegment [0x40] ∧ MalformedSegment [0x59] ∧ MalformedSegment [25] ∧ MalformedSegment [1, 0] ∧
    MalformedSegment [24, 60] ∧ MalformedSegment [24, 2, 0x41] ∧ MalformedSegment [24] ∧ MalformedSegment [0x41, 0x01] ∧
    MalformedSegment [0x58, 0x07] ∧ MalformedSegment [0x41] ∧ MalformedSegment [0x41, 0x03] ∧ MalformedSegment [0x41, 0x06] ∧
    MalformedSegment [0x58, 0x06, 2] :=
  ⟨⟨_, _, rfl, .inl (by decide)⟩, ⟨_, _, rfl, .inl (by decide)⟩, ⟨_, _, rfl, .inl (by decide)⟩,
    ⟨_, _, rfl, .inr (.inl ⟨by decide, .inr ⟨_, _, rfl, by decide⟩⟩)⟩, ⟨_, _, rfl, .inr (.inl ⟨by decide, .inr ⟨_, _, rfl, by decide⟩⟩)⟩,
    ⟨_, _, rfl, .inr (.inl ⟨by decide, .inr ⟨_, _, rfl, by decide⟩⟩)⟩, ⟨_, _, rfl, .inr (.inl ⟨by decide, .inl rfl⟩)⟩,
    ⟨_, _, rfl, .inr (.inr ⟨by decide, .inr ⟨_, _, rfl, .inl (by decide)⟩⟩)⟩, ⟨_, _, rfl, .inr (.inr ⟨by decide, .inr ⟨_, _, rfl, .inl (by decide)⟩⟩)⟩,
    ⟨_, _, rfl, .inr (.inr ⟨by decide, .inl rfl⟩)⟩, ⟨_, _, rfl, .inr (.inr ⟨by decide, .inr ⟨_, _, rfl, .inr (.inl (by decide))⟩⟩)⟩,
    ⟨_, _, rfl, .inr (.inr ⟨by decide, .inr ⟨_, _, rfl, .inr (.inl (by decide))⟩⟩)⟩,
    ⟨_, _, rfl, .inr (.inr ⟨by decide, .inr ⟨_, _, rfl, .inr (.inr ⟨rfl, _, _, rfl, by decide⟩)⟩⟩)⟩⟩

theorem witness_TrafficOnWire :
    (busy.inReset = false ∧ [Instr.dataSegment 23 (spaces 57), .accept 0].map segmentOf = [24 :: 57 :: spaces 57, [0x41, 2]].map some ∧
      [24 :: 57 :: spaces 57, [0x41, 2]].flatten.length ≤ 61) ∧
    ([Instr.dataSegment 23 (spaces 58)].map segmentOf = [24 :: 58 :: spaces 58].map some ∧
      [24 :: 58 :: spaces 58].flatten.length + [(0x41 : Byte)].length ≤ 61 ∧
      MalformedSegment ([0x41] ++ List.replicate (61 - [24 :: 58 :: spaces 58].flatten.length - [(0x41 : Byte)].length) 0)) ∧
    ([24 :: 57 :: spaces 57].flatten.length + 1 + [(0xFF : Byte)].length ≤ 61) :=
  ⟨by decide +kernel, ⟨by decide +kernel, by decide +kernel, malformed_causes.2.2.2.2.2.2.2.2.2.1⟩, by decide⟩

theorem witness_CommandOnWire : busy.inReset = false ∧ busy.PartialSound ∧ blockOf (.readProtection 1 true) = some ⟨1, 0x29, 0, []⟩ ∧
    (Instr.readProtection 1 true).wellFormed = true ∧ LevelsAgree ⟨true, 0⟩ busy (.readProtection 1 true) ∧
    LevelsAgree ⟨false, 0x80000000⟩ busy (.readLine 1 31 true) ∧ LevelsAgree busy.levels busy (.unknownCommand 1 0x86) :=
  ⟨rfl, by rintro p ⟨⟩, rfl, rfl, rfl, fun _ => by decide +kernel, rfl⟩

theorem witness_StoreKept : busy.dir.wf = true ∧ busy.StageSound ∧ ∃ t, step { busy with pending := [.commitPage 1] } = .next t :=
  ⟨by decide +kernel, ⟨⟨ordered_busy, fun h => absurd h (by decide +kernel), by decide +kernel, rfl, rfl⟩, by decide +kernel⟩, _, rfl⟩

theorem witness_LinesKept : busy.LinesBounded ∧ busy.NoticesDistinct ∧ ∃ t, step { busy with pending := [.idleTimerExpiry 7] } = .next t := by
  refine ⟨?_, ?_, _, rfl⟩
  · unfold State.LinesBounded Line.Bounded; decide +kernel
  · unfold State.NoticesDistinct; decide +kernel

theorem witness_FramesKept : busy.RepliesBounded ∧ busy.PartialSound ∧ busy.SlotsDistinct ∧ busy.CycleSound ∧ busy.CountersBounded ∧ busy.WeekdaysSound ∧
    ∃ t, step { busy with pending := [.grant] } = .next t := by
  refine ⟨?_, by rintro p ⟨⟩, ?_, ?_, ?_, ?_, _, rfl⟩
  · unfold State.RepliesBounded; decide +kernel
  · unfold State.SlotsDistinct; decide +kernel
  · unfold State.CycleSound; decide +kernel
  · unfold State.CountersBounded; decide +kernel
  · unfold State.WeekdaysSound; decide +kernel

theorem witness_MoneyKept : busy.BalancesInRange ∧ busy.MetersSound ∧ busy.TicketsSound ∧ ∃ t, step { busy with pending := [.close 1] } = .next t := by
  refine ⟨?_, ⟨?_, fun c m h => ?_⟩, fun r t h => ?_, _, rfl⟩
  · unfold State.BalancesInRange; decide +kernel
  · unfold State.ClassesSound; decide +kernel
  · have hc : c = 1 ∨ busy.meter c = none := by clear h; revert c; decide +kernel
    rcases hc with hc | hc
    · subst hc
      have hm : busy.meter 1 = some meter := by decide +kernel
      rw [hm] at h
      cases h
      unfold Meter.Sound; decide +kernel
    · rw [hc] at h; cases h
  · have hr : r = 0 ∨ r = 1 ∨ r = 2 ∨ busy.row r = .free := by clear h; revert r; decide +kernel
    rcases hr with hr | hr | hr | hr
    · subst hr; cases h
    · subst hr; cases h
    · subst hr
      have ht : busy.row 2 = .closed ticket := by decide +kernel
      rw [ht] at h
      cases h
      unfold Ticket.Sound; decide +kernel
    · rw [hr] at h; cases h

theorem witness_SerialsKept : busy.SerialsDistinct ∧ busy.CloseListSound ∧ ∃ t, step { busy with pending := [.close 1] } = .next t := by
  have hr : ∀ r, r = 2 ∧ (busy.row r).serial = some 1 ∨ (busy.row r).serial = none := by decide +kernel
  refine ⟨⟨fun r r' n h h' => ?_, fun r n h => ?_, by decide +kernel, by decide +kernel⟩, ?_, _, rfl⟩
  · rcases hr r with hr1 | hr1
    · rcases hr r' with hr2 | hr2
      · exact hr1.1.trans hr2.1.symm
      · rw [hr2] at h'; cases h'
    · rw [hr1] at h; cases h
  · rcases hr r with hr1 | hr1
    · rw [hr1.2] at h; cases h; decide +kernel
    · rw [hr1] at h; cases h
  · unfold State.CloseListSound; decide +kernel

theorem witness_CallsKept : busy.Coherent ∧ busy.QueueBounded ∧ ∃ t, step { busy with pending := [.grant] } = .next t := by
  refine ⟨busy_coherent, ?_, _, rfl⟩
  unfold State.QueueBounded; decide +kernel

end Sys2Proof.Tests
end

section
/-! What POWER_ON and RESET_N leave of the lines (R24), and the two commands that take a line out of service and return it (R13, R14). -/

namespace Sys2Proof.Machine

open Sys2Proof

/-! ## POWER_ON and RESET_N (R24) -/

theorem exec_powerOn (w : Byte) (s : State) : exec (.powerOn w) s = .next (powerOnValues w s) := rfl

theorem exec_resetN (w : Byte) (s : State) : exec (.resetN w) s = .next (powerOnValues w s) := rfl

@[simp] theorem powerOnValues_line (w : Byte) (s : State) (l : Fin 32) :
    (powerOnValues w s).line l = Line.powerOn (s.line l).ri (s.line l).dcd := by
  simp [powerOnValues, State.line]

@[simp] theorem powerOnValues_groups (w : Byte) (s : State) : (powerOnValues w s).groups = groupsPowerOn := rfl

@[simp] theorem powerOnValues_message (w : Byte) (s : State) (m : Fin 24) : (powerOnValues w s).message m = [] := by
  simp [powerOnValues, State.message, State.reset]

/-- R4: G0 alone is enabled at power-on. -/
theorem groupsPowerOn_get : ∀ g : Fin 4, groupsPowerOn[g] = Group.powerOn (decide (g = 0)) := by decide

/-- Settles O3: both commands leave `powerOnValues`, whose lines, groups and messages are read off one accessor at a time. -/
theorem powerOnLines : Obligations.PowerOnLines := by
  intro w s
  refine ⟨powerOnValues w s, exec_powerOn w s, exec_resetN w s, fun l => ?line, fun g => ?group, powerOnValues_message w s⟩
  case line =>
    rw [powerOnValues_line]
    simp only [Line.powerOn, LineState.dtr, LineTimers.stopped, LineCounters.zero, and_self]
  case group =>
    rw [powerOnValues_groups, groupsPowerOn_get, Group.powerOn]

/-! ## LINE OUT OF SERVICE (R13) -/

theorem exec_lineOutOfService {s : State} (h : s.Ready) (tag line : Byte) :
    exec (.lineOutOfService tag line) s = .next (finish tag 0x13 (cmdLineOutOfService line s)) :=
  command_ready tag 0x13 [line] _ s h

theorem cmdLineOutOfService_badLine {line : Byte} (h : 31 < line.toNat) (s : State) :
    cmdLineOutOfService line s = (s, badValue) := by
  rw [cmdLineOutOfService, finOf_none h]

/-- With no call on the line, it is BLOCKED at once and any ringing is abandoned. -/
theorem cmdLineOutOfService_noCall {s : State} {line : Byte} {l : Fin 32} (hl : l.val = line.toNat)
    (hst : (s.line l).state ∈ [.idle, .ringing]) :
    cmdLineOutOfService line s = (s.setLine l (stopRinging .blocked (s.line l)), done) := by
  rw [cmdLineOutOfService, finOf_eq hl]
  rcases List.mem_pair.mp hst with hidle | hringing
  · simp only [hidle, State.updLine]
  · simp only [hringing, State.updLine]

/-- A call on the line is left to run: the command is only noted. -/
theorem cmdLineOutOfService_inCall {s : State} {line : Byte} {l : Fin 32} (hl : l.val = line.toNat)
    (hst : (s.line l).state ∉ [.idle, .ringing, .blocked]) :
    cmdLineOutOfService line s = (s.setLine l { s.line l with outOfService := true }, done) := by
  rw [cmdLineOutOfService, finOf_eq hl]
  cases h : (s.line l).state with
  | idle | ringing | blocked => simp [h] at hst
  | answering | signon | checking | waiting | offered | connected | draining | clearing => simp only [h, State.updLine]

theorem cmdLineOutOfService_blocked {s : State} {line : Byte} {l : Fin 32} (hl : l.val = line.toNat)
    (hst : (s.line l).state = .blocked) : cmdLineOutOfService line s = (s, badState) := by
  simp only [cmdLineOutOfService, finOf_eq hl, hst]

/-! ## LINE RETURN (R14) -/

theorem exec_lineReturn {s : State} (h : s.Ready) (tag line : Byte) :
    exec (.lineReturn tag line) s = .next (finish tag 0x14 (cmdLineReturn line s)) :=
  command_ready tag 0x14 [line] _ s h

theorem cmdLineReturn_badLine {line : Byte} (h : 31 < line.toNat) (s : State) : cmdLineReturn line s = (s, badValue) := by
  rw [cmdLineReturn, finOf_none h]

theorem cmdLineReturn_blocked {s : State} {line : Byte} {l : Fin 32} (hl : l.val = line.toNat)
    (hst : (s.line l).state = .blocked) :
    cmdLineReturn line s = (s.setLine l { s.line l with state := .idle }, done) := by
  simp only [cmdLineReturn, finOf_eq hl, if_pos hst, State.updLine]

/-- Outside BLOCKED, an out-of-service command still pending is withdrawn. -/
theorem cmdLineReturn_pending {s : State} {line : Byte} {l : Fin 32} (hl : l.val = line.toNat)
    (hst : (s.line l).state ≠ .blocked) (hp : (s.line l).outOfService = true) :
    cmdLineReturn line s = (s.setLine l { s.line l with outOfService := false }, done) := by
  simp only [cmdLineReturn, finOf_eq hl, if_neg hst, if_pos hp, State.updLine]

theorem cmdLineReturn_inService {s : State} {line : Byte} {l : Fin 32} (hl : l.val = line.toNat)
    (hst : (s.line l).state ≠ .blocked) (hp : (s.line l).outOfService = false) : cmdLineReturn line s = (s, badState) := by
  simp [cmdLineReturn, finOf_eq hl, hst, hp]

/-- Settles O11: a ready part hands each command to its owner, which answers by the line's number and state. -/
theorem lineServiceCommands : Obligations.LineServiceCommands := by
  refine ⟨fun s tag line hr => ?outOfService, fun s tag line hr => ?inService⟩
  case outOfService =>
    rw [exec_lineOutOfService hr]
    refine ⟨fun hbad => ?_, fun l hl => ⟨fun hst => ?_, fun hst => ?_, fun hst => ?_⟩⟩
    · rw [cmdLineOutOfService_badLine hbad, finish_badValue]
    · rw [cmdLineOutOfService_noCall hl hst, finish_done, stopRinging]
    · rw [cmdLineOutOfService_inCall hl hst, finish_done]
    · rw [cmdLineOutOfService_blocked hl hst, finish_badState]
  case inService =>
    rw [exec_lineReturn hr]
    refine ⟨fun hbad => ?_, fun l hl => ⟨fun hst => ?_, fun hst hp => ?_, fun hst hp => ?_⟩⟩
    · rw [cmdLineReturn_badLine hbad, finish_badValue]
    · rw [cmdLineReturn_blocked hl hst, finish_done]
    · rw [cmdLineReturn_pending hl hst hp, finish_done]
    · rw [cmdLineReturn_inService hl hst hp, finish_badState]

end Sys2Proof.Machine
end

section
/-! STAGE ENTRY and DISCARD STAGE (R53 to R55): the field check against the layouts of R203, the place of an entry among the staged ones, and each check of the command in its order. -/

namespace Sys2Proof.Machine

open Sys2Proof

/-! ## Padded fields (R47) -/

/-- A field is left-justified when it is some admitted characters and then nothing but spaces. -/
theorem leftJustified_iff {ok : Byte → Bool} {n : Nat} {cs : List Byte} :
    leftJustified ok n cs = true ↔ ∃ a k, cs = a ++ List.replicate k 0x20 ∧ a.length + k = n ∧ ∀ c ∈ a, ok c = true := by
  simp only [leftJustified, Bool.and_eq_true, decide_eq_true_eq, List.all_eq_true]
  constructor
  · rintro ⟨hlen, hpad⟩
    have hrest : cs.dropWhile ok = List.replicate (cs.dropWhile ok).length 0x20 :=
      List.eq_replicate_iff.mpr ⟨rfl, hpad⟩
    have hcs : cs = cs.takeWhile ok ++ cs.dropWhile ok := (List.takeWhile_append_dropWhile).symm
    refine ⟨cs.takeWhile ok, (cs.dropWhile ok).length, hrest ▸ hcs, ?_, fun c hc => List.mem_takeWhile_imp hc⟩
    rw [← List.length_append, ← hcs, hlen]
  · rintro ⟨a, k, rfl, hlen, hok⟩
    refine ⟨by rw [List.length_append, List.length_replicate, hlen], fun c hc => ?_⟩
    rw [List.dropWhile_append_of_pos hok] at hc
    exact List.eq_of_mem_replicate ((List.dropWhile_sublist ok).mem hc)

theorem isCodeChar_iff {c : Byte} :
    isCodeChar c = true ↔ (0x41 ≤ c.toNat ∧ c.toNat ≤ 0x5A) ∨ (0x30 ≤ c.toNat ∧ c.toNat ≤ 0x39) := by
  simp only [isCodeChar, Bool.or_eq_true, decide_eq_true_eq]

theorem isPasswordChar_iff {c : Byte} : isPasswordChar c = true ↔ 0x21 ≤ c.toNat ∧ c.toNat ≤ 0x7E := by
  simp only [isPasswordChar, decide_eq_true_eq]

theorem validCode_iff {cs : List Byte} : validCode cs = true ↔ CodeField cs := by
  simp only [validCode, CodeField, leftJustified_iff, isCodeChar_iff]

theorem validPassword_iff {cs : List Byte} : validPassword cs = true ↔ PasswordField cs := by
  simp only [validPassword, PasswordField, leftJustified_iff, isPasswordChar_iff]

/-! ## The fields of STAGE ENTRY (R203, R53's first check) -/

/-- R53: every field of a STAGE ENTRY is in range. -/
def StageFields (index : Half) (code : List Byte) (keep : Byte) (password : List Byte) (cls enabled : Byte) : Prop :=
  index.toNat < 1024 ∧ cls.toNat < 8 ∧ keep.toNat ≤ 1 ∧ enabled.toNat ≤ 1 ∧ CodeField code ∧ (keep = 1 ∨ PasswordField password)

section Fields
variable {index : Half} {code : List Byte} {keep : Byte} {password : List Byte} {account cls enabled : Byte}

theorem keepIf_eq_some {α : Type} {ok : Bool} {a b : α} : keepIf ok a = some b ↔ ok = true ∧ a = b := by
  cases ok <;> simp [keepIf]

theorem flagOf_eq_some {b : Byte} {f : Bool} (h : flagOf b = some f) : b.toNat ≤ 1 ∧ f = decide (b = 1) := by
  have hb : b.toNat ≤ 1 := by
    by_contra hn
    rw [flagOf_none (Nat.lt_of_not_le hn)] at h
    cases h
  rw [flagOf_some hb, Option.some.injEq] at h
  exact ⟨hb, h.symm⟩

/-- The decoding as one chain: index, class, keep flag, enabled flag, password, code. -/
theorem stagedOf_bind : stagedOf index code keep password account cls enabled =
    (indexOf index).bind fun i => (finOf 8 cls).bind fun k => (flagOf keep).bind fun kp => (flagOf enabled).bind fun e =>
      (if kp then some none else keepIf (validPassword password) (some password)).bind fun p =>
        keepIf (validCode code) ⟨i, code, p, accountOf account, k, e⟩ := by
  unfold stagedOf
  congr! 8 with i k kp e
  cases kp <;> rfl

/-- The password that a STAGE ENTRY stages: none when the stored one is kept, else a well-formed one. -/
theorem stagedPassword_eq (h : keep = 1 ∨ PasswordField password) :
    (if decide (keep = 1) = true then some none else keepIf (validPassword password) (some password)) =
      some (if keep = 1 then none else some password) := by
  by_cases hk : keep = 1
  · simp only [hk, decide_true, if_true]
  · have hp : validPassword password = true := validPassword_iff.mpr (h.resolve_left hk)
    simp only [hk, decide_false, Bool.false_eq_true, if_false, keepIf, hp, if_true]

theorem stagedOf_eq {k : Fin 1024} {a : Fin 256} {c : Fin 8} (h : StageFields index code keep password cls enabled)
    (hk : k.val = index.toNat) (ha : a.val = account.toNat) (hc : c.val = cls.toNat) :
    stagedOf index code keep password account cls enabled =
      some ⟨k, code, if keep = 1 then none else some password, a, c, decide (enabled = 1)⟩ := by
  obtain ⟨-, -, hkeep, hen, hcode, hpass⟩ := h
  have hacc : accountOf account = a := Fin.ext ha.symm
  simp only [stagedOf_bind, indexOf_eq hk, finOf_eq hc, flagOf_some hkeep, flagOf_some hen, stagedPassword_eq hpass,
    Option.bind_some, keepIf_eq_some, validCode_iff, hcode, hacc, true_and]

/-- Whatever STAGE ENTRY takes for an entry has all its fields in range. -/
theorem stageFields_of_stagedOf {e : Staged} (h : stagedOf index code keep password account cls enabled = some e) :
    StageFields index code keep password cls enabled := by
  simp only [stagedOf_bind, Option.bind_eq_some_iff, keepIf_eq_some] at h
  obtain ⟨i, hi, k, hk, kp, hkp, en, hen, p, hp, hcode, -⟩ := h
  obtain ⟨hkeep, rfl⟩ := flagOf_eq_some hkp
  refine ⟨?index, ?cls, hkeep, (flagOf_eq_some hen).1, validCode_iff.mp hcode, ?password⟩
  case index =>
    by_contra hn
    rw [indexOf_none (Nat.le_of_not_lt hn)] at hi
    cases hi
  case cls =>
    by_contra hn
    rw [finOf_none (Nat.le_of_not_lt hn)] at hk
    cases hk
  case password =>
    by_cases h1 : keep = 1
    · exact .inl h1
    · simp only [h1, decide_false, Bool.false_eq_true, if_false, keepIf_eq_some] at hp
      exact .inr (validPassword_iff.mp hp.1)

theorem stagedOf_none (h : ¬ StageFields index code keep password cls enabled) :
    stagedOf index code keep password account cls enabled = none :=
  Option.eq_none_iff_forall_ne_some.mpr fun _ he => h (stageFields_of_stagedOf he)

/-- With its fields in range, STAGE ENTRY names an entry of the index given. -/
theorem stagedOf_some (h : StageFields index code keep password cls enabled) :
    ∃ e, stagedOf index code keep password account cls enabled = some e ∧ e.index.val = index.toNat :=
  ⟨_, stagedOf_eq (k := ⟨index.toNat, h.1⟩) (a := accountOf account) (c := ⟨cls.toNat, h.2.1⟩) h rfl rfl rfl, rfl⟩

end Fields

/-! ## The place of a staged entry (R52, R53) -/

/-- Among entries in index order, an entry goes between the lower and the higher indices, in place of the one with its own. -/
theorem insertStaged_eq_filter (e : Staged) : ∀ {es : List Staged}, es.Pairwise (fun a b => a.index < b.index) →
    insertStaged e es = es.filter (fun x => decide (x.index < e.index)) ++ e :: es.filter (fun x => decide (e.index < x.index))
  | [], _ => rfl
  | x :: t, h => by
    obtain ⟨hx, ht⟩ := List.pairwise_cons.mp h
    have ih := insertStaged_eq_filter e ht
    have above (hle : e.index ≤ x.index) : t.filter (fun y => decide (y.index < e.index)) = [] ∧
        t.filter (fun y => decide (e.index < y.index)) = t :=
      ⟨List.filter_eq_nil_iff.mpr fun y hy => by simpa using hle.trans (hx y hy).le,
        List.filter_eq_self.mpr fun y hy => by simpa using hle.trans_lt (hx y hy)⟩
    rcases lt_trichotomy e.index x.index with hlt | heq | hgt
    · obtain ⟨hlow, hhigh⟩ := above hlt.le
      simp [insertStaged, hlt, hlt.not_gt, hlow, hhigh]
    · obtain ⟨hlow, hhigh⟩ := above heq.le
      simp only [insertStaged, heq, lt_irrefl, if_false, if_true, List.filter_cons, decide_false, Bool.false_eq_true]
      rw [← heq, hlow, hhigh, List.nil_append]
    · simp [insertStaged, hgt.not_gt, hgt.ne', hgt, ih]

/-! ## The stage timer (R55) -/

theorem restartStage_eq (s : State) : restartStage s = s.timerRestarted := rfl

theorem State.timerRestarted_of_committing {s : State} (h : s.dir.stage.state = .committing) : s.timerRestarted = s :=
  if_neg (by simp [h])

/-- The restart leaves all but the stage timer. -/
theorem State.timerRestarted_timer (s : State) :
    ∃ t : Timer, s.timerRestarted = { s with dir := { s.dir with stage := { s.dir.stage with timer := t } } } := by
  unfold State.timerRestarted
  split
  · exact ⟨_, rfl⟩
  · exact ⟨s.dir.stage.timer, rfl⟩

@[simp] theorem State.timerRestarted_state (s : State) : s.timerRestarted.dir.stage.state = s.dir.stage.state := by
  obtain ⟨t, ht⟩ := s.timerRestarted_timer
  rw [ht]

@[simp] theorem State.timerRestarted_page (s : State) : s.timerRestarted.dir.stage.page = s.dir.stage.page := by
  obtain ⟨t, ht⟩ := s.timerRestarted_timer
  rw [ht]

@[simp] theorem State.timerRestarted_blockProtected (s : State) (i : Nat) :
    s.timerRestarted.dir.blockProtected i = s.dir.blockProtected i := by
  obtain ⟨t, ht⟩ := s.timerRestarted_timer
  rw [ht, Directory.blockProtected, Directory.blockProtected]

/-- A staged entry starts the stage timer itself. -/
theorem stageEntry_timerRestarted (e : Staged) (s : State) : stageEntry e s.timerRestarted = stageEntry e s := by
  obtain ⟨t, ht⟩ := s.timerRestarted_timer
  rw [ht]
  rfl

/-! ## STAGE ENTRY (R53) -/

theorem exec_stageEntry {s : State} (h : s.Ready) (tag : Byte) (index : Half) (code : List Byte) (keep : Byte)
    (password : List Byte) (account cls enabled : Byte) :
    exec (.stageEntry tag index code keep password account cls enabled) s =
      .next (finish tag 0x20 (cmdStageEntry (stagedOf index code keep password account cls enabled) s)) :=
  command_ready tag 0x20 _ _ s h

theorem cmdStageEntry_none (s : State) : cmdStageEntry none s = (s.timerRestarted, badValue) := rfl

section StageEntry
variable {s : State} {e : Staged}

/-- R55 restarts the timer of a STAGING buffer only, so while a write is in progress nothing changes. -/
theorem cmdStageEntry_committing (h : s.dir.stage.state = .committing) : cmdStageEntry (some e) s = (s, busy) := by
  simp [cmdStageEntry, takeStaged, restartStage_eq, State.timerRestarted_of_committing h, h]

theorem cmdStageEntry_protected (h : s.dir.stage.state ≠ .committing) (hp : s.dir.blockProtected e.index.val = true) :
    cmdStageEntry (some e) s = (s.timerRestarted, isProtected) := by
  simp [cmdStageEntry, takeStaged, restartStage_eq, h, hp]

theorem cmdStageEntry_otherPage (h : s.dir.stage.state = .staging) (hp : s.dir.blockProtected e.index.val = false)
    (hpage : s.dir.stage.page ≠ some (pageOf e.index)) : cmdStageEntry (some e) s = (s.timerRestarted, badState) := by
  simp [cmdStageEntry, takeStaged, restartStage_eq, h, hp, hpage]

/-- The checks passed, the entry is staged with its page, and the reply counts the entries now staged. -/
theorem cmdStageEntry_taken (h : s.dir.stage.state ≠ .committing) (hp : s.dir.blockProtected e.index.val = false)
    (hpage : s.dir.stage.state = .empty ∨ s.dir.stage.page = some (pageOf e.index)) :
    cmdStageEntry (some e) s = ({ s with dir := { s.dir with stage := { s.dir.stage with
      state := .staging, page := some (pageOf e.index), staged := insertStaged e s.dir.stage.staged, timer := some (s.now + 300) } } },
      .reply .done [byteOf (insertStaged e s.dir.stage.staged).length]) := by
  have hsame : ¬ (s.dir.stage.state = .staging ∧ s.dir.stage.page ≠ some (pageOf e.index)) := fun ⟨hst, hne⟩ =>
    hne (hpage.resolve_left (by simp [hst]))
  have htake : takeStaged e s.timerRestarted =
      (stageEntry e s, .reply .done [byteOf (stageEntry e s).dir.stage.staged.length]) := by
    rw [takeStaged, State.timerRestarted_state, State.timerRestarted_page, State.timerRestarted_blockProtected, if_neg h,
      if_neg (Bool.eq_false_iff.mp hp), if_neg hsame, stageEntry_timerRestarted]
  exact htake

end StageEntry

/-! ## DISCARD STAGE (R54) -/

theorem exec_discardStage {s : State} (h : s.Ready) (tag : Byte) :
    exec (.discardStage tag) s = .next (finish tag 0x22 (cmdDiscardStage s)) :=
  command_ready tag 0x22 [] _ s h

theorem cmdDiscardStage_staging {s : State} (h : s.dir.stage.state = .staging) :
    cmdDiscardStage s = ({ s with dir := { s.dir with stage := ⟨.empty, none, [], .none, none, false⟩ } }, done) := by
  simp only [cmdDiscardStage, h]
  rfl

theorem cmdDiscardStage_empty {s : State} (h : s.dir.stage.state = .empty) : cmdDiscardStage s = (s, done) := by
  simp only [cmdDiscardStage, h]

theorem cmdDiscardStage_committing {s : State} (h : s.dir.stage.state = .committing) : cmdDiscardStage s = (s, busy) := by
  simp only [cmdDiscardStage, h]

/-- Settles O19: both commands go to their owner; STAGE ENTRY's checks are those of `takeStaged` on the buffer with its timer restarted. -/
theorem stageCommands : Obligations.StageCommands := by
  refine ⟨fun s tag index code keep password account cls enabled hr hord => ?entry, fun s tag hr => ?discard⟩
  case entry =>
    intro i ok g
    simp only [i, exec_stageEntry hr]
    refine ⟨fun hbad => ?badValue, fun hok hst => ?busy, fun hok hst hp => ?isProtected, fun hok hst hp hpage => ?badState,
      fun k p a c hok hk hp ha hc hst hprot hpage => ?taken⟩
    case badValue => rw [stagedOf_none hbad, cmdStageEntry_none, finish_badValue]
    case busy =>
      obtain ⟨e, he, -⟩ := stagedOf_some (account := account) hok
      rw [he, cmdStageEntry_committing hst, finish_busy]
    case isProtected =>
      obtain ⟨e, he, hidx⟩ := stagedOf_some (account := account) hok
      rw [he, cmdStageEntry_protected hst (hidx ▸ hp), finish_isProtected]
    case badState =>
      obtain ⟨e, he, hidx⟩ := stagedOf_some (account := account) hok
      rw [he, cmdStageEntry_otherPage hst (hidx ▸ hp) fun h => hpage _ h (congrArg (· / 8) hidx), finish_badState]
    case taken =>
      have hpk : pageOf k = p := Fin.ext ((congrArg (· / 8) hk).trans hp.symm)
      rw [stagedOf_eq hok hk ha hc, cmdStageEntry_taken hst (hk ▸ hprot) (hpk ▸ hpage), insertStaged_eq_filter _ hord.1, hpk,
        finish_reply]
  case discard =>
    rw [exec_discardStage hr]
    refine ⟨fun hst => ?_, fun hst => ?_, fun hst => ?_⟩
    · rw [cmdDiscardStage_staging hst, finish_done]
    · rw [cmdDiscardStage_empty hst, finish_done]
    · rw [cmdDiscardStage_committing hst, finish_busy]

end Sys2Proof.Machine
end

section
/-! The account commands (R71 to R74): the record that each check lets through, the sessions of an account restored above its floor (R81), and the data of READ ACCOUNT. -/

namespace Sys2Proof.Machine

open Sys2Proof

/-! ## Fields (R196) -/

theorem accountStateOf_code (st : AccountState) : accountStateOf st.code = some st := by
  cases st <;> rfl

theorem accountStateOf_none {b : Byte} (h : 2 < b.toNat) : accountStateOf b = none := by
  have h0 : b ≠ 0 := by rintro rfl; simp at h
  have h1 : b ≠ 1 := by rintro rfl; simp at h
  have h2 : b ≠ 2 := by rintro rfl; simp at h
  simp only [accountStateOf, h0, h1, h2, if_false]

/-- Each byte of a three-byte field is a slice of the 24-bit word. -/
theorem be24_toNat (w : BitVec 24) : be24 w.toNat = [w.extractLsb' 16 8, w.extractLsb' 8 8, w.extractLsb' 0 8] := by
  simp only [be24, List.cons.injEq, and_true]
  refine ⟨?high, ?mid, ?low⟩ <;> apply BitVec.eq_of_toNat_eq <;>
    simp [byteOf, BitVec.extractLsb'_toNat, Nat.shiftRight_eq_div_pow]

theorem beInt24_eq_threeBytes (v : Int) : beInt24 v = threeBytes v := be24_toNat _

/-- The bytes of a field that is not signed are those of its value modulo 2^24. -/
theorem be24_eq_threeBytes (n : Nat) : be24 n = threeBytes n := by
  have h : be24 n = be24 (BitVec.ofInt 24 n).toNat := by
    simp only [be24, List.cons.injEq, and_true, BitVec.ofInt_natCast, BitVec.toNat_ofNat]
    refine ⟨?high, ?mid, ?low⟩ <;> apply BitVec.eq_of_toNat_eq <;> simp only [byteOf, BitVec.toNat_ofNat] <;> omega
  rw [h, be24_toNat, threeBytes]

/-! ## A new record and the sessions it restores (R71, R73, R81) -/

/-- R81: a record put in place restores the account's exhausted sessions exactly when it leaves the balance above the floor. -/
theorem restoreIfAbove_setAccount (a : Fin 256) (x : Account) (s : State) :
    restoreIfAbove a (s.setAccount a x) = s.withAccount a x := by
  simp only [restoreIfAbove, State.setAccount_account_same, Account.floor, State.withAccount]
  split
  · rfl
  · rfl

theorem restoreIfAbove_updAccount (a : Fin 256) (f : Account → Account) (s : State) :
    restoreIfAbove a (s.updAccount a f) = s.withAccount a (f (s.account a)) :=
  restoreIfAbove_setAccount a _ s

/-- R80: the threshold is tested on the new balance, and only `warned` can change. -/
theorem Account.rearm_eq (x : Account) : x.rearm = { x with warned := if x.warn ≤ x.balance then false else x.warned } := by
  unfold Account.rearm
  split
  · rfl
  · rfl

/-! ## SET ACCOUNT (R71) -/

theorem exec_setAccount {s : State} (h : s.Ready) (tag account state : Byte) (balance overdraft warn : Triple) (limit : Byte) :
    exec (.setAccount tag account state balance overdraft warn limit) s = .next (finish tag 0x30
      (cmdSetAccount (accountOf account) state balance.toInt overdraft.toNat warn.toInt limit.toNat s)) :=
  command_ready tag 0x30 _ _ s h

section SetAccount
variable {s : State} {a : Fin 256} {state : Byte} {b w : Int} {o l : Nat}

theorem cmdSetAccount_badState (h : 2 < state.toNat) : cmdSetAccount a state b o w l s = (s, badValue) := by
  rw [cmdSetAccount, accountStateOf_none h]

/-- A limit out of range, or a balance below the new floor, refuses the command whatever its state byte is. -/
theorem cmdSetAccount_outOfRange (h : ¬ (o ≤ 8388608 ∧ l ≤ 15 ∧ -(o : Int) ≤ b)) :
    cmdSetAccount a state b o w l s = (s, badValue) := by
  unfold cmdSetAccount
  cases accountStateOf state with
  | none => rfl
  | some st => exact if_neg h

theorem cmdSetAccount_taken {st : AccountState} (h : o ≤ 8388608 ∧ l ≤ 15 ∧ -(o : Int) ≤ b) :
    cmdSetAccount a st.code b o w l s = (s.withAccount a { s.account a with
      state := st, balance := b, overdraft := o, warn := w, limit := l
      warned := if w ≤ b then false else (s.account a).warned }, done) := by
  rw [cmdSetAccount, accountStateOf_code]
  dsimp only
  rw [overdraftLimit, if_pos h, restoreIfAbove_updAccount, Account.rearm_eq, Account.load]

end SetAccount

/-! ## SET ACCOUNT STATE (R72) -/

theorem exec_setAccountState {s : State} (h : s.Ready) (tag account state : Byte) :
    exec (.setAccountState tag account state) s = .next (finish tag 0x31 (cmdSetAccountState (accountOf account) state s)) :=
  command_ready tag 0x31 _ _ s h

theorem cmdSetAccountState_badState {state : Byte} (h : 2 < state.toNat) (a : Fin 256) (s : State) :
    cmdSetAccountState a state s = (s, badValue) := by
  rw [cmdSetAccountState, accountStateOf_none h]

theorem cmdSetAccountState_taken (a : Fin 256) (st : AccountState) (s : State) :
    cmdSetAccountState a st.code s = (s.setAccount a { s.account a with state := st }, done) := by
  rw [cmdSetAccountState, accountStateOf_code]
  rfl

/-! ## CREDIT ACCOUNT (R73) -/

theorem exec_creditAccount {s : State} (h : s.Ready) (tag account : Byte) (amount : Triple) :
    exec (.creditAccount tag account amount) s =
      .next (finish tag 0x32 (cmdCreditAccount (accountOf account) amount.toInt s)) :=
  command_ready tag 0x32 _ _ s h

section CreditAccount
variable {s : State} {a : Fin 256} {n : Int}

theorem cmdCreditAccount_belowFloor (h : (s.account a).balance + n < (s.account a).floor) :
    cmdCreditAccount a n s = (s, badValue) :=
  if_pos h

theorem cmdCreditAccount_taken (h : (s.account a).floor ≤ (s.account a).balance + n) :
    cmdCreditAccount a n s = (s.withAccount a { s.account a with
        balance := credited ((s.account a).balance + n)
        warned := if (s.account a).warn ≤ credited ((s.account a).balance + n) then false else (s.account a).warned },
      .reply .done (threeBytes (credited ((s.account a).balance + n)) ++
        [if 8388607 < (s.account a).balance + n then 1 else 0])) := by
  simp only [cmdCreditAccount, if_neg (Int.not_lt.mpr h), restoreIfAbove_updAccount, Account.rearm_eq, beInt24_eq_threeBytes,
    flagByte, decide_eq_true_eq]

end CreditAccount

/-! ## READ ACCOUNT (R74) -/

theorem exec_readAccount {s : State} (h : s.Ready) (tag account : Byte) :
    exec (.readAccount tag account) s = .next (finish tag 0x33 (cmdReadAccount (accountOf account) s)) :=
  command_ready tag 0x33 _ _ s h

theorem State.metersOf_eq_filter (s : State) (a : Fin 256) :
    s.metersOf a = allChannels.filterMap fun c => (s.meter c).filter fun m => decide (m.account = a) := by
  unfold State.metersOf
  congr 1
  funext c
  cases s.meter c with
  | none => rfl
  | some m => by_cases h : m.account = a <;> simp [Option.filter, h]

/-- Meters of an account with a property `p` are counted by the channels they run on. -/
theorem State.metersOf_filter_length (s : State) (a : Fin 256) (p : Meter → Bool) :
    ((s.metersOf a).filter p).length =
      (allChannels.filter fun c => (s.meter c).any fun m => decide (m.account = a) && p m).length := by
  rw [metersOf_eq_filter, List.filter_filterMap, List.length_filterMap_eq_countP, List.countP_eq_length_filter]
  congr 2
  funext c
  rw [Option.filter_filter, Option.isSome_filter]

theorem State.metersOf_length (s : State) (a : Fin 256) :
    (s.metersOf a).length = (allChannels.filter fun c => (s.meter c).any fun m => decide (m.account = a)).length := by
  simpa using s.metersOf_filter_length a fun _ => true

theorem accountData_eq (a : Fin 256) (s : State) :
    accountData a s = [(s.account a).state.code] ++ threeBytes (s.account a).balance ++ threeBytes (s.account a).overdraft ++
      threeBytes (s.account a).warn ++
      [byteOf (s.account a).limit, byteOf (s.account a).openCount, flagByte (s.account a).warned,
        byteOf (allChannels.filter fun c => (s.meter c).any fun m => decide (m.account = a)).length,
        byteOf (allChannels.filter fun c => (s.meter c).any fun m => decide (m.account = a) && m.exhausted).length] := by
  simp only [accountData, beInt24_eq_threeBytes, be24_eq_threeBytes, State.metersOf_length, State.metersOf_filter_length]

/-- Settles O24: each command goes to its owner, which refuses what its checks name and else puts the new record in place. -/
theorem accountCommands : Obligations.AccountCommands := by
  intro s tag account state balance overdraft warn amount limit hr a ha x i ok total b running
  have hacc : accountOf account = a := Fin.ext ha.symm
  simp only [i, exec_setAccount hr, exec_setAccountState hr, exec_creditAccount hr, exec_readAccount hr, hacc]
  refine ⟨fun hbad => ?setRefused, fun st hst hok => ?set, fun hbad => ?stateRefused, fun st hst => ?state,
    fun hlow => ?creditRefused, fun hok => ?credit, ?read⟩
  case setRefused =>
    by_cases hst : state.toNat ≤ 2
    · have hrange : ¬ (overdraft.toNat ≤ 8388608 ∧ limit.toNat ≤ 15 ∧ -(overdraft.toNat : Int) ≤ balance.toInt) :=
        fun h => hbad ⟨hst, h⟩
      rw [cmdSetAccount_outOfRange hrange, finish_badValue]
    · rw [cmdSetAccount_badState (Nat.lt_of_not_le hst), finish_badValue]
  case set =>
    obtain ⟨-, hrange⟩ := hok
    rw [← hst, cmdSetAccount_taken hrange, finish_done]
  case stateRefused => rw [cmdSetAccountState_badState hbad, finish_badValue]
  case state =>
    rw [← hst, cmdSetAccountState_taken, finish_done, State.setAccount]
  case creditRefused => rw [cmdCreditAccount_belowFloor hlow, finish_badValue]
  case credit =>
    rw [cmdCreditAccount_taken hok, finish_reply]
    rfl
  case read => rw [cmdReadAccount, finish_reply, accountData_eq, allChannels]

end Sys2Proof.Machine
end

section
/-! A charge to a running session (R76 to R79, R110, R112, R116): the debit, the low-balance warning at every line of the account, the charge as one state, and the exhaustion of the session on a shortfall. -/

namespace Sys2Proof.Machine

open Sys2Proof

/-! ## A repeated notice request (R18) -/

/-- A notice asked for stands in the queue. -/
theorem any_joinNotices (q : List Notice) (n : Notice) : (joinNotices q n).1.any (fun x => decide (x.msg = n.msg)) = true := by
  unfold joinNotices
  split
  next hany =>
    obtain ⟨x, hx, hmsg⟩ := List.any_eq_true.mp hany
    have hmsg : x.msg = n.msg := of_decide_eq_true hmsg
    exact List.any_eq_true.mpr ⟨_, List.mem_map_of_mem hx, by simp [hmsg]⟩
  next => split <;> simp

/-- Every queued notice of the message asked for carries the value asked for. -/
theorem value_of_mem_joinNotices {q : List Notice} {n x : Notice} (hx : x ∈ (joinNotices q n).1) (hmsg : x.msg = n.msg) :
    x.value = n.value := by
  unfold joinNotices at hx
  split at hx
  next =>
    obtain ⟨y, -, rfl⟩ := List.mem_map.mp hx
    split
    next => rfl
    next hne => rw [if_neg hne] at hmsg; exact absurd hmsg hne
  next hany =>
    have hnew : ∀ y ∈ q, y.msg ≠ n.msg := by simpa using hany
    have hx : x ∈ q ∨ x = n := by
      split at hx
      · exact (List.mem_append.mp hx).imp List.mem_of_mem_drop List.mem_singleton.mp
      · exact (List.mem_append.mp hx).imp_right List.mem_singleton.mp
    rcases hx with hold | rfl
    · exact absurd hmsg (hnew x hold)
    · rfl

/-- A second like request finds its message queued with its value. -/
theorem joinNotices_joinNotices (q : List Notice) (n : Notice) :
    joinNotices (joinNotices q n).1 n = ((joinNotices q n).1, false) := by
  have hmap : ((joinNotices q n).1.map fun x => if x.msg = n.msg then { x with value := n.value } else x) = (joinNotices q n).1 := by
    refine (List.map_congr_left fun x hx => ?_).trans (List.map_id _)
    split
    next hmsg => rw [← value_of_mem_joinNotices hx hmsg, id]
    next => rfl
  rw [joinNotices, if_pos (any_joinNotices q n), hmap]

theorem Line.request_request (now : Nat) (m : Fin 24) (v : Int) (ln : Line) :
    Line.request now m v (Line.request now m v ln) = Line.request now m v ln := by
  cases h : ln.state.takesNotices with
  | false => simp [Line.request, h]
  | true => simp [Line.request, h, joinNotices_joinNotices]

/-! ## The low-balance warning (R79) -/

/-- R79: the meter of channel `c` runs for line `l` and charges account `a`. -/
def State.chargesFor (s : State) (a : Fin 256) (l : Fin 32) (c : Fin 24) : Bool :=
  (s.meter c).any fun m => decide (m.line = l) && decide (m.account = a)

/-- R79: the M16 that the meter of channel `c` asks for. -/
def warnChannel (a : Fin 256) (v : Int) (s : State) (c : Fin 24) : State :=
  match s.meter c with
  | some m => if m.account = a then notify m.line Config.mBalance v s else s
  | none => s

theorem warnLines_eq_foldl (a : Fin 256) (v : Int) (s : State) : warnLines a v s = allChannels.foldl (warnChannel a v) s := rfl

@[simp] theorem warnChannel_now (a : Fin 256) (v : Int) (s : State) (c : Fin 24) : (warnChannel a v s c).now = s.now := by
  unfold warnChannel
  split
  · split <;> simp
  · rfl

@[simp] theorem warnChannel_meter (a : Fin 256) (v : Int) (s : State) (c k : Fin 24) : (warnChannel a v s c).meter k = s.meter k := by
  unfold warnChannel
  split
  · split <;> simp
  · rfl

@[simp] theorem warnChannel_chargesFor (a : Fin 256) (v : Int) (s : State) (c k : Fin 24) (l : Fin 32) :
    (warnChannel a v s c).chargesFor a l k = s.chargesFor a l k := by
  simp only [State.chargesFor, warnChannel_meter]

theorem warnChannel_line (a : Fin 256) (v : Int) (s : State) (c : Fin 24) (l : Fin 32) :
    (warnChannel a v s c).line l = if s.chargesFor a l c = true then Line.request s.now 16 v (s.line l) else s.line l := by
  unfold warnChannel State.chargesFor
  cases s.meter c with
  | none => simp
  | some m =>
    by_cases ha : m.account = a
    · by_cases hl : m.line = l
      · simp [ha, hl, notify]
      · simp [ha, hl, notify, Ne.symm hl]
    · simp [ha]

/-- However many meters warn a line, it stands as after one request. -/
theorem foldl_warnChannel_line (a : Fin 256) (v : Int) (l : Fin 32) : ∀ (cs : List (Fin 24)) (s : State),
    (cs.foldl (warnChannel a v) s).line l =
      if ∃ c ∈ cs, s.chargesFor a l c = true then Line.request s.now 16 v (s.line l) else s.line l
  | [], s => by simp
  | c :: cs, s => by
    rw [List.foldl_cons, foldl_warnChannel_line a v l cs, warnChannel_line]
    simp only [warnChannel_chargesFor, warnChannel_now]
    by_cases hc : s.chargesFor a l c = true
    · simp [hc, Line.request_request]
    · simp [hc]

theorem State.warned_eq_chargesFor (s : State) (a : Fin 256) (v : Int) :
    s.warned a v = { s with
      lines := Vector.ofFn fun l =>
        if ∃ c, s.chargesFor a l c = true then Line.request s.now 16 v (s.line l) else s.line l } := rfl

theorem warnLines_eq_warned (a : Fin 256) (v : Int) (s : State) : warnLines a v s = s.warned a v := by
  have hlines : (warnLines a v s).lines = (s.warned a v).lines := by
    refine State.lines_ext fun l => ?_
    rw [warnLines_eq_foldl, foldl_warnChannel_line, State.warned_eq_chargesFor, State.line_ofFn]
    simp only [allChannels, List.mem_finRange, true_and]
  apply State.ext
  case lines => exact hlines
  all_goals simp [State.warned]

@[simp] theorem State.warned_now (s : State) (a : Fin 256) (v : Int) : (s.warned a v).now = s.now := by
  rw [State.warned]

@[simp] theorem State.warned_cal (s : State) (a : Fin 256) (v : Int) : (s.warned a v).cal = s.cal := by
  rw [State.warned]

@[simp] theorem State.warned_meter (s : State) (a : Fin 256) (v : Int) (c : Fin 24) : (s.warned a v).meter c = s.meter c := by
  rw [State.meter, State.warned, State.meter]

/-- The warning looks at a meter's line and account only. -/
theorem State.warned_setMeter {s : State} {c : Fin 24} {m m' : Meter} (hm : s.meter c = some m) (hline : m'.line = m.line)
    (hacc : m'.account = m.account) (a : Fin 256) (v : Int) :
    (s.warned a v).setMeter c (some m') = (s.setMeter c (some m')).warned a v := by
  have hcharges (k : Fin 24) (l : Fin 32) : s.chargesFor a l k = (s.setMeter c (some m')).chargesFor a l k := by
    unfold State.chargesFor
    rw [State.setMeter_meter]
    split
    next hk => simp [hk, hm, hline, hacc]
    next => rfl
  simp only [State.warned_eq_chargesFor, hcharges]
  rfl

/-! ## The debit (R76, R77, R79) -/

/-- R76: an account at or above its floor pays what it can: the units asked for or all it has left. -/
theorem Account.debit_eq {x : Account} (h : -(x.overdraft : Int) ≤ x.balance) (n : Nat) :
    x.debit n = ({ x with balance := x.balance - (min n (x.balance + x.overdraft).toNat : Nat) },
      min n (x.balance + x.overdraft).toNat, n - min n (x.balance + x.overdraft).toNat) := by
  unfold Account.debit Account.available
  split
  next hpays => rw [Nat.min_eq_left hpays, Nat.sub_self]
  next hshort =>
    rw [Nat.min_eq_right (Nat.le_of_not_le hshort)]
    have hfloor : x.balance - ((x.balance + x.overdraft).toNat : Nat) = x.floor := by
      rw [Account.floor]
      omega
    rw [hfloor]

/-- R79: account `a` with its new record `x`, its lines warned when the balance is below the threshold for the first time. -/
def State.debited (s : State) (a : Fin 256) (x : Account) : State :=
  if x.balance < x.warn ∧ x.warned = false then (s.setAccount a { x with warned := true }).warned a x.balance
  else s.setAccount a x

theorem checkWarning_setAccount (s : State) (a : Fin 256) (x : Account) : checkWarning a (s.setAccount a x) = s.debited a x := by
  simp only [checkWarning, State.setAccount_account_same, warnLines_eq_warned, State.debited, State.updAccount]
  split
  · simp [State.setAccount]
  · rfl

theorem debitAccount_eq {s : State} {a : Fin 256} {n : Nat} (hn : 0 < n)
    (h : -((s.account a).overdraft : Int) ≤ (s.account a).balance) :
    let paid := min n ((s.account a).balance + (s.account a).overdraft).toNat
    debitAccount a n s = (s.debited a { s.account a with balance := (s.account a).balance - (paid : Nat) }, paid, n - paid) := by
  simp only [debitAccount, if_neg hn.ne', Account.debit_eq h, checkWarning_setAccount]

@[simp] theorem State.debited_now (s : State) (a : Fin 256) (x : Account) : (s.debited a x).now = s.now := by
  unfold State.debited
  split <;> simp

@[simp] theorem State.debited_cal (s : State) (a : Fin 256) (x : Account) : (s.debited a x).cal = s.cal := by
  unfold State.debited
  split <;> simp

@[simp] theorem State.debited_meter (s : State) (a : Fin 256) (x : Account) (c : Fin 24) : (s.debited a x).meter c = s.meter c := by
  unfold State.debited
  split <;> simp

theorem State.debited_setMeter {s : State} {c : Fin 24} {m m' : Meter} (hm : s.meter c = some m) (hline : m'.line = m.line)
    (hacc : m'.account = m.account) (a : Fin 256) (x : Account) :
    (s.debited a x).setMeter c (some m') = (s.setMeter c (some m')).debited a x := by
  unfold State.debited
  split
  · exact State.warned_setMeter (s := s.setAccount a _) hm hline hacc a x.balance
  · rfl

/-! ## The charge (R108, R112) -/

theorem onLast_append_singleton (f : Segment → Segment) (g : Segment) : ∀ gs : List Segment, onLast f (gs ++ [g]) = gs ++ [f g]
  | [] => rfl
  | [_] => rfl
  | x :: y :: t => congrArg (x :: ·) (onLast_append_singleton f g (y :: t))

@[simp] theorem State.setMeter_setMeter (s : State) (c : Fin 24) (x y : Option Meter) :
    (s.setMeter c x).setMeter c y = s.setMeter c y := by
  simp [State.setMeter]

@[simp] theorem State.updMeter_setMeter (s : State) (c : Fin 24) (x : Option Meter) (f : Meter → Meter) :
    (s.setMeter c x).updMeter c f = s.setMeter c (x.map f) := by
  simp [State.updMeter]

/-- A meter written back as it stands changes nothing. -/
@[simp] theorem State.setMeter_self (s : State) (c : Fin 24) : s.setMeter c (s.meter c) = s := by
  simp [State.setMeter, State.meter]

theorem State.updMeter_updMeter (s : State) (c : Fin 24) (f f' : Meter → Meter) :
    (s.updMeter c f).updMeter c f' = s.updMeter c (f' ∘ f) := by
  simp [State.updMeter]

theorem State.updLine_updMeter (s : State) (c : Fin 24) (l : Fin 32) (f : Line → Line) (f' : Meter → Meter) :
    (s.updLine l f).updMeter c f' = (s.updMeter c f').updLine l f := rfl

/-- R112: the meter as it sends the debit of `n` units. -/
def Meter.counted (m : Meter) (gs : List Segment) (g : Segment) (n : Nat) : Meter :=
  { m with charge := m.charge + n, segments := gs ++ [{ g with units := g.units + n }] }

/-- R112: the meter after the reply to a debit. -/
def Meter.settled (paid excess : Nat) (m : Meter) : Meter :=
  { m with debited := m.debited + paid, excess := m.excess + excess }

/-- A charge writes the meter, then the account with its warning. -/
theorem State.chargedWith_eq_debited (s : State) (c : Fin 24) (m : Meter) (gs : List Segment) (g : Segment) (n : Nat) :
    let paid := min n ((s.account m.account).balance + (s.account m.account).overdraft).toNat
    s.chargedWith c m gs g n = (s.setMeter c (some ((m.counted gs g n).settled paid (n - paid)))).debited m.account
      { s.account m.account with balance := (s.account m.account).balance - (paid : Nat) } := rfl

section Charge
variable {s : State} {c : Fin 24} {m : Meter} {gs : List Segment} {g : Segment} {n : Nat}

@[simp] theorem State.chargedWith_now : (s.chargedWith c m gs g n).now = s.now := by
  rw [State.chargedWith_eq_debited, State.debited_now, State.setMeter_now]

@[simp] theorem State.chargedWith_cal : (s.chargedWith c m gs g n).cal = s.cal := by
  rw [State.chargedWith_eq_debited, State.debited_cal, State.setMeter_cal]

theorem State.chargedWith_meter :
    let paid := min n ((s.account m.account).balance + (s.account m.account).overdraft).toNat
    (s.chargedWith c m gs g n).meter c = some ((m.counted gs g n).settled paid (n - paid)) := by
  rw [State.chargedWith_eq_debited, State.debited_meter, State.setMeter_meter_same]

theorem chargeUnits_eq (hm : s.meter c = some m) (hsegs : m.segments = gs ++ [g]) :
    let r := debitAccount m.account n (s.setMeter c (some (m.counted gs g n)))
    chargeUnits c n s = (r.1.updMeter c (Meter.settled r.2.1 r.2.2), r.2.2) := by
  simp only [chargeUnits, hm, hsegs, onLast_append_singleton]
  rfl

theorem chargeUnits_zero (hm : s.meter c = some m) (hsegs : m.segments = gs ++ [g]) : chargeUnits c 0 s = (s, 0) := by
  have hsame : Meter.settled 0 0 (m.counted gs g 0) = m := by
    simp only [Meter.settled, Meter.counted, Nat.add_zero, ← hsegs]
  have hdebit (t : State) : debitAccount m.account 0 t = (t, 0, 0) := if_pos rfl
  rw [chargeUnits_eq hm hsegs, hdebit, State.updMeter_setMeter, Option.map_some, hsame, ← hm, State.setMeter_self]

/-- The debit is answered to the meter that sent it, so the charge and its reply are one write of the meter. -/
theorem chargeUnits_pos (hm : s.meter c = some m) (hsegs : m.segments = gs ++ [g]) (hn : 0 < n)
    (hfloor : -((s.account m.account).overdraft : Int) ≤ (s.account m.account).balance) :
    chargeUnits c n s =
      (s.chargedWith c m gs g n, n - ((s.account m.account).balance + (s.account m.account).overdraft).toNat) := by
  have hsent : (s.setMeter c (some (m.counted gs g n))).meter c = some (m.counted gs g n) := State.setMeter_meter_same ..
  rw [chargeUnits_eq hm hsegs, debitAccount_eq hn (by simpa using hfloor), State.chargedWith_eq_debited]
  simp only [State.setMeter_account, State.updMeter, State.debited_meter, hsent, Option.map_some]
  rw [State.debited_setMeter (m' := Meter.settled _ _ (m.counted gs g n)) hsent rfl rfl, State.setMeter_setMeter, ← Nat.sub_eq_sub_min]

/-! ## The session's side (R110, R112, R116) -/

theorem chargeSession_zero (hm : s.meter c = some m) (hsegs : m.segments = gs ++ [g]) : chargeSession c 0 s = s := by
  simp [chargeSession, chargeUnits_zero hm hsegs, hm]

theorem chargeSession_pos (hm : s.meter c = some m) (hsegs : m.segments = gs ++ [g]) (hn : 0 < n)
    (hfloor : -((s.account m.account).overdraft : Int) ≤ (s.account m.account).balance) :
    let available := ((s.account m.account).balance + (s.account m.account).overdraft).toNat
    let paid := min n available
    chargeSession c n s =
      if available < n ∧ m.exhausted = false then
        becomeExhausted c ((m.counted gs g n).settled paid (n - paid)) (s.chargedWith c m gs g n)
      else s.chargedWith c m gs g n := by
  simp only [chargeSession, chargeUnits_pos hm hsegs hn hfloor, State.chargedWith_meter, Nat.sub_pos_iff_lt]
  rfl

end Charge

/-- R116: the meter of a session that becomes exhausted at time `now`, its class giving `grace` seconds. -/
def Meter.exhaust (now grace : Nat) (m : Meter) : Meter :=
  { m with exhausted := true, grace := if grace = 0 then m.grace else some (now + grace * 10) }

/-- R116: the session of channel `c` on line `l` stands exhausted, M17 asked for. -/
def State.exhaust (s : State) (c : Fin 24) (l : Fin 32) (grace : Nat) : State :=
  (s.updMeter c (Meter.exhaust s.now grace)).updLine l (Line.request s.now 17 grace)

theorem becomeExhausted_eq {s : State} {c : Fin 24} {m : Meter} {grace : Nat} (hg : s.cal.classes[m.cls].grace = grace) :
    becomeExhausted c m s =
      if grace = 0 then closeSession c .budget (s.exhaust c m.line grace) else s.exhaust c m.line grace := by
  subst hg
  unfold becomeExhausted State.exhaust
  dsimp only
  by_cases hzero : s.cal.classes[m.cls].grace = 0
  · have hmeter : Meter.exhaust s.now s.cal.classes[m.cls].grace = fun x => { x with exhausted := true } := by
      funext x
      rw [Meter.exhaust, if_pos hzero]
    rw [if_pos hzero, if_pos hzero, hmeter, notify, State.updMeter_now]
  · have hmeter : Meter.exhaust s.now s.cal.classes[m.cls].grace =
        (fun x => { x with grace := s.after (s.cal.classes[m.cls].grace * 10) }) ∘ fun x => { x with exhausted := true } := by
      funext x
      rw [Meter.exhaust, if_neg hzero]
      rfl
    rw [if_neg hzero, if_neg hzero, hmeter, notify, State.updLine_updMeter, State.updMeter_updMeter]
    rfl

/-- Settles O30: a charge is one write of the meter and its account; a shortfall of a session not yet exhausted goes to `becomeExhausted`. -/
theorem sessionCharged : Obligations.SessionCharged := by
  intro s c n m hm gs g hsegs hfloor available t grace
  refine ⟨fun h0 => ?zero, fun hn => chargeUnits_pos hm hsegs hn hfloor, fun hn hpaid => ?paid, fun hshort hex => ?shortfall⟩
  case zero =>
    subst h0
    exact ⟨chargeUnits_zero hm hsegs, chargeSession_zero hm hsegs⟩
  case paid =>
    have hdone : ¬ (available < n ∧ m.exhausted = false) := fun ⟨hlt, hex⟩ =>
      hpaid.elim (Nat.not_le.mpr hlt) (by simp [hex])
    rw [chargeSession_pos hm hsegs hn hfloor, if_neg hdone]
  case shortfall =>
    have hcharge : chargeSession c n s =
        if grace = 0 then closeSession c .budget (t.exhaust c m.line grace) else t.exhaust c m.line grace := by
      rw [chargeSession_pos hm hsegs (Nat.zero_lt_of_lt hshort) hfloor, if_pos ⟨hshort, hex⟩,
        becomeExhausted_eq (grace := grace) (by rw [State.chargedWith_cal]; rfl)]
      rfl
    have hstate : t.exhaust c m.line grace = (t.updMeter c (Meter.exhaust s.now grace)).updLine m.line
        (Line.request s.now 17 grace) := by
      rw [State.exhaust, State.chargedWith_now]
    rw [hcharge, hstate]
    exact ⟨fun hrun => if_neg hrun, fun hzero => if_pos hzero⟩

end Sys2Proof.Machine
end

section
/-! SET CLOCK, READ CLOCK and READ PERIOD (R92 to R95, R102): the last day of a month given as bytes, the checks of a time, the day recomputed against the holiday list, and the data of the two reads. -/

namespace Sys2Proof.Machine

open Sys2Proof

/-! ## The date (R90, R92) -/

/-- R90: the last day of a month that a byte names, by the byte itself. -/
theorem lastDay_toNat (month : Byte) (year : Nat) :
    lastDay month.toNat year =
      if month = 2 then (if year % 4 = 0 then 29 else 28) else if month ∈ [4, 6, 9, 11] then 30 else 31 := by
  have isFebruary : month.toNat = 2 ↔ month = 2 := by
    simp [← BitVec.toNat_inj]
  have isShort : (month.toNat = 4 ∨ month.toNat = 6 ∨ month.toNat = 9 ∨ month.toNat = 11) ↔ month ∈ [4, 6, 9, 11] := by
    simp [← BitVec.toNat_inj]
  simp only [lastDay, isFebruary, isShort]

theorem Clock.acceptable_iff (k : Clock) : k.acceptable = true ↔
    k.seconds ≤ 59 ∧ k.minutes ≤ 59 ∧ k.hours ≤ 23 ∧ k.weekday ≤ 6 ∧ 1 ≤ k.month ∧ k.month ≤ 12 ∧ k.year ≤ 99 ∧
      1 ≤ k.day ∧ k.day ≤ lastDay k.month k.year := by
  simp only [Clock.acceptable, Bool.and_eq_true, decide_eq_true_eq, and_assoc]

/-! ## The day (R97) -/

/-- R97: a date is found in the holiday list exactly when some entry holds it. -/
theorem Calendar.holidays_any (c : Calendar) (date : Nat × Nat) :
    (c.holidays.toList.any fun e => decide (e = some date)) = decide (∃ i : Fin 16, c.holidays[i] = some date) := by
  rw [Bool.eq_iff_iff]
  simp only [List.any_eq_true, Vector.mem_toList_iff, decide_eq_true_eq, exists_eq_right,
    Vector.mem_iff_getElem, Fin.exists_iff, Fin.getElem_fin]

theorem Calendar.recomputeDay_eq_withDay (c : Calendar) (hw : Nat) : c.recomputeDay hw = c.withDay hw := by
  cases hvalid : c.valid with
  | false => simp [Calendar.recomputeDay, Calendar.withDay, hvalid]
  | true => simp only [Calendar.recomputeDay, Calendar.withDay, hvalid, Calendar.holidays_any, Bool.true_and, true_and, if_true,
      Bool.true_eq_false, if_false]

theorem recomputeDay_eq (s : State) : recomputeDay s = { s with cal := s.cal.withDay s.params.holidayWeekday } := by
  rw [recomputeDay, State.updCal, Calendar.recomputeDay_eq_withDay]

/-! ## SET CLOCK (R92, R93) -/

theorem exec_setClock {s : State} (h : s.Ready) (tag seconds minutes hours weekday day month year : Byte) :
    exec (.setClock tag seconds minutes hours weekday day month year) s = .next (finish tag 0x40 (cmdSetClock
      ⟨seconds.toNat, minutes.toNat, hours.toNat, weekday.toNat, day.toNat, month.toNat, year.toNat⟩ s)) :=
  command_ready tag 0x40 _ _ s h

theorem cmdSetClock_refused {k : Clock} (h : ¬ k.acceptable = true) (s : State) : cmdSetClock k s = (s, badValue) :=
  if_neg h

theorem cmdSetClock_taken {k : Clock} (h : k.acceptable = true) (s : State) : cmdSetClock k s = (setClock k s, done) :=
  if_pos h

/-- R93: all that stands before the evaluation is one new calendar, and the mark on every running meter. -/
theorem setClock_eq (k : Clock) (s : State) :
    setClock k s = reevaluate { s with
      cal := Calendar.withDay s.params.holidayWeekday { s.cal with clock := k, valid := true, boundary := some (s.now + 10) }
      meters := Vector.ofFn fun c => (s.meter c).map fun m => { m with clockChanged := true } } := by
  rw [setClock, recomputeDay_eq]
  rfl

/-! ## READ CLOCK and READ PERIOD (R95, R102) -/

theorem exec_readClock {s : State} (h : s.Ready) (tag : Byte) :
    exec (.readClock tag) s = .next (s.replied tag 0x41 .done (clockData s)) :=
  command_ready tag 0x41 _ _ s h

theorem exec_readPeriod {s : State} (h : s.Ready) (tag : Byte) :
    exec (.readPeriod tag) s = .next (s.replied tag 0x4F .done (periodData s)) :=
  command_ready tag 0x4F _ _ s h

/-- Settles O25: SET CLOCK turns on `Clock.acceptable`, and both reads answer from the state they leave as it was. -/
theorem clockCommands : Obligations.ClockCommands := by
  intro s tag se mi ho wd da mo ye hr days ok cal k
  have hok : ok ↔ (Clock.mk se.toNat mi.toNat ho.toNat wd.toNat da.toNat mo.toNat ye.toNat).acceptable = true := by
    rw [Clock.acceptable_iff, lastDay_toNat]
  refine ⟨fun hbad => ?refused, fun hgood => ?taken, exec_readClock hr tag, exec_readPeriod hr tag⟩
  case refused => rw [exec_setClock hr, cmdSetClock_refused (mt hok.mpr hbad), finish_badValue]
  case taken => rw [exec_setClock hr, cmdSetClock_taken (hok.mp hgood), finish_done, setClock_eq]

end Sys2Proof.Machine
end

section
/-! A running meter at a second boundary (R111 to R113, R115, R123): the segments as the current period moves, what a charge leaves of the segments and the time, and the limits checked after the accrual. -/

namespace Sys2Proof.Machine

open Sys2Proof

/-! ## The rate and the segments (R111, R113) -/

theorem effectiveRate_eq (r f : Nat) : effectiveRate r f = if 65535 < r * f / 16 then 65535 else r * f / 16 := by
  unfold effectiveRate Config.rateLimit
  split
  next hover => exact Nat.min_eq_right hover.le
  next hunder => exact Nat.min_eq_left (Nat.le_of_not_lt hunder)

theorem moveSegments_append_singleton (q : Nat) (gs : List Segment) (g : Segment) :
    moveSegments q (gs ++ [g]) = segmentsAt q gs g := by
  have hroom : (gs ++ [g]).length < 3 ↔ gs.length < 2 :=
    by rw [List.length_append, List.length_singleton, Nat.succ_lt_succ_iff]
  simp only [moveSegments, segmentsAt, List.getLast?_concat, onLast_append_singleton, hroom, List.append_assoc, List.singleton_append]

/-! ## What a charge leaves (R112, R116) -/

/-- R121: a session closed leaves its meter FREE. -/
theorem closeSession_meter_none (c : Fin 24) (why : CloseReason) (s : State) : (closeSession c why s).meter c = none := by
  unfold closeSession
  split
  next hfree => exact hfree
  next => simp

theorem State.exhaust_meter {s : State} {c : Fin 24} {m : Meter} (hm : s.meter c = some m) (l : Fin 32) (grace : Nat) :
    (s.exhaust c l grace).meter c = some (m.exhaust s.now grace) := by
  rw [State.exhaust, State.updLine_meter, State.updMeter_meter_same, hm, Option.map_some]

theorem becomeExhausted_keeps_segments {s : State} {c : Fin 24} {m m2 : Meter} (hm : s.meter c = some m)
    (h2 : (becomeExhausted c m s).meter c = some m2) : m2.segments = m.segments := by
  rw [becomeExhausted_eq rfl] at h2
  split at h2
  next => exact absurd ((closeSession_meter_none ..).symm.trans h2) (Option.some_ne_none _).symm
  next =>
    rw [State.exhaust_meter hm] at h2
    rw [← Option.some.inj h2, Meter.exhaust]

section Charge
variable {s : State} {c : Fin 24} {m m2 : Meter} {gs : List Segment} {g : Segment} {n : Nat}

/-- Whatever the account pays, the meter counts the units sent and the reply to them. -/
theorem chargeUnits_meter (hm : s.meter c = some m) (hsegs : m.segments = gs ++ [g]) :
    ∃ paid excess, (chargeUnits c n s).1.meter c = some ((m.counted gs g n).settled paid excess) := by
  simp only [chargeUnits_eq hm hsegs, State.updMeter_meter_same, debitAccount_frame, State.setMeter_meter_same, Option.map_some]
  exact ⟨_, _, rfl⟩

/-- A session that survives a charge has the units in its last segment. -/
theorem chargeSession_segments (hm : s.meter c = some m) (hsegs : m.segments = gs ++ [g])
    (h2 : (chargeSession c n s).meter c = some m2) : m2.segments = gs ++ [{ g with units := g.units + n }] := by
  obtain ⟨paid, excess, hcharged⟩ := chargeUnits_meter (n := n) hm hsegs
  simp only [chargeSession, hcharged] at h2
  split at h2
  next => exact becomeExhausted_keeps_segments hcharged h2
  next => rw [← Option.some.inj (hcharged.symm.trans h2), Meter.settled, Meter.counted]

end Charge

/-! ## The limits (R115) -/

section Limits
variable {s : State} {c : Fin 24} {m : Meter}

/-- R115: the time warning is due five minutes before a maximum that is longer than that. -/
theorem timeWarning_due_iff (m : Meter) :
    (Config.timeWarning < m.maximum ∧ m.elapsed = m.maximum - Config.timeWarning) ↔ 300 < m.maximum ∧ m.elapsed + 300 = m.maximum := by
  unfold Config.timeWarning
  omega

theorem checkLimits_atMaximum (hm : s.meter c = some m) (hmax : m.elapsed = m.maximum) :
    checkLimits c s = closeSession c .timeLimit s := by
  have hnot : ¬ (300 < m.maximum ∧ m.elapsed + 300 = m.maximum) := by omega
  simp only [checkLimits, hm, timeWarning_due_iff, if_neg hnot, if_pos hmax]

theorem checkLimits_warning (hm : s.meter c = some m) (hlong : 300 < m.maximum) (hdue : m.elapsed + 300 = m.maximum) :
    checkLimits c s = (s.setMeter c (some { m with timeWarned := true })).updLine m.line (Line.request s.now 15 5) := by
  have hmax : m.elapsed ≠ m.maximum := by omega
  simp only [checkLimits, hm, timeWarning_due_iff, if_pos (And.intro hlong hdue), if_neg hmax, notify, State.updLine_updMeter]
  rw [State.updMeter, hm, Option.map_some]

theorem checkLimits_within (hm : s.meter c = some m) (hmax : m.elapsed ≠ m.maximum)
    (hnot : m.maximum ≤ 300 ∨ m.elapsed + 300 ≠ m.maximum) : checkLimits c s = s := by
  have hnot : ¬ (300 < m.maximum ∧ m.elapsed + 300 = m.maximum) := by omega
  simp only [checkLimits, hm, timeWarning_due_iff, if_neg hnot, if_neg hmax]

end Limits

/-! ## The boundary (R112) -/

theorem meterBoundary_free {s : State} {c : Fin 24} (hm : s.meter c = none) (p q : Fin 8) : meterBoundary p q c s = s := by
  rw [meterBoundary, hm]

/-- R112: the accumulator of meter `m` with a second at the rate of period `p` added, before whole units leave it. -/
def State.accrued (s : State) (p : Fin 8) (m : Meter) : Nat :=
  m.accumulator + effectiveRate s.cal.rates[p][m.cls] m.factor

/-- R112: meter `m` with the second counted and the accumulator `a` reduced below a unit. -/
def Meter.ticked (m : Meter) (gs : List Segment) (g : Segment) (a : Nat) : Meter :=
  { m with accumulator := a % 3600, elapsed := m.elapsed + 1, segments := gs ++ [{ g with seconds := g.seconds + 1 }] }

/-- R112: the accrual of meter `m` at a second boundary, up to the charge of its whole units. -/
def State.accrual (s : State) (p : Fin 8) (c : Fin 24) (m : Meter) (gs : List Segment) (g : Segment) : State :=
  chargeSession c (s.accrued p m / 3600) (s.setMeter c (some (m.ticked gs g (s.accrued p m))))

section Boundary
variable {s : State} {p q : Fin 8} {c : Fin 24} {m m2 : Meter} {gs : List Segment} {g : Segment}

theorem meterBoundary_eq (hm : s.meter c = some m) (hsegs : m.segments = gs ++ [g]) :
    meterBoundary p q c s = match (s.accrual p c m gs g).meter c with
      | none => s.accrual p c m gs g
      | some m2 => checkLimits c ((s.accrual p c m gs g).setMeter c (some { m2 with segments := moveSegments q.val m2.segments })) := by
  simp only [meterBoundary, hm, hsegs, onLast_append_singleton]
  rfl

theorem meterBoundary_closed (hm : s.meter c = some m) (hsegs : m.segments = gs ++ [g])
    (hclosed : (s.accrual p c m gs g).meter c = none) : meterBoundary p q c s = s.accrual p c m gs g := by
  rw [meterBoundary_eq hm hsegs, hclosed]

/-- A session that survives the charge moves its segments and then has its limits checked. -/
theorem meterBoundary_running (hm : s.meter c = some m) (hsegs : m.segments = gs ++ [g])
    (hrun : (s.accrual p c m gs g).meter c = some m2) :
    meterBoundary p q c s = checkLimits c ((s.accrual p c m gs g).setMeter c (some { m2 with
      segments := segmentsAt q.val gs { g with seconds := g.seconds + 1, units := g.units + s.accrued p m / 3600 } })) := by
  have hcharged := chargeSession_segments (State.setMeter_meter_same ..) rfl hrun
  rw [meterBoundary_eq hm hsegs, hrun]
  simp only [hcharged, moveSegments_append_singleton]

end Boundary

/-- Settles O31: the accrual is `State.accrual`; a session that it leaves running comes to `checkLimits`, whose three cases are the last three parts. -/
theorem meterAccrues : Obligations.MeterAccrues := by
  refine ⟨fun s p q c hfree => meterBoundary_free hfree p q, ?_⟩
  intro s p q c m hm gs g hsegs _ rate a charged
  have ha : a = s.accrued p m := by rw [State.accrued, effectiveRate_eq]
  have hcharged : charged = s.accrual p c m gs g := by rw [State.accrual, ← ha]; rfl
  refine ⟨fun hclosed => ?closed, fun m2 hrun => ?running⟩
  case closed =>
    rw [hcharged] at hclosed ⊢
    exact meterBoundary_closed hm hsegs hclosed
  case running =>
    intro moved
    have hboundary : meterBoundary p q c s = checkLimits c (charged.setMeter c (some moved)) := by
      rw [hcharged] at hrun ⊢
      rw [meterBoundary_running hm hsegs hrun, ← ha]
    have hmoved : (charged.setMeter c (some moved)).meter c = some moved := State.setMeter_meter_same ..
    rw [hboundary]
    refine ⟨fun hmax => checkLimits_atMaximum hmoved hmax, fun _ hlong hdue => ?warning,
      fun hmax hnot => checkLimits_within hmoved hmax hnot⟩
    case warning =>
      have hnow : charged.now = s.now := by simp [charged]
      have hwarned := checkLimits_warning hmoved hlong hdue
      rw [State.setMeter_setMeter, State.setMeter_now, hnow] at hwarned
      exact hwarned

end Sys2Proof.Machine
end

section
/-! FETCH TICKET, RELEASE TICKET and READ TICKET COUNTS (R154 to R156, R202): the 56 bytes of a ticket with its flags as a sum of bits, the head of the close list, the row a serial finds, and the three counts. -/

namespace Sys2Proof.Machine

open Sys2Proof

/-! ## FETCH TICKET (R154, R202) -/

/-- R196: flag `i` of a ticket weighs 2^i. -/
theorem TicketFlags.byte_eq (f : TicketFlags) :
    f.byte = byteOf ((if f.clockChanged then 1 else 0) + (if f.timeWarned then 2 else 0) + (if f.expelNoticed then 4 else 0) +
      (if f.exhausted then 8 else 0) + (if f.idleWarned then 16 else 0)) := by
  simp only [TicketFlags.byte, flagSet, List.foldr_cons, List.foldr_nil, Nat.mul_add, mul_ite, Nat.reduceMul, Nat.add_assoc,
    Nat.add_zero]

theorem State.headTicket_empty {s : State} (h : s.tickets.closeList = []) : s.headTicket = none := by
  simp only [State.headTicket, h]

theorem State.headTicket_cons {s : State} {r : Fin 64} {rest : List (Fin 64)} {t : Ticket}
    (hlist : s.tickets.closeList = r :: rest) (hrow : s.row r = .closed t) : s.headTicket = some t := by
  simp only [State.headTicket, hlist, hrow]

theorem exec_fetchTicket {s : State} (h : s.Ready) (tag : Byte) :
    exec (.fetchTicket tag) s = .next (finish tag 0x60 (cmdFetchTicket s)) :=
  command_ready tag 0x60 _ _ s h

theorem cmdFetchTicket_empty {s : State} (h : s.tickets.closeList = []) : cmdFetchTicket s = (s, .reply .empty []) := by
  rw [cmdFetchTicket, State.headTicket_empty h]

theorem cmdFetchTicket_head {s : State} {r : Fin 64} {rest : List (Fin 64)} {t : Ticket}
    (hlist : s.tickets.closeList = r :: rest) (hrow : s.row r = .closed t) :
    cmdFetchTicket s = (s, .reply .done (ticketData t)) := by
  rw [cmdFetchTicket, State.headTicket_cons hlist hrow]

/-! ## RELEASE TICKET (R155) -/

/-- R155: the search looks at the serials of the CLOSED rows alone. -/
theorem State.rowOfSerial_eq_find (s : State) (n : Nat) :
    s.rowOfSerial n = allRows.find? fun r => decide ((s.row r).serial = some n) := by
  unfold State.rowOfSerial
  congr 1
  funext r
  cases s.row r with
  | free => rfl
  | reserved x => rfl
  | closed t => simp only [Row.serial, Option.some.injEq]

theorem State.rowOfSerial_eq_none {s : State} {n : Nat} : s.rowOfSerial n = none ↔ ∀ r, (s.row r).serial ≠ some n := by
  simp only [State.rowOfSerial_eq_find, List.find?_eq_none, allRows, List.mem_finRange, decide_eq_true_eq, true_imp_iff, ne_eq]

theorem State.serial_of_rowOfSerial {s : State} {n : Nat} {r : Fin 64} (h : s.rowOfSerial n = some r) :
    (s.row r).serial = some n := by
  rw [State.rowOfSerial_eq_find] at h
  simpa using List.find?_some h

/-- A serial that one row alone carries finds that row. -/
theorem State.rowOfSerial_unique {s : State} {n : Nat} {r : Fin 64} (hr : (s.row r).serial = some n)
    (hothers : ∀ j, j ≠ r → (s.row j).serial ≠ some n) : s.rowOfSerial n = some r := by
  cases hfound : s.rowOfSerial n with
  | none => exact absurd hr (State.rowOfSerial_eq_none.mp hfound r)
  | some j =>
    have hj : j = r := by_contra fun hne => hothers j hne (State.serial_of_rowOfSerial hfound)
    rw [hj]

theorem exec_releaseTicket {s : State} (h : s.Ready) (tag : Byte) (serial : Half) :
    exec (.releaseTicket tag serial) s = .next (finish tag 0x61 (cmdReleaseTicket serial s)) :=
  command_ready tag 0x61 _ _ s h

section ReleaseTicket
variable {serial : Half} {s : State}

theorem cmdReleaseTicket_zero (h : serial = 0) : cmdReleaseTicket serial s = (s, badValue) := if_pos h

theorem cmdReleaseTicket_found {r : Fin 64} (h : serial ≠ 0) (hfound : s.rowOfSerial serial.toNat = some r) :
    cmdReleaseTicket serial s = (releaseRow r s, done) := by
  rw [cmdReleaseTicket, if_neg h, hfound]

theorem cmdReleaseTicket_notFound (h : serial ≠ 0) (hnone : s.rowOfSerial serial.toNat = none) :
    cmdReleaseTicket serial s = (s, .reply .notFound []) := by
  rw [cmdReleaseTicket, if_neg h, hnone]

end ReleaseTicket

/-! ## READ TICKET COUNTS (R156) -/

theorem State.freeRows_eq (s : State) : s.freeRows = (allRows.filter fun r => decide (s.row r = .free)).length := by
  unfold State.freeRows
  congr 2
  funext r
  cases s.row r with
  | free => rfl
  | reserved x => rfl
  | closed t => rfl

/-- A row is CLOSED exactly when it carries a serial. -/
theorem State.closedRows_eq (s : State) : s.closedRows = (allRows.filter fun r => (s.row r).serial.isSome).length := by
  unfold State.closedRows
  congr 2
  funext r
  cases s.row r with
  | free => rfl
  | reserved x => rfl
  | closed t => rfl

theorem countData_eq (s : State) :
    countData s = [byteOf (allRows.filter fun r => decide (s.row r = .free)).length, byteOf s.reservedRows,
      byteOf (allRows.filter fun r => (s.row r).serial.isSome).length, byteOf (s.tickets.serial / 256), byteOf s.tickets.serial] := by
  rw [countData, State.freeRows_eq, State.closedRows_eq]
  rfl

theorem exec_readTicketCounts {s : State} (h : s.Ready) (tag : Byte) :
    exec (.readTicketCounts tag) s = .next (s.replied tag 0x62 .done (countData s)) :=
  command_ready tag 0x62 _ _ s h

/-- Settles O40: FETCH TICKET turns on the head of the close list, RELEASE TICKET on the row that its serial finds, and READ TICKET COUNTS answers from the state it leaves as it was. -/
theorem ticketCommands : Obligations.TicketCommands := by
  intro s tag serial hr three stamp bit segments count
  refine ⟨fun hempty => ?empty, fun r rest hlist t hrow => ?fetched, fun hzero => ?zero,
    fun hserial => ⟨fun r hrow hothers => ?released, fun hnone => ?notFound⟩, ?counts⟩
  case empty => rw [exec_fetchTicket hr, cmdFetchTicket_empty hempty, finish_reply]
  case fetched =>
    rw [exec_fetchTicket hr, cmdFetchTicket_head hlist hrow, finish_reply, ticketData, TicketFlags.byte_eq]
    rfl
  case zero => rw [exec_releaseTicket hr, cmdReleaseTicket_zero hzero, finish_badValue]
  case released =>
    rw [exec_releaseTicket hr, cmdReleaseTicket_found hserial (State.rowOfSerial_unique hrow hothers), finish_done]
    rfl
  case notFound =>
    rw [exec_releaseTicket hr, cmdReleaseTicket_notFound hserial (State.rowOfSerial_eq_none.mpr hnone), finish_reply]
  case counts =>
    rw [exec_readTicketCounts hr, countData_eq]
    rfl

end Sys2Proof.Machine
end

section
/-! LOAD PARAMETERS, READ PARAMETERS and READ COUNTERS (R189, R194): the fields that make a parameter table, the table taken with the day recomputed, the level of the ALERT pin (R164), and the data of the two reads. -/

namespace Sys2Proof.Machine

open Sys2Proof

/-! ## The ALERT pin (R159, R164) -/

theorem State.alert_iff (s : State) :
    s.alert = true ↔ ∃ j : Fin 4, s.watches[j].enabled = true ∧ s.watches[j].event = true := by
  simp only [State.alert, List.any_eq_true, List.mem_finRange, true_and, Bool.and_eq_true]

/-- R164: the pin is high exactly when the polarity and ALERT agree. -/
theorem State.alertPin_iff (s : State) : s.alertPin = true ↔ (s.params.alertHigh = true ↔ s.alert = true) := by
  unfold State.alertPin
  cases s.params.alertHigh with
  | false => simp
  | true => simp

/-! ## The fields of LOAD PARAMETERS (R189, R196) -/

theorem finOf_eq_some {n : Nat} {b : Byte} {k : Fin n} (h : finOf n b = some k) : b.toNat < n := by
  by_contra hn
  rw [finOf_none (Nat.le_of_not_lt hn)] at h
  cases h

/-- R196: the byte 0 names no watch, and the byte `v + 1` names watch `v`. -/
theorem shedSourceOf_eq {b : Byte} {w : Option (Fin 4)} (hnone : w = none → b = 0)
    (hsome : ∀ v, w = some v → v.val + 1 = b.toNat) : shedSourceOf b = some w := by
  cases w with
  | none => rw [shedSourceOf, if_pos (hnone rfl)]
  | some v =>
    have hv : v.val + 1 = b.toNat := hsome v rfl
    have h0 : b ≠ 0 := by rintro rfl; simp at hv
    have hpred : b.toNat - 1 = v.val := by omega
    simp only [shedSourceOf, h0, if_false, hpred, v.isLt, dif_pos]

theorem exists_shedSourceOf_iff {b : Byte} : (∃ w, shedSourceOf b = some w) ↔ b.toNat ≤ 4 := by
  unfold shedSourceOf
  split
  · next h0 => simp [h0]
  · split
    · next hlt => exact iff_of_true ⟨_, rfl⟩ (by omega)
    · next hge => exact iff_of_false (by rintro ⟨w, hw⟩; cases hw) (by omega)

/-- R189: every value of a LOAD PARAMETERS is in range; the queue notice time has no bound. -/
def ParamFields (lockout queueWait offer close expelGrace holidayWeekday nd selector1 selector2 shedSource polarity : Byte) : Prop :=
  1 ≤ lockout.toNat ∧ lockout.toNat ≤ 7 ∧ 1 ≤ queueWait.toNat ∧ queueWait.toNat ≤ 60 ∧ 1 ≤ offer.toNat ∧ offer.toNat ≤ 60 ∧
    1 ≤ close.toNat ∧ close.toNat ≤ 60 ∧ 1 ≤ expelGrace.toNat ∧ expelGrace.toNat ≤ 30 ∧ holidayWeekday.toNat ≤ 6 ∧
    1 ≤ nd.toNat ∧ nd.toNat ≤ 64 ∧ selector1.toNat ≤ 7 ∧ selector2.toNat ≤ 7 ∧ shedSource.toNat ≤ 4 ∧ polarity.toNat ≤ 1

section Fields
variable {lockout queueWait queueNotice offer close expelGrace holidayWeekday nd selector1 selector2 shedSource polarity : Byte}

/-- The decoding as one chain: the two selectors, the shed source, the polarity, then the values with a bound. -/
theorem paramsOf_bind :
    paramsOf lockout queueWait queueNotice offer close expelGrace holidayWeekday nd selector1 selector2 shedSource polarity =
      (finOf 8 selector1).bind fun a => (finOf 8 selector2).bind fun b => (shedSourceOf shedSource).bind fun w =>
        (flagOf polarity).bind fun p => keepIf
          (decide (1 ≤ lockout.toNat ∧ lockout.toNat ≤ 7) && decide (1 ≤ queueWait.toNat ∧ queueWait.toNat ≤ 60) &&
            decide (1 ≤ offer.toNat ∧ offer.toNat ≤ 60) && decide (1 ≤ close.toNat ∧ close.toNat ≤ 60) &&
            decide (1 ≤ expelGrace.toNat ∧ expelGrace.toNat ≤ 30) && decide (holidayWeekday.toNat ≤ 6) &&
            decide (1 ≤ nd.toNat ∧ nd.toNat ≤ 64))
          ⟨lockout.toNat, queueWait.toNat, queueNotice.toNat, offer.toNat, close.toNat, expelGrace.toNat,
            holidayWeekday.toNat, nd.toNat, a, b, w, p⟩ := rfl

theorem paramsOf_eq {x y : Fin 8} {w : Option (Fin 4)}
    (h : ParamFields lockout queueWait offer close expelGrace holidayWeekday nd selector1 selector2 shedSource polarity)
    (hx : finOf 8 selector1 = some x) (hy : finOf 8 selector2 = some y) (hw : shedSourceOf shedSource = some w) :
    paramsOf lockout queueWait queueNotice offer close expelGrace holidayWeekday nd selector1 selector2 shedSource polarity =
      some ⟨lockout.toNat, queueWait.toNat, queueNotice.toNat, offer.toNat, close.toNat, expelGrace.toNat,
        holidayWeekday.toNat, nd.toNat, x, y, w, decide (polarity = 1)⟩ := by
  obtain ⟨hlock, hlock', hwait, hwait', hoffer, hoffer', hclose, hclose', hgrace, hgrace', hday, hnd, hnd', -, -, -, hpol⟩ := h
  simp only [paramsOf_bind, hx, hy, hw, flagOf_some hpol, Option.bind_some, keepIf_eq_some, Bool.and_eq_true, decide_eq_true_eq,
    and_assoc, and_true]
  exact ⟨hlock, hlock', hwait, hwait', hoffer, hoffer', hclose, hclose', hgrace, hgrace', hday, hnd, hnd'⟩

/-- Whatever LOAD PARAMETERS takes for a table has all its values in range. -/
theorem paramFields_of_paramsOf {p : Params}
    (h : paramsOf lockout queueWait queueNotice offer close expelGrace holidayWeekday nd selector1 selector2 shedSource polarity =
      some p) :
    ParamFields lockout queueWait offer close expelGrace holidayWeekday nd selector1 selector2 shedSource polarity := by
  simp only [paramsOf_bind, Option.bind_eq_some_iff, keepIf_eq_some, Bool.and_eq_true, decide_eq_true_eq, and_assoc] at h
  obtain ⟨x, hx, y, hy, w, hw, f, hf, hlock, hlock', hwait, hwait', hoffer, hoffer', hclose, hclose', hgrace, hgrace', hday,
    hnd, hnd', -⟩ := h
  exact ⟨hlock, hlock', hwait, hwait', hoffer, hoffer', hclose, hclose', hgrace, hgrace', hday, hnd, hnd',
    Nat.le_of_lt_succ (finOf_eq_some hx), Nat.le_of_lt_succ (finOf_eq_some hy), exists_shedSourceOf_iff.mp ⟨w, hw⟩,
    (flagOf_eq_some hf).1⟩

theorem paramsOf_none
    (h : ¬ ParamFields lockout queueWait offer close expelGrace holidayWeekday nd selector1 selector2 shedSource polarity) :
    paramsOf lockout queueWait queueNotice offer close expelGrace holidayWeekday nd selector1 selector2 shedSource polarity = none :=
  Option.eq_none_iff_forall_ne_some.mpr fun _ hp => h (paramFields_of_paramsOf hp)

/-- With its values in range, LOAD PARAMETERS gives a table with the polarity asked for. -/
theorem exists_paramsOf
    (h : ParamFields lockout queueWait offer close expelGrace holidayWeekday nd selector1 selector2 shedSource polarity) :
    ∃ p, paramsOf lockout queueWait queueNotice offer close expelGrace holidayWeekday nd selector1 selector2 shedSource polarity =
      some p ∧ p.alertHigh = decide (polarity = 1) := by
  have ⟨_, _, _, _, _, _, _, _, _, _, _, _, _, hsel1, hsel2, hshed, _⟩ := h
  obtain ⟨w, hw⟩ := exists_shedSourceOf_iff.mpr hshed
  exact ⟨_, paramsOf_eq h (finOf_eq (k := ⟨selector1.toNat, Nat.lt_succ_of_le hsel1⟩) rfl)
    (finOf_eq (k := ⟨selector2.toNat, Nat.lt_succ_of_le hsel2⟩) rfl) hw, rfl⟩

theorem exec_loadParameters {s : State} (h : s.Ready) (tag : Byte) :
    exec (.loadParameters tag lockout queueWait queueNotice offer close expelGrace holidayWeekday nd selector1 selector2 shedSource
      polarity) s = .next (finish tag 0x42 (cmdLoadParameters
        (paramsOf lockout queueWait queueNotice offer close expelGrace holidayWeekday nd selector1 selector2 shedSource polarity) s)) :=
  command_ready tag 0x42 _ _ s h

end Fields

/-! ## LOAD PARAMETERS (R189) -/

/-- R189, R97, R101: the part with table `p`; a changed holiday weekday recomputes the day and evaluates the period. -/
def State.withParams (s : State) (p : Params) : State :=
  if p.holidayWeekday = s.params.holidayWeekday then { s with params := p }
  else reevaluate { s with params := p, cal := s.cal.withDay p.holidayWeekday }

section LoadParameters
variable {p : Params} {s : State}

theorem State.withParams_sameWeekday (h : p.holidayWeekday = s.params.holidayWeekday) : s.withParams p = { s with params := p } :=
  if_pos h

theorem State.withParams_newWeekday (h : p.holidayWeekday ≠ s.params.holidayWeekday) :
    s.withParams p = reevaluate { s with params := p, cal := s.cal.withDay p.holidayWeekday } :=
  if_neg h

@[simp] theorem State.withParams_params (s : State) (p : Params) : (s.withParams p).params = p := by
  unfold State.withParams
  split
  · rfl
  · simp only [reevaluate_frame]

@[simp] theorem State.withParams_watches (s : State) (p : Params) : (s.withParams p).watches = s.watches := by
  unfold State.withParams
  split
  · rfl
  · simp only [reevaluate_frame]

theorem cmdLoadParameters_none : cmdLoadParameters none s = (s, badValue) := rfl

theorem cmdLoadParameters_some : cmdLoadParameters (some p) s = (s.withParams p, done) := by
  simp only [cmdLoadParameters, recomputeDay_eq, State.withParams, ne_eq, decide_not, Bool.not_eq_true', decide_eq_false_iff_not,
    ite_not]

/-- R164: the pin has the level of the loaded polarity at once, and the reply leaves it there. -/
theorem State.withParams_alertPin_iff (tag code : Byte) (r : Result) (data : List Byte) :
    ((s.withParams p).replied tag code r data).alertPin = true ↔
      (p.alertHigh = true ↔ ∃ j : Fin 4, s.watches[j].enabled = true ∧ s.watches[j].event = true) := by
  have hparams : ((s.withParams p).replied tag code r data).params = p := State.withParams_params s p
  have hwatches : ((s.withParams p).replied tag code r data).watches = s.watches := State.withParams_watches s p
  rw [State.alertPin_iff, State.alert_iff, hparams, hwatches]

end LoadParameters

/-! ## READ PARAMETERS and READ COUNTERS (R189, R194) -/

theorem exec_readParameters {s : State} (h : s.Ready) (tag : Byte) :
    exec (.readParameters tag) s = .next (s.replied tag 0x84 .done (paramsData s.params)) :=
  command_ready tag 0x84 _ _ s h

theorem exec_readCounters {s : State} (h : s.Ready) (tag : Byte) :
    exec (.readCounters tag) s = .next ((s.updTrunk fun t => { t with counters := .zero }).replied tag 0x85 .done
      (counterData s.trunk.counters)) :=
  command_ready tag 0x85 _ _ s h

/-- Settles O46: LOAD PARAMETERS turns on whether its fields make a table, `State.withParams` says what a table changes, and both reads answer from the state as they find it. -/
theorem parametersAndCounters : Obligations.ParametersAndCounters := by
  intro s tag a b c d e f g h i j k m hr load ok
  refine ⟨fun hbad => ?refused, fun x hx y hy w hnone hsome hok => ?taken, fun hok => ?pin, ?read,
    exec_readCounters hr tag⟩
  case refused => rw [exec_loadParameters hr, paramsOf_none hbad, cmdLoadParameters_none, finish_badValue]
  case taken =>
    rw [exec_loadParameters hr, paramsOf_eq hok (finOf_eq hx) (finOf_eq hy) (shedSourceOf_eq hnone hsome),
      cmdLoadParameters_some, finish_done]
    intro s1
    exact ⟨fun hsame => by rw [State.withParams_sameWeekday hsame], fun hnew => by rw [State.withParams_newWeekday hnew]⟩
  case read =>
    rw [exec_readParameters hr, paramsData]
    cases s.params.shedSource with
    | none => rfl
    | some w => rfl
  case pin =>
    obtain ⟨q, hq, hpol⟩ := exists_paramsOf (queueNotice := c) hok
    refine ⟨(s.withParams q).replied tag 0x42 .done [], ?_, ?_⟩
    · rw [exec_loadParameters hr, hq, cmdLoadParameters_some, finish_done]
    · rw [State.withParams_alertPin_iff, hpol, decide_eq_true_eq]

end Sys2Proof.Machine
end

section
/-! What a step can do, said once. An effect is one operation of the machine in the state it finds; every command is a chain of effects, and a command block adds what the management unit does at its desk (R183 to R185). The properties that every step keeps follow from what each effect keeps. -/

namespace Sys2Proof.Machine

open Sys2Proof

/-! ## Effects -/

/-- One operation of the machine, with the circumstances in which it is taken; what it does to the replies and reservations is left to `Act`. -/
inductive Effect (s : State) : State → Prop
  | powerOn (w : Byte) : Effect s (powerOnValues w s)
  | released : Effect s { s with inReset := false, sample := s.after Config.second }
  | time (n : Nat) : Effect s { s with now := n }
  | ringLevel (l : Fin 32) (b : Bool) : Effect s (setRing l b s)
  | carrierLevel (l : Fin 32) (b : Bool) : Effect s (setCarrier l b s)
  | ring (l : Fin 32) : Effect s (ring l s)
  | carrierUp (l : Fin 32) : Effect s (carrierUp l s)
  | carrierDown (l : Fin 32) : Effect s (carrierDown l s)
  | dialogueChar (l : Fin 32) (c : Byte) (h : (s.line l).state = .signon) : Effect s (dialogueChar l c s)
  | received (l : Fin 32) (c : Byte) : Effect s (s.updLine l fun ln => ln.receive c)
  | activity (l : Fin 32) (k : Nat) : Effect s (activity l k s)
  | control (c : Fin 24) (k : ControlKind) : Effect s (handControl c k s)
  | sent (l : Fin 32) (c : Byte) (rest : List Byte) (h : (s.line l).tx = c :: rest) :
      Effect s (s.setLine l { s.line l with tx := rest, lastSent := some c })
  | flowGo (l : Fin 32) : Effect s (flowGo l s)
  | noticeTaken (l : Fin 32) (x : Option Sending) (rest : List Notice) (h : rest <:+ (s.line l).notices) :
      Effect s (s.setLine l { s.line l with sending := x, notices := rest })
  | prompt (l : Fin 32) (h : (s.line l).state = .signon) : Effect s (tryPrompt l s)
  | cleared (l : Fin 32) (h : (s.line l).state = .draining ∨ (s.line l).state = .answering) : Effect s (toClearing l s)
  | ringingStops (l : Fin 32) (st : LineState) (hst : st = .idle ∨ st = .blocked)
      (h : (s.line l).state = .idle ∨ (s.line l).state = .ringing) : Effect s (s.updLine l (stopRinging st))
  | callRefused (l : Fin 32) (m : Fin 24) : Effect s (refuseCall l m s)
  | carrierLost (l : Fin 32) : Effect s (loseCarrier l s)
  | callEnds (l : Fin 32) (h : (s.line l).state = .clearing) : Effect s (s.updLine l Line.endCall)
  | idleWarning (l : Fin 32) : Effect s ((notify l Config.mIdle (s.groupOf (s.line l)).idleClear s).updLine l fun ln =>
      { ln with idleWarned := true, timers := { ln.timers with idle := s.after ((s.groupOf (s.line l)).idleClear * Config.minute) } })
  | lookupCleared (l : Fin 32) : Effect s (clearLookup l s)
  | lookupDecided (l : Fin 32) (h : (s.line l).dialogue.lookup = .inFlight) :
      Effect s (decideLookup l (s.dir.find (s.line l).dialogue.code) (clearLookup l s))
  | granted (w : Waiter) (c : Fin 24) (r : Fin 64) (a : Admission) (h : s.grantable = some (w, c, r))
      (ha : (s.line w.line).admission = some a) : Effect s (grantTo w.line a c r s)
  | positionTold (l : Fin 32) (v : Int) (t : Timer) : Effect s (updWaiter l (fun w => { w with notice := t }) (notify l Config.mPosition v s))
  | waiterRemoved (l : Fin 32) (m : Option (Fin 24)) : Effect s (removeWaiter l m true s)
  | offerExpired (c : Fin 24) (h : (s.channel c).state = .offered) :
      Effect s (dropOpen c ((endOffer c (some Config.mHostRefused) true s).updChannel c fun x =>
        { x with state := .quarantined, row := none, timer := none }))
  | closeExpired (c : Fin 24) (h : (s.channel c).state = .closing) :
      Effect s (s.updChannel c fun x => { x with state := .quarantined, timer := none })
  | sessionClosed (c : Fin 24) (why : CloseReason) (h : why ≠ .carrierLost) : Effect s (closeSession c why s)
  | notified (l : Fin 32) (m : Fin 24) (v : Int) : Effect s (notify l m v s)
  | sticky (f : Sticky) : Effect s (s.updMgt fun m => { m with sticky := f })
  | service (v : Service) : Effect s (setService v s)
  | drainChecked : Effect s (drainEnd s)
  | calendar (f : Calendar → Calendar) (hweek : s.WeekdaysSound → (s.updCal f).WeekdaysSound)
      (hclass : s.ClassesSound → (s.updCal f).ClassesSound) : Effect s (s.updCal f)
  | boundary (p q : Fin 8) (c : Fin 24) : Effect s (meterBoundary p q c s)
  | periodReported (q : Fin 8) (c : Fin 24) : Effect s (meterPeriod q c s)
  | permitReported (k : Fin 8) (x : Permit) (c : Fin 24) : Effect s (meterPermit k x c s)
  | clockFlagged : Effect s (flagMeters s)
  | watches (v : Vector Watch 4) (t : Timer) : Effect s { s with watches := v, sample := t }
  | trunkState (up : Bool) (t : Timer) : Effect s (s.updTrunk fun x => { x with up := up, lossTimer := t })
  | counted (k : TrunkCounters) (h : s.CountersBounded → (s.updTrunk fun x => { x with counters := k }).CountersBounded) :
      Effect s (s.updTrunk fun x => { x with counters := k })
  | controlsEmptied : Effect s (emptyControls s)
  | channelLost (c : Fin 24) : Effect s (loseChannel c s)
  | dataPlaced (c : Fin 24) (cs : List Byte) : Effect s (takeData c cs s)
  | offerAccepted (c : Fin 24) (h : (s.channel c).state = .offered) : Effect s (acceptOffer c s)
  | offerRejected (c : Fin 24) (a : Byte) (h : (s.channel c).state = .offered) : Effect s (rejectOffer c a s)
  | closeConfirmed (c : Fin 24) (h : (s.channel c).state = .closing) : Effect s (confirmClose c s)
  | hostFlow (c : Fin 24) (f : Flow) : Effect s (s.updChannel c fun x => { x with hostFlow := f })
  | blockSent (h : s.trunk.counter < s.trunk.nd) : Effect s (sendBlock s)
  | serviceSent : Effect s (sendService s)
  | groups (v : Vector Group 4) : Effect s { s with groups := v }
  | message (m : Fin 24) (text : List Byte) : Effect s (setMessage m text s)
  | outOfService (l : Fin 32) (b : Bool) : Effect s (s.updLine l fun ln => { ln with outOfService := b })
  | lineReturned (l : Fin 32) (h : (s.line l).state = .blocked) : Effect s (s.updLine l fun ln => { ln with state := .idle })
  | countersCleared (l : Fin 32) : Effect s (s.updLine l fun ln => { ln with counters := .zero })
  | abandoned (l : Fin 32) (m : Option (Fin 24)) : Effect s (abandon l m s)
  | offerAbandoned (l : Fin 32) (c : Fin 24) (why : CloseReason) (m : Option (Fin 24)) (h : (s.line l).state = .offered)
      (hc : (s.line l).channel = some c) : Effect s (abandonOffer c why m true s)
  | stageTimed : Effect s (restartStage s)
  | staged (e : Staged) (h : s.dir.stage.state = .empty ∨ s.dir.stage.state = .staging ∧ s.dir.stage.page = some (pageOf e.index)) :
      Effect s (stageEntry e s)
  | stageEmptied (h : s.dir.stage.state = .staging) : Effect s (s.updStage fun _ => .powerOn)
  | expiryHeld (h : s.dir.stage.state = .committing) (ht : s.dir.stage.timer.isSome = true) :
      Effect s (s.updStage fun g => { g with timer := none, expired := true })
  | stageRestarted : Effect s (s.updStage Stage.restart)
  | unlocked (i : Fin 1024) : Effect s (s.updDir fun d => d.setShadow i.val .clear)
  | tariffs (f : Bool) : Effect s (setTariffs f s)
  | keyRead (k : Bool) : Effect s (readKey k s)
  | accountLoaded (a : Fin 256) (st : AccountState) (b : Int) (o : Nat) (w : Int) (l : Nat) (h : -(o : Int) ≤ b ∧ b ≤ 8388607) :
      Effect s (restoreIfAbove a (s.updAccount a fun x => (x.load st b o w l).rearm))
  | accountState (a : Fin 256) (st : AccountState) : Effect s (s.updAccount a fun x => { x with state := st })
  | accountCredited (a : Fin 256) (t : Int) (h : (s.account a).floor ≤ t) :
      Effect s (restoreIfAbove a (s.updAccount a fun x => { x with balance := credited t }.rearm))
  | parameters (p : Params) (h : p.holidayWeekday < 7 ∧ 1 ≤ p.nd ∧ p.nd ≤ 64) : Effect s { s with params := p }
  | channelPriority (c : Fin 24) (f : Bool) : Effect s (s.updChannel c fun x => { x with priorityOnly := f })
  | channelCleared (c : Fin 24) (h : (s.channel c).state = .quarantined) :
      Effect s (s.updChannel c fun x => { x with state := .free, line := none })
  | ticketReleased (r : Fin 64) (h : (s.row r).serial.isSome = true) : Effect s (releaseRow r s)
  | serviceClosed (why : CloseReason) (c : Fin 24) (h : why ≠ .carrierLost) : Effect s (serviceCloseChannel why c s)
  | callsRestarted : Effect s (freeAllChannels (serviceCloseAll .restart s))
  | trunkRestarted : Effect s (restartTrunk s)
  | linesRestarted : Effect s (restartLines s)
  | deskCleared : Effect s (restartManagement s)

/-- Effects one after another. -/
abbrev Effects : State → State → Prop := Relation.ReflTransGen Effect

theorem Effect.single {s t : State} (h : Effect s t) : Effects s t := .single h

/-- A fold of steps that are each a chain of effects is a chain of effects. -/
theorem foldl_effects {α : Type} (f : State → α → State) (h : ∀ s a, Effects s (f s a)) (l : List α) (s : State) :
    Effects s (l.foldl f s) :=
  foldl_invariant (Effects s) f (fun b a hb => hb.trans (h b a)) l s .refl

/-- What every effect keeps, a chain of effects keeps. -/
theorem Effects.keeps {P : State → Prop} (h : ∀ s t, Effect s t → P s → P t) {s t : State} (ht : Effects s t) (hs : P s) : P t := by
  induction ht with
  | refl => exact hs
  | tail _ hlast ih => exact h _ _ hlast ih

/-! ## Operations that are chains of effects -/

theorem closeRequest_effects (c : Fin 24) (l : Fin 32) {why : CloseReason} (h : why ≠ .carrierLost) (s : State) :
    Effects s (closeRequest c l why s) := by
  unfold closeRequest
  split
  · split
    · exact (Effect.sessionClosed c why h).single
    · exact .refl
  · exact .refl

theorem idleExpired_effects (l : Fin 32) (s : State) : Effects s (idleExpired l s) := by
  unfold idleExpired
  dsimp only
  split
  · split
    · exact closeRequest_effects _ l (by decide) s
    · exact .refl
  · convert (Effect.idleWarning l (s := s)).single using 1
    simp only [notify, State.updLine_eq, State.setLine_line_same, State.setLine_setLine, State.groupOf, Line.request_group]

/-- R22, R181: a counter stays at 65535. -/
theorem raise_le {n : Nat} (h : n ≤ 65535) : raise n ≤ 65535 := by
  unfold raise Config.counterLimit
  split <;> omega

theorem protocolError_effects (s : State) : Effects s (protocolError s) := by
  refine .tail (Effect.counted _ fun h => ?_).single (Effect.sticky { s.mgt.sticky with warning := true })
  obtain ⟨hcrc, hkind, hprotocol, hdiscarded⟩ := h
  exact ⟨hcrc, hkind, raise_le hprotocol, hdiscarded⟩

theorem discardCommand_effects (s : State) : Effects s (discardCommand s) := by
  refine .tail (Effect.counted _ fun h => ?_).single (Effect.sticky { s.mgt.sticky with overflow := true })
  obtain ⟨hcrc, hkind, hprotocol, hdiscarded⟩ := h
  exact ⟨hcrc, hkind, hprotocol, raise_le hdiscarded⟩

theorem countCrc_effects (s : State) : Effects s (countCrc s) := by
  refine (Effect.counted _ fun h => ?_).single
  obtain ⟨hcrc, hkind, hprotocol, hdiscarded⟩ := h
  exact ⟨raise_le hcrc, hkind, hprotocol, hdiscarded⟩

theorem countKind_effects (s : State) : Effects s (countKind s) := by
  refine (Effect.counted _ fun h => ?_).single
  obtain ⟨hcrc, hkind, hprotocol, hdiscarded⟩ := h
  exact ⟨hcrc, raise_le hkind, hprotocol, hdiscarded⟩

theorem trunkAlive_effects (s : State) : Effects s (trunkAlive s) := by
  have halive := (Effect.trunkState true (s.after Config.trunkLoss) (s := s)).single
  unfold trunkAlive
  dsimp only
  split
  · exact halive
  · exact halive.tail (Effect.sticky { s.mgt.sticky with restarted := true })

/-! ### Downward segments -/

theorem deliver_effects (d : Delivery) (s : State) : Effects s (deliver d s) := by
  cases d with
  | data c cs => exact (Effect.dataPlaced c cs).single
  | accept c =>
    simp only [deliver, takeAccept]
    split
    · next h => exact (Effect.offerAccepted c h).single
    · exact .refl
    all_goals exact protocolError_effects s
  | reject c a =>
    simp only [deliver, takeReject]
    split
    · next h => exact (Effect.offerRejected c a h).single
    · exact .refl
    all_goals exact protocolError_effects s
  | close c =>
    simp only [deliver, takeClose]
    split
    · next h => exact (Effect.offerRejected c 0 h).single
    · unfold hostClose
      split
      · exact closeRequest_effects c _ (by decide) s
      · exact .refl
    · next h => exact (Effect.closeConfirmed c h).single
    all_goals exact protocolError_effects s
  | closed c =>
    simp only [deliver, takeClosed]
    split
    · next h => exact (Effect.closeConfirmed c h).single
    all_goals exact protocolError_effects s
  | flow c f =>
    simp only [deliver, takeFlow]
    split
    · exact (Effect.hostFlow c f).single
    · exact .refl
    all_goals exact protocolError_effects s

theorem takeTraffic_effects (pay : List Byte) (s : State) : Effects s (takeTraffic pay s) := by
  have hall := foldl_effects (fun s d => deliver d s) (fun s d => deliver_effects d s) (parseSegments Config.payload pay).1 s
  unfold takeTraffic
  dsimp only
  split
  · exact hall.trans (protocolError_effects _)
  · exact hall

/-! ### The calendar -/

theorem dropClass_effects (k : Fin 8) (s : State) : Effects s (dropClass k s) := by
  refine foldl_effects _ (fun s w => ?_) s.queue s
  split
  · split
    · exact (Effect.waiterRemoved w.line _).single
    · exact .refl
  · exact .refl

theorem permitReport_effects (k : Fin 8) (x : Permit) (s : State) : Effects s (permitReport k x s) := by
  have hwaiters : Effects s (permitWaiters k x s) := by
    cases x with
    | opened => exact .refl
    | closed | expel => exact dropClass_effects k s
  exact hwaiters.trans (foldl_effects _ (fun s c => (Effect.permitReported k x c).single) allChannels _)

theorem permitReports_effects (old : Fin 8) (s : State) : Effects s (permitReports old s) := by
  refine foldl_effects _ (fun s k => ?_) allClasses s
  split
  · exact .refl
  · exact permitReport_effects k _ s

theorem Effect.settled (s : State) : Effect s (s.updCal Calendar.settle) := .calendar _ id id

theorem reevaluate_effects (s : State) : Effects s (reevaluate s) := by
  have hsettled := (Effect.settled s).single
  unfold reevaluate
  dsimp only
  split
  · exact hsettled
  · exact hsettled.trans ((foldl_effects _ (fun s c => (Effect.periodReported _ c).single) allChannels _).trans
      (permitReports_effects _ _))

theorem Effect.dayRecomputed (s : State) : Effect s (recomputeDay s) := by
  refine .calendar _ (fun ⟨hclock, _, hholiday⟩ => ⟨hclock, ?_, hholiday⟩) id
  simp only [State.updCal_cal, Calendar.recomputeDay]
  split
  · split
    exacts [hholiday, hclock]
  · decide

theorem Clock.advance_weekday {k : Clock} (h : k.weekday < 7) : k.advance.1.weekday < 7 := by
  have hnext : ∀ k : Clock, k.nextDay.weekday < 7 := fun k => by
    unfold Clock.nextDay
    dsimp only
    repeat' split
    all_goals exact Nat.mod_lt _ (by decide)
  unfold Clock.advance
  repeat' split
  exacts [h, h, h, hnext _]

theorem advanceClock_effects (s : State) : Effects s (advanceClock s) := by
  have hclock : Effects s (s.updCal fun c => { c with clock := s.cal.clock.advance.1 }) :=
    (Effect.calendar _ (fun ⟨hw, hd, hh⟩ => ⟨Clock.advance_weekday hw, hd, hh⟩) id).single
  have hday : Effects s (if s.cal.clock.advance.2.2 then
      recomputeDay (s.updCal fun c => { c with clock := s.cal.clock.advance.1 }) else s.updCal fun c => { c with clock := s.cal.clock.advance.1 }) := by
    split
    · exact hclock.tail (Effect.dayRecomputed _)
    · exact hclock
  unfold advanceClock
  dsimp only
  split
  · exact hday.tail (Effect.settled _)
  · exact hday

theorem secondBoundary_effects (order : List (Fin 24)) (s : State) : Effects s (secondBoundary order s) := by
  have hmeters := (advanceClock_effects s).trans
    (foldl_effects (fun t c => meterBoundary s.cal.period t.cal.period c t) (fun t c => (Effect.boundary _ _ c).single)
      (meterOrder order) (advanceClock s))
  unfold secondBoundary
  dsimp only
  split
  · exact hmeters
  · exact hmeters.trans (permitReports_effects _ _)

theorem setClock_effects {k : Clock} (h : k.weekday < 7) (s : State) : Effects s (setClock k s) := by
  have hclock : Effect s (s.updCal fun c => { c with clock := k, valid := true, boundary := s.after Config.second }) :=
    .calendar _ (fun ⟨_, hd, hh⟩ => ⟨h, hd, hh⟩) id
  exact ((hclock.single.tail (Effect.dayRecomputed _)).tail Effect.clockFlagged).trans (reevaluate_effects _)

theorem loadPermit_effects (p k : Fin 8) (x : Permit) (s : State) : Effects s (loadPermit p k x s) := by
  have hput : Effects s (s.updCal fun c => { c with permits := c.permits.set p (c.permits[p].set k x) }) :=
    (Effect.calendar _ id id).single
  unfold loadPermit
  dsimp only
  split
  · exact hput.trans (permitReport_effects k x _)
  · exact hput

/-! ### Teardown -/

theorem abandonAll_effects (m : Fin 24) (s : State) : Effects s (abandonAll m s) :=
  foldl_effects _ (fun _ l => (Effect.abandoned l _).single) allLines s

theorem removeAllWaiters_effects (m : Fin 24) (s : State) : Effects s (removeAllWaiters m s) :=
  foldl_effects (fun s (w : Waiter) => removeWaiter w.line (some m) true s) (fun _ w => (Effect.waiterRemoved w.line _).single) s.queue s

theorem callsDismissed_effects (m : Fin 24) (s : State) :
    Effects s (removeAllWaiters m (abandonAll m (setService .closed s))) :=
  ((Effect.service .closed).single.trans (abandonAll_effects m _)).trans (removeAllWaiters_effects m _)

theorem serviceCloseAll_effects {why : CloseReason} (h : why ≠ .carrierLost) (s : State) : Effects s (serviceCloseAll why s) :=
  foldl_effects (fun s c => serviceCloseChannel why c s) (fun _ c => (Effect.serviceClosed why c h).single) allChannels s

theorem teardown_effects {why : CloseReason} (h : why ≠ .carrierLost) (s : State) : Effects s (teardown why s) :=
  (callsDismissed_effects _ s).trans (serviceCloseAll_effects h _)

theorem deskRestarted_effects (s : State) :
    Effects s (restartManagement (restartLines ((restartTrunk s).updStage Stage.restart))) := by
  have htrunk : Effects s (restartTrunk s) := .single .trunkRestarted
  have hstage : Effects s ((restartTrunk s).updStage Stage.restart) := .tail htrunk .stageRestarted
  have hlines : Effects s (restartLines ((restartTrunk s).updStage Stage.restart)) := .tail hstage .linesRestarted
  exact hlines.tail .deskCleared

theorem cmdRestart_eq (s : State) : cmdRestart s =
    (restartManagement (restartLines ((restartTrunk (freeAllChannels (teardown .restart s))).updStage Stage.restart)), done) := rfl

theorem callsRestarted_effects (s : State) : Effects s (freeAllChannels (teardown .restart s)) :=
  (callsDismissed_effects Config.mClosing s).trans Effect.callsRestarted.single

theorem cmdRestart_effects (s : State) : Effects s (cmdRestart s).1 := by
  rw [cmdRestart_eq]
  exact (callsRestarted_effects s).trans (deskRestarted_effects _)

theorem emptiedTrunk_effects (s : State) :
    Effects s (emptyControls (loseChannels (removeAllWaiters Config.mDown (abandonAll Config.mDown (trunkDown s))))) := by
  have hdown : Effects s (s.updTrunk fun t => { t with up := false, lossTimer := none }) := (Effect.trunkState false none).single
  have hcalls : Effects s (removeAllWaiters Config.mDown (abandonAll Config.mDown (trunkDown s))) :=
    hdown.trans (callsDismissed_effects Config.mDown _)
  have hchannels : ∀ t, Effects t (loseChannels t) := foldl_effects _ (fun _ c => (Effect.channelLost c).single) allChannels
  exact (hcalls.trans (hchannels _)).tail .controlsEmptied

/-! ## What the owner of a command does -/

/-- A write to the nonvolatile store begins: a page commit (R57), or a protection write (R61, R64). -/
inductive WriteBegins (s : State) : State → Prop
  | page (h : s.dir.stage.state = .staging) : WriteBegins s (beginCommit s)
  | protection (w : Write) (h : s.dir.stage.state ≠ .committing) (hw : w ≠ .none) (hp : w ≠ .page) : WriteBegins s (beginProtection w s)

/-- What the owner of a command leaves and answers: effects and a reply, a write that begins, or a command that runs on in the next block (R184). -/
inductive Owned (s : State) : State × Answer → Prop
  | answered {t : State} (h : Effects s t) (r : Result) (data : List Byte) : Owned s (t, .reply r data)
  | writing {t u : State} (h : Effects s t) (hw : WriteBegins t u) : Owned s (u, .writing)
  | partly (n : Nat) (bytes : List Byte) (h : 59 ≤ n ∧ n ≤ 116) (hb : bytes.length = 58) : Owned s (s, .partly n bytes)

theorem Owned.refused (s : State) (r : Result) (data : List Byte) : Owned s (s, .reply r data) := .answered .refl r data

theorem Effect.owned {s t : State} (h : Effect s t) (r : Result) (data : List Byte) : Owned s (t, .reply r data) :=
  .answered h.single r data

/-! ### Lines and messages -/

theorem cmdLoadGroup_owned (group : Byte) (g : Option Group) (s : State) : Owned s (cmdLoadGroup group g s) := by
  unfold cmdLoadGroup
  split
  · exact (Effect.groups _).owned _ _
  · exact .refused s _ _

theorem cmdLoadMessage_owned (params : List Byte) (s : State) : Owned s (cmdLoadMessage params s) := by
  unfold cmdLoadMessage
  repeat' split
  · exact (Effect.message _ _).owned _ _
  all_goals exact .refused s _ _

theorem cmdBroadcast_owned (params : List Byte) (s : State) : Owned s (cmdBroadcast params s) := by
  unfold cmdBroadcast
  repeat' split
  · next text _ =>
    refine .answered (.head (.message Config.mBroadcast text) ?_) _ _
    exact foldl_effects _ (fun s l => (Effect.notified l _ _).single) _ _
  all_goals exact .refused s _ _

theorem cmdLineOutOfService_owned (line : Byte) (s : State) : Owned s (cmdLineOutOfService line s) := by
  unfold cmdLineOutOfService
  split
  · exact .refused s _ _
  · split
    · next h => exact (Effect.ringingStops _ .blocked (.inr rfl) (.inl h)).owned _ _
    · next h => exact (Effect.ringingStops _ .blocked (.inr rfl) (.inr h)).owned _ _
    · exact .refused s _ _
    all_goals exact (Effect.outOfService _ true).owned _ _

theorem cmdLineReturn_owned (line : Byte) (s : State) : Owned s (cmdLineReturn line s) := by
  unfold cmdLineReturn
  split
  · exact .refused s _ _
  · split
    · next h => exact (Effect.lineReturned _ h).owned _ _
    · split
      · exact (Effect.outOfService _ false).owned _ _
      · exact .refused s _ _

theorem cmdForceClear_owned (line : Byte) (s : State) : Owned s (cmdForceClear line s) := by
  unfold cmdForceClear
  split
  · exact .refused s _ _
  next l _ =>
    split
    · exact (Effect.abandoned l none).owned _ _
    · exact (Effect.abandoned l none).owned _ _
    · exact (Effect.waiterRemoved l none).owned _ _
    · next h =>
      split
      · next c hc => exact (Effect.offerAbandoned l c .operator none h hc).owned _ _
      · exact .refused s _ _
    · split
      · exact .answered (closeRequest_effects _ l (by decide) s) _ _
      · exact .refused s _ _
    all_goals exact .refused s _ _

theorem cmdReadLine_owned (line : Byte) (ring : Fin 32 → Bool) (s : State) : Owned s (cmdReadLine line ring s) := by
  unfold cmdReadLine
  split
  · exact .refused s _ _
  · next l _ => exact .answered ((Effect.ringLevel l (ring l)).single.tail (.countersCleared l)) _ _

/-! ### Directory -/

theorem stageTimed_effects (s : State) : Effects s (restartStage s) := Effect.stageTimed.single

theorem takeStaged_owned (e : Staged) (s : State) : Owned s (takeStaged e s) := by
  unfold takeStaged
  split
  · exact .refused s _ _
  next hc =>
    split
    · exact .refused s _ _
    split
    · exact .refused s _ _
    next hp =>
      refine (Effect.staged e ?_).owned _ _
      cases hst : s.dir.stage.state with
      | empty => exact .inl rfl
      | staging => exact .inr ⟨rfl, by_contra fun h => hp ⟨hst, h⟩⟩
      | committing => exact absurd hst hc

theorem Owned.after {s t : State} {r : State × Answer} (h : Effects s t) (hr : Owned t r) (hp : ∀ n bs, r.2 ≠ .partly n bs) : Owned s r := by
  cases hr with
  | answered ht r data => exact .answered (h.trans ht) r data
  | writing ht hw => exact .writing (h.trans ht) hw
  | partly n bytes => exact absurd rfl (hp n bytes)

theorem cmdStageEntry_owned (e : Option Staged) (s : State) : Owned s (cmdStageEntry e s) := by
  cases e with
  | none => exact .answered (stageTimed_effects s) _ _
  | some e =>
    refine (takeStaged_owned e (restartStage s)).after (stageTimed_effects s) fun n bs => ?_
    simp only [cmdStageEntry, takeStaged, busy, isProtected, badState]
    repeat' split
    all_goals simp

theorem takeCommit_owned (s : State) : Owned s (takeCommit s) := by
  unfold takeCommit
  cases h : s.dir.stage.state with
  | committing => exact .refused s _ _
  | empty => exact .refused s _ _
  | staging =>
    dsimp only
    split
    · exact .refused s _ _
    split
    · exact .refused s _ _
    · exact .writing .refl (.page h)

theorem cmdCommitPage_owned (s : State) : Owned s (cmdCommitPage s) := by
  refine (takeCommit_owned (restartStage s)).after (stageTimed_effects s) fun n bs => ?_
  simp only [cmdCommitPage, takeCommit, busy, isProtected, badState]
  repeat' split
  all_goals simp

theorem cmdDiscardStage_owned (s : State) : Owned s (cmdDiscardStage s) := by
  unfold cmdDiscardStage
  split
  · exact .refused s _ _
  · next h => exact (Effect.stageEmptied h).owned _ _
  · exact .refused s _ _

theorem cmdReadEntry_owned (index : Half) (s : State) : Owned s (cmdReadEntry index s) := by
  unfold cmdReadEntry
  repeat' split
  all_goals exact .refused s _ _

theorem cmdFindUser_owned (code : List Byte) (s : State) : Owned s (cmdFindUser code s) := by
  unfold cmdFindUser
  repeat' split
  all_goals exact .refused s _ _

theorem cmdUnlockUser_owned (index : Half) (s : State) : Owned s (cmdUnlockUser index s) := by
  unfold cmdUnlockUser
  split
  · exact .refused s _ _
  · next i _ =>
    split
    · exact .refused s _ _
    · exact (Effect.unlocked i).owned _ _

theorem cmdProtectBlock_owned (block : Byte) (s : State) : Owned s (cmdProtectBlock block s) := by
  unfold cmdProtectBlock
  split
  · exact .refused s _ _
  · split
    · exact .refused s _ _
    next h =>
      split
      · exact .refused s _ _
      · exact .writing .refl (.protection _ h (by simp) (by simp))

theorem cmdProtectTariffs_owned (s : State) : Owned s (cmdProtectTariffs s) := (Effect.tariffs true).owned _ _

theorem cmdUnprotectAll_owned (key : Bool) (s : State) : Owned s (cmdUnprotectAll key s) := by
  have hkey := (Effect.keyRead key (s := s)).single
  unfold cmdUnprotectAll takeUnprotect
  split
  · exact .answered hkey _ _
  split
  · exact .answered hkey _ _
  next h =>
    split
    · exact .answered (hkey.tail (.tariffs false)) _ _
    · exact .writing (hkey.tail (.tariffs false)) (.protection .unprotectAll h (by simp) (by simp))

theorem cmdReadProtection_owned (key : Bool) (s : State) : Owned s (cmdReadProtection key s) := by
  unfold cmdReadProtection
  split
  all_goals exact (Effect.keyRead key).owned _ _

/-! ### Accounts -/

theorem cmdSetAccount_owned (a : Fin 256) (state : Byte) {b : Int} (o : Nat) (w : Int) (l : Nat) (hb : b ≤ 8388607) (s : State) :
    Owned s (cmdSetAccount a state b o w l s) := by
  unfold cmdSetAccount
  split
  · exact .refused s _ _
  next st _ =>
    split
    · next h => exact (Effect.accountLoaded a st b o w l ⟨h.2.2, hb⟩).owned _ _
    · exact .refused s _ _

theorem cmdSetAccountState_owned (a : Fin 256) (state : Byte) (s : State) : Owned s (cmdSetAccountState a state s) := by
  unfold cmdSetAccountState
  split
  · exact .refused s _ _
  · exact (Effect.accountState a _).owned _ _

theorem cmdCreditAccount_owned (a : Fin 256) (amount : Int) (s : State) : Owned s (cmdCreditAccount a amount s) := by
  unfold cmdCreditAccount
  dsimp only
  split
  · exact .refused s _ _
  · next h => exact (Effect.accountCredited a _ (Int.not_lt.mp h)).owned _ _

/-! ### Calendar and parameters -/

theorem cmdSetClock_owned (k : Clock) (s : State) : Owned s (cmdSetClock k s) := by
  unfold cmdSetClock
  split
  · next h =>
    have hweek : k.weekday ≤ 6 := by
      simp only [Clock.acceptable, Bool.and_eq_true, decide_eq_true_eq] at h
      omega
    exact .answered (setClock_effects (by omega) s) _ _
  · exact .refused s _ _

theorem tariffLoad_owned {load : Option (State → State)} (h : ∀ f, load = some f → ∀ s, Effects s (f s)) (s : State) :
    Owned s (tariffLoad load s) := by
  unfold tariffLoad
  split
  · exact .refused s _ _
  split
  · next f => exact .answered (h f rfl s) _ _
  · exact .refused s _ _

theorem cmdLoadHoliday_owned (entry month day : Byte) (s : State) : Owned s (cmdLoadHoliday entry month day s) := by
  refine tariffLoad_owned (fun f hf s => ?_) s
  simp only [Option.bind_eq_bind, Option.bind_eq_some_iff, Option.pure_def, Option.some.injEq] at hf
  obtain ⟨e, -, h, -, rfl⟩ := hf
  exact ((Effect.calendar _ id id).single.tail (.dayRecomputed _)).trans (reevaluate_effects _)

theorem cmdLoadSchedule_owned (entry enabled weekdays hour minute period : Byte) (s : State) :
    Owned s (cmdLoadSchedule entry enabled weekdays hour minute period s) := by
  refine tariffLoad_owned (fun f hf s => ?_) s
  simp only [Option.bind_eq_bind, Option.bind_eq_some_iff, Option.pure_def, Option.some.injEq] at hf
  obtain ⟨e, -, x, -, rfl⟩ := hf
  exact (Effect.calendar _ id id).single.trans (reevaluate_effects _)

theorem cmdLoadDaystart_owned (weekday period : Byte) (s : State) : Owned s (cmdLoadDaystart weekday period s) := by
  refine tariffLoad_owned (fun f hf s => ?_) s
  simp only [Option.bind_eq_bind, Option.bind_eq_some_iff, Option.pure_def, Option.some.injEq] at hf
  obtain ⟨w, -, p, -, rfl⟩ := hf
  exact (Effect.calendar _ id id).single.trans (reevaluate_effects _)

theorem cmdLoadRate_owned (period cls : Byte) (rate : Half) (s : State) : Owned s (cmdLoadRate period cls rate s) := by
  refine tariffLoad_owned (fun f hf s => ?_) s
  simp only [Option.bind_eq_bind, Option.bind_eq_some_iff, Option.pure_def, Option.some.injEq] at hf
  obtain ⟨p, -, k, -, rfl⟩ := hf
  exact (Effect.calendar _ id id).single

theorem cmdLoadPermit_owned (period cls permit : Byte) (s : State) : Owned s (cmdLoadPermit period cls permit s) := by
  refine tariffLoad_owned (fun f hf s => ?_) s
  simp only [Option.bind_eq_bind, Option.bind_eq_some_iff, Option.pure_def, Option.some.injEq] at hf
  obtain ⟨p, -, k, -, x, -, rfl⟩ := hf
  exact loadPermit_effects p k x s

/-- R106: a class that LOAD CLASS takes has a maximum session of at least a minute. -/
theorem one_le_maximum_of_classOf {setup : Byte} {maximum : Half} {grace priority essential : Byte} {x : ClassRecord}
    (h : classOf setup maximum grace priority essential = some x) : 1 ≤ x.maximum := by
  simp only [classOf, Option.bind_eq_bind, Option.bind_eq_some_iff, keepIf_eq_some, decide_eq_true_eq] at h
  obtain ⟨p, -, e, -, ⟨hmax, -⟩, rfl⟩ := h
  exact hmax

theorem State.ClassesSound.set {s : State} (h : s.ClassesSound) (k : Fin 8) {x : ClassRecord} (hx : 1 ≤ x.maximum) :
    (s.updCal fun c => { c with classes := c.classes.set k x }).ClassesSound := by
  intro j
  by_cases hj : k = j
  · subst hj
    simpa using hx
  · have hval : k.val ≠ j.val := fun e => hj (Fin.ext e)
    simpa [hval] using h j

theorem cmdLoadClass_owned (cls setup : Byte) (maximum : Half) (grace priority essential : Byte) (s : State) :
    Owned s (cmdLoadClass cls setup maximum grace priority essential s) := by
  refine tariffLoad_owned (fun f hf s => ?_) s
  simp only [Option.bind_eq_bind, Option.bind_eq_some_iff, Option.pure_def, Option.some.injEq] at hf
  obtain ⟨k, -, x, hx, rfl⟩ := hf
  exact (Effect.calendar _ id fun h => h.set k (one_le_maximum_of_classOf hx)).single

theorem cmdReadHoliday_owned (entry : Byte) (s : State) : Owned s (cmdReadHoliday entry s) := by
  unfold cmdReadHoliday
  repeat' split
  all_goals exact .refused s _ _

theorem cmdReadSchedule_owned (entry : Byte) (s : State) : Owned s (cmdReadSchedule entry s) := by
  unfold cmdReadSchedule
  split
  all_goals exact .refused s _ _

theorem cmdReadRate_owned (period : Byte) (s : State) : Owned s (cmdReadRate period s) := by
  unfold cmdReadRate
  split
  all_goals exact .refused s _ _

theorem cmdReadPermit_owned (period : Byte) (s : State) : Owned s (cmdReadPermit period s) := by
  unfold cmdReadPermit
  split
  all_goals exact .refused s _ _

theorem cmdReadClass_owned (cls : Byte) (s : State) : Owned s (cmdReadClass cls s) := by
  unfold cmdReadClass
  split
  all_goals exact .refused s _ _

theorem cmdLoadParameters_owned {p : Option Params} (h : ∀ x, p = some x → x.holidayWeekday < 7 ∧ 1 ≤ x.nd ∧ x.nd ≤ 64) (s : State) :
    Owned s (cmdLoadParameters p s) := by
  cases p with
  | none => exact .refused s _ _
  | some x =>
    have hload := (Effect.parameters x (h x rfl) (s := s)).single
    unfold cmdLoadParameters
    dsimp only
    refine .answered ?_ _ _
    split
    · exact (hload.tail (.dayRecomputed _)).trans (reevaluate_effects _)
    · exact hload

theorem paramsOf_ranges {a b c d e f g h i j k m : Byte} {x : Params} (hx : paramsOf a b c d e f g h i j k m = some x) :
    x.holidayWeekday < 7 ∧ 1 ≤ x.nd ∧ x.nd ≤ 64 := by
  simp only [paramsOf, Option.bind_eq_bind, Option.bind_eq_some_iff, keepIf_eq_some, Bool.and_eq_true, decide_eq_true_eq] at hx
  obtain ⟨_, -, _, -, _, -, _, -, ⟨⟨-, hweekday⟩, hnd⟩, rfl⟩ := hx
  exact ⟨Nat.lt_succ_of_le hweekday, hnd⟩

/-! ### Channels, tickets, watches, service -/

theorem cmdSetChannelPriority_owned (channel flag : Byte) (s : State) : Owned s (cmdSetChannelPriority channel flag s) := by
  unfold cmdSetChannelPriority
  split
  · exact (Effect.channelPriority _ _).owned _ _
  · exact .refused s _ _

theorem cmdClearChannel_owned (channel : Byte) (s : State) : Owned s (cmdClearChannel channel s) := by
  unfold cmdClearChannel
  split
  · split
    · next h => exact (Effect.channelCleared _ h).owned _ _
    · exact .refused s _ _
  · exact .refused s _ _

theorem cmdReadChannel_owned (channel : Byte) (s : State) : Owned s (cmdReadChannel channel s) := by
  unfold cmdReadChannel
  split
  all_goals exact .refused s _ _

theorem cmdFetchTicket_owned (s : State) : Owned s (cmdFetchTicket s) := by
  unfold cmdFetchTicket
  split
  all_goals exact .refused s _ _

theorem cmdReleaseTicket_owned (serial : Half) (s : State) : Owned s (cmdReleaseTicket serial s) := by
  unfold cmdReleaseTicket
  split
  · exact .refused s _ _
  split
  · next r hfound => exact (Effect.ticketReleased r (by rw [State.serial_of_rowOfSerial hfound]; rfl)).owned _ _
  · exact .refused s _ _

theorem Effect.watchSet (k : Fin 4) (w : Watch) (s : State) : Effect s (setWatch k w s) := .watches _ s.sample

theorem cmdLoadWatch_owned (watch enabled mode upper lower critical hysteresis : Byte) (s : State) :
    Owned s (cmdLoadWatch watch enabled mode upper lower critical hysteresis s) := by
  unfold cmdLoadWatch
  repeat' split
  · exact (Effect.watchSet _ _ s).owned _ _
  all_goals exact .refused s _ _

theorem cmdReadWatch_owned (watch : Byte) (s : State) : Owned s (cmdReadWatch watch s) := by
  unfold cmdReadWatch
  split
  all_goals exact .refused s _ _

theorem cmdAckAlert_owned (watch : Byte) (s : State) : Owned s (cmdAckAlert watch s) := by
  unfold cmdAckAlert
  split
  · exact (Effect.watchSet _ _ s).owned _ _
  · exact .refused s _ _

theorem cmdOpenService_owned (s : State) : Owned s (cmdOpenService s) := by
  unfold cmdOpenService
  split
  · exact (Effect.service .opened).owned _ _
  · exact .refused s _ _

theorem cmdDrainService_owned (s : State) : Owned s (cmdDrainService s) := by
  unfold cmdDrainService
  split
  · exact .answered ((Effect.service .draining).single.tail .drainChecked) _ _
  all_goals exact .refused s _ _

theorem cmdCloseService_owned (s : State) : Owned s (cmdCloseService s) := .answered (teardown_effects (by decide) s) _ _

theorem cmdRestart_owned (s : State) : Owned s (cmdRestart s) := .answered (cmdRestart_effects s) _ _

theorem cmdReadCounters_owned (s : State) : Owned s (cmdReadCounters s) :=
  (Effect.counted .zero fun _ => ⟨Nat.zero_le _, Nat.zero_le _, Nat.zero_le _, Nat.zero_le _⟩).owned _ _

/-! ### A command by its code (R183, R200) -/

theorem fixed_owned (n : Nat) (q : List Byte) {f : (Nat → Byte) → State → State × Answer} (h : ∀ p s, Owned s (f p s)) (s : State) :
    Owned s (fixed n q f s) := by
  unfold fixed
  split
  · exact h _ s
  · exact .refused s _ _

theorem runLine_owned (lv : InputLevels) (code : Byte) (q : List Byte) (s : State) : Owned s (runLine lv code q s) := by
  unfold runLine
  repeat' split
  · exact fixed_owned _ q (fun _ => cmdLoadGroup_owned _ _) s
  · exact cmdLoadMessage_owned q s
  · exact cmdBroadcast_owned q s
  · exact fixed_owned _ q (fun _ => cmdLineOutOfService_owned _) s
  · exact fixed_owned _ q (fun _ => cmdLineReturn_owned _) s
  · exact fixed_owned _ q (fun _ => cmdForceClear_owned _) s
  · exact fixed_owned _ q (fun _ => cmdReadLine_owned _ _) s

theorem runDirectory_owned (lv : InputLevels) (code : Byte) (q : List Byte) (s : State) : Owned s (runDirectory lv code q s) := by
  unfold runDirectory
  repeat' split
  · exact fixed_owned _ q (fun _ => cmdStageEntry_owned _) s
  · exact fixed_owned _ q (fun _ => cmdCommitPage_owned) s
  · exact fixed_owned _ q (fun _ => cmdDiscardStage_owned) s
  · exact fixed_owned _ q (fun _ => cmdReadEntry_owned _) s
  · exact fixed_owned _ q (fun _ => cmdFindUser_owned _) s
  · exact fixed_owned _ q (fun _ => cmdUnlockUser_owned _) s
  · exact fixed_owned _ q (fun _ => cmdProtectBlock_owned _) s
  · exact fixed_owned _ q (fun _ => cmdProtectTariffs_owned) s
  · exact fixed_owned _ q (fun _ => cmdUnprotectAll_owned _) s
  · exact fixed_owned _ q (fun _ => cmdReadProtection_owned _) s

/-- R196: a balance of three bytes is at most 8,388,607. -/
theorem triple_toInt_le (t : Triple) : t.toInt ≤ 8388607 := by
  have h := BitVec.toInt_lt (x := t)
  norm_num at h
  omega

theorem runAccount_owned (code : Byte) (q : List Byte) (s : State) : Owned s (runAccount code q s) := by
  unfold runAccount
  repeat' split
  · exact fixed_owned _ q (fun _ => cmdSetAccount_owned _ _ _ _ _ (triple_toInt_le _)) s
  · exact fixed_owned _ q (fun _ => cmdSetAccountState_owned _ _) s
  · exact fixed_owned _ q (fun _ => cmdCreditAccount_owned _ _) s
  · exact fixed_owned _ q (fun _ s => .refused s _ _) s

theorem ite_owned {p : Prop} [Decidable p] {f g : State → State × Answer} {s : State} (hf : Owned s (f s)) (hg : Owned s (g s)) :
    Owned s ((if p then f else g) s) := by
  split
  exacts [hf, hg]

theorem runCalendar_owned (code : Byte) (q : List Byte) (s : State) : Owned s (runCalendar code q s) := by
  unfold runCalendar
  refine ite_owned (fixed_owned _ q (fun _ => cmdSetClock_owned _) s) ?_
  refine ite_owned (fixed_owned _ q (fun _ s => .refused s _ _) s) ?_
  refine ite_owned (fixed_owned _ q (fun _ => cmdLoadParameters_owned fun _ => paramsOf_ranges) s) ?_
  refine ite_owned (fixed_owned _ q (fun _ => cmdLoadHoliday_owned _ _ _) s) ?_
  refine ite_owned (fixed_owned _ q (fun _ => cmdReadHoliday_owned _) s) ?_
  refine ite_owned (fixed_owned _ q (fun _ => cmdLoadSchedule_owned _ _ _ _ _ _) s) ?_
  refine ite_owned (fixed_owned _ q (fun _ => cmdReadSchedule_owned _) s) ?_
  refine ite_owned (fixed_owned _ q (fun _ => cmdLoadDaystart_owned _ _) s) ?_
  refine ite_owned (fixed_owned _ q (fun _ s => .refused s _ _) s) ?_
  refine ite_owned (fixed_owned _ q (fun _ => cmdLoadRate_owned _ _ _) s) ?_
  refine ite_owned (fixed_owned _ q (fun _ => cmdReadRate_owned _) s) ?_
  refine ite_owned (fixed_owned _ q (fun _ => cmdLoadPermit_owned _ _ _) s) ?_
  refine ite_owned (fixed_owned _ q (fun _ => cmdReadPermit_owned _) s) ?_
  refine ite_owned (fixed_owned _ q (fun _ => cmdLoadClass_owned _ _ _ _ _ _) s) ?_
  refine ite_owned (fixed_owned _ q (fun _ => cmdReadClass_owned _) s) ?_
  exact fixed_owned _ q (fun _ s => .refused s _ _) s

theorem runChannel_owned (code : Byte) (q : List Byte) (s : State) : Owned s (runChannel code q s) := by
  unfold runChannel
  repeat' split
  · exact fixed_owned _ q (fun _ => cmdSetChannelPriority_owned _ _) s
  · exact fixed_owned _ q (fun _ => cmdClearChannel_owned _) s
  · exact fixed_owned _ q (fun _ => cmdReadChannel_owned _) s
  · exact fixed_owned _ q (fun _ s => .refused s _ _) s
  · exact fixed_owned _ q (fun _ => cmdFetchTicket_owned) s
  · exact fixed_owned _ q (fun _ => cmdReleaseTicket_owned _) s
  · exact fixed_owned _ q (fun _ s => .refused s _ _) s
  · exact fixed_owned _ q (fun _ => cmdLoadWatch_owned _ _ _ _ _ _ _) s
  · exact fixed_owned _ q (fun _ => cmdReadWatch_owned _) s
  · exact fixed_owned _ q (fun _ => cmdAckAlert_owned _) s

theorem runService_owned (code : Byte) (q : List Byte) (s : State) : Owned s (runService code q s) := by
  unfold runService
  repeat' split
  · exact fixed_owned _ q (fun _ => cmdOpenService_owned) s
  · exact fixed_owned _ q (fun _ => cmdDrainService_owned) s
  · exact fixed_owned _ q (fun _ => cmdCloseService_owned) s
  · exact fixed_owned _ q (fun _ => cmdRestart_owned) s
  · exact fixed_owned _ q (fun _ s => .refused s _ _) s
  · exact fixed_owned _ q (fun _ => cmdReadCounters_owned) s

theorem runCommand_owned (lv : InputLevels) (code : Byte) (q : List Byte) (s : State) : Owned s (runCommand lv code q s) := by
  unfold runCommand
  repeat' split
  · exact runLine_owned lv code q s
  · exact runDirectory_owned lv code q s
  · exact runAccount_owned code q s
  · exact runCalendar_owned code q s
  · exact runChannel_owned code q s
  · exact runService_owned code q s

theorem lengthStep_owned (n : Nat) (bytes : List Byte) {own : State → State × Answer} (h : ∀ s, Owned s (own s)) (s : State) :
    Owned s (lengthStep n bytes own s) := by
  unfold lengthStep Config.longestParams Config.blockParams
  split
  · exact .refused s _ _
  split
  · exact .partly n _ (by omega) (zeroTo_length _ _)
  · exact h s

theorem dispatchBody_owned (lv : InputLevels) (b : CommandBlock) (s : State) : Owned s (dispatchBody lv b s) := by
  unfold dispatchBody
  split
  · exact lengthStep_owned _ _ (runCommand_owned lv b.code _) s
  · exact .refused s _ _

/-- R184: a completed command is answered at once: only the two commands with a text run on. -/
theorem takeCompleted_answers (code : Byte) (params : List Byte) (s : State) :
    ∃ t r data, takeCompleted code params s = (t, .reply r data) ∧ Effects s t := by
  have hreply : ∀ x : State × Answer, Owned s x → (∃ r data, x.2 = .reply r data) → ∃ t r data, x = (t, .reply r data) ∧ Effects s t := by
    rintro ⟨t, _⟩ hx ⟨r, data, rfl⟩
    cases hx with
    | answered ht => exact ⟨t, r, data, rfl, ht⟩
  unfold takeCompleted
  split
  · refine hreply _ (cmdLoadMessage_owned params s) ?_
    unfold cmdLoadMessage
    repeat' split
    all_goals exact ⟨_, _, rfl⟩
  split
  · refine hreply _ (cmdBroadcast_owned params s) ?_
    unfold cmdBroadcast
    repeat' split
    all_goals exact ⟨_, _, rfl⟩
  · exact ⟨s, _, _, rfl, .refl⟩

/-! ## The management unit's desk -/

/-- What one event does: an effect, or what the management unit does with a command block or with a write that completes. -/
inductive Act (s : State) : State → Prop
  | effect {t : State} (h : Effect s t) : Act s t
  | answered {t : State} (hroom : s.mgt.load < 16) (h : Effects s t) (tag code : Byte) (r : Result) (data : List Byte) :
      Act s (queueReply tag code r data t)
  | writing {t u : State} (hroom : s.mgt.load < 16) (h : Effects s t) (hw : WriteBegins t u) (tag code : Byte) :
      Act s (u.updMgt fun m => { m with writing := some (tag, code) })
  | partly (hroom : s.mgt.load < 16) (hnone : s.mgt.held = none) (p : PartialCommand)
      (h : 59 ≤ p.length ∧ p.length ≤ 116 ∧ p.bytes.length = 58) : Act s (s.updMgt fun m => { m with held := some p })
  | dropped : Act s (dropPartial s)
  | completed {t : State} (p : PartialCommand) (hp : s.mgt.held = some p) (h : Effects (s.updMgt fun m => { m with held := none }) t)
      (r : Result) (data : List Byte) : Act s (queueReply p.tag p.code r data t)
  | pageWritten (h : s.dir.stage.write = .page) (data : List Byte) :
      Act s (finishWrite data (resumeLookups (s.updDir fun d => { d.commit with stage := .powerOn })))
  | protectionWritten (h : s.dir.stage.write ≠ .none) (hp : s.dir.stage.write ≠ .page) : Act s (finishWrite []
      (s.updDir fun d => { d with protect := d.protectedBy d.stage.write, stage := d.stage.afterProtection }))

/-- Acts one after another. -/
abbrev Acts : State → State → Prop := Relation.ReflTransGen Act

theorem Effects.acts {s t : State} (h : Effects s t) : Acts s t := by
  induction h with
  | refl => exact .refl
  | tail _ hlast ih => exact ih.tail (.effect hlast)

theorem takeFresh_acts (tag code : Byte) {own : State → State × Answer} (h : ∀ s, Owned s (own s)) (s : State)
    (hnone : s.mgt.held = none) : Acts s (takeFresh tag code own s) := by
  unfold takeFresh
  split
  · exact (discardCommand_effects s).acts
  next hfull =>
    have hroom : s.mgt.load < 16 := by simpa [State.replyFull] using hfull
    generalize hr : own s = r
    have hown := hr ▸ h s
    cases hown with
    | answered ht r data => exact .single (.answered hroom ht tag code r data)
    | writing ht hw => exact .single (.writing hroom ht hw tag code)
    | partly n bytes hn hb => exact .single (.partly hroom hnone ⟨tag, code, n, bytes⟩ ⟨hn.1, hn.2, hb⟩)

theorem dropPartial_held (s : State) : (dropPartial s).mgt.held = none := by
  unfold dropPartial
  split
  · rfl
  · next h => exact h

theorem takeBlock_acts (b : CommandBlock) {own : State → State × Answer} (h : ∀ s, Owned s (own s)) (s : State) :
    Acts s (takeBlock b own s) := by
  unfold takeBlock
  split
  · next hnone => exact takeFresh_acts _ _ h s hnone
  next p hp =>
    split
    · obtain ⟨t, r, data, heq, ht⟩ := takeCompleted_answers p.code (p.bytes ++ zeroTo b.length b.bytes)
        (s.updMgt fun m => { m with held := none })
      rw [heq]
      exact .single (.completed p hp ht r data)
    · exact .head .dropped (takeFresh_acts _ _ h _ (dropPartial_held s))

theorem takeCommandBlock_acts (lv : InputLevels) (b : CommandBlock) (s : State) : Acts s (takeCommandBlock lv b s) :=
  takeBlock_acts b (dispatchBody_owned lv b) s

/-! ## Every command is a chain of acts -/

/-- R19: the notices behind the next one to be sent are the last ones of the queue. -/
theorem nextNotice_suffix (text : Vector (List Byte) 24) (ns : List Notice) : (nextNotice text ns).2 <:+ ns := by
  induction ns with
  | nil => exact List.suffix_refl []
  | cons n rest ih =>
    unfold nextNotice
    split
    exacts [ih.trans (List.suffix_cons n rest), List.suffix_cons n rest]

/-- Every outcome is a next state, reached by acts. -/
def Completes (s : State) (o : Host.Outcome State Fault Refusal) : Prop := ∃ t, o = .next t ∧ Acts s t

theorem whenRunning_completes {f : State → State} (s : State) (h : Acts s (f s)) : Completes s (whenRunning s f) := by
  refine ⟨_, rfl, ?_⟩
  split
  exacts [.refl, h]

theorem whenDue_effects (t : Timer) (s : State) {f : State → State} (h : ∀ n, Effects { s with now := n } (f { s with now := n })) :
    Effects s (whenDue t s f) := by
  cases t with
  | none => exact .refl
  | some d => exact .head (.time (max s.now d)) (h _)

theorem command_completes (tag code : Byte) (params : List Byte) {own : State → State × Answer} (h : ∀ s, Owned s (own s)) (s : State) :
    Completes s (command tag code params own s) :=
  whenRunning_completes s (takeBlock_acts _ h s)


theorem takeDownward_acts (bytes : List Byte) (lv : InputLevels) (s : State) : Acts s (takeDownward bytes lv s) := by
  unfold takeDownward takeGood
  split
  · exact (countCrc_effects s).acts
  split
  · exact (trunkAlive_effects s).acts
  split
  · exact (trunkAlive_effects s).acts.trans (takeTraffic_effects _ _).acts
  split
  · exact (trunkAlive_effects s).acts.trans (takeCommandBlock_acts lv _ _)
  · exact (countKind_effects s).acts

theorem lineEvent_acts {s u : State} {p : Prop} [Decidable p] (h : p → Effects s u) : Acts s (if p then u else s) := by
  split
  · next hp => exact (h hp).acts
  · exact .refl

theorem loseTrunk_acts (s : State) : Acts s (loseTrunk s) := (emptiedTrunk_effects s).acts.tail .dropped

theorem grant_completes (s : State) : Completes s (execGrant s) := by
  refine whenRunning_completes s (Effects.acts ?_)
  split
  · exact .refl
  · next w c r h =>
    split
    · next a ha => exact (Effect.granted w c r a h ha).single
    · exact .refl

theorem lookupCompletion_completes (l : Fin 32) (s : State) : Completes s (execLookupCompletion l s) := by
  refine whenRunning_completes s (Effects.acts ?_)
  dsimp only
  split
  · exact .refl
  split
  · exact .refl
  · exact (Effect.lookupCleared l).single
  · next h => exact (Effect.lookupDecided l h).single

theorem stageExpiry_completes (s : State) : Completes s (execStageExpiry s) := by
  refine whenRunning_completes s (Effects.acts ?_)
  cases ht : s.dir.stage.timer with
  | none => exact .refl
  | some d =>
    refine .head (.time (max s.now d)) ?_
    rw [whenDue_some]
    split
    · next hst => exact (Effect.stageEmptied hst).single.tail (.sticky { s.mgt.sticky with stageExpired := true })
    · next hst => exact (Effect.expiryHeld hst (by simp [ht])).single
    · exact .refl

theorem noticeTimerExpiry_completes (l : Fin 32) (s : State) : Completes s (execNoticeTimerExpiry l s) := by
  refine whenRunning_completes s (Effects.acts ?_)
  split
  · exact .refl
  · exact whenDue_effects _ s fun n => (Effect.positionTold l _ _).single

theorem waitExpiry_completes (l : Fin 32) (s : State) : Completes s (execWaitExpiry l s) := by
  refine whenRunning_completes s (Effects.acts ?_)
  split
  · exact .refl
  · exact whenDue_effects _ s fun n => (Effect.waiterRemoved l _).single

theorem sampleExpiry_completes (s : State) : Completes s (execSampleExpiry s) := by
  refine whenRunning_completes s (Effects.acts ?_)
  exact whenDue_effects _ s fun n => (Effect.watches _ _).single

theorem graceExpiry_completes (c : Fin 24) (s : State) : Completes s (execGraceExpiry c s) := by
  refine whenRunning_completes s (Effects.acts ?_)
  split
  · exact whenDue_effects _ s fun n => (Effect.sessionClosed c .budget (by decide)).single
  · exact .refl

theorem expelExpiry_completes (c : Fin 24) (s : State) : Completes s (execExpelExpiry c s) := by
  refine whenRunning_completes s (Effects.acts ?_)
  split
  · exact whenDue_effects _ s fun n => (Effect.sessionClosed c .expelled (by decide)).single
  · exact .refl

theorem writeCompletion_completes (s : State) : Completes s (execWriteCompletion s) := by
  refine whenRunning_completes s ?_
  split
  · next h => exact .single (.pageWritten h _)
  all_goals exact .refl

theorem protectionWriteCompletion_completes (s : State) : Completes s (execProtectionWriteCompletion s) := by
  refine whenRunning_completes s ?_
  have hact : ∀ b : Bool, s.dir.stage.write ≠ .none → s.dir.stage.write ≠ .page → Acts s (finishWrite [] (if b then
      stageExpired (s.updDir fun d => { d with protect := d.protectedBy d.stage.write, stage := d.stage.afterProtection })
      else s.updDir fun d => { d with protect := d.protectedBy d.stage.write, stage := d.stage.afterProtection })) := by
    intro b hn hp
    cases b with
    | false => exact .single (.protectionWritten hn hp)
    | true =>
      refine .tail (.single (.effect (.sticky { s.mgt.sticky with stageExpired := true }))) ?_
      exact .protectionWritten (s := s.updMgt fun m => { m with sticky := { s.mgt.sticky with stageExpired := true } }) hn hp
  split
  · next h => exact hact _ (by simp [h]) (by simp [h])
  · next h => exact hact _ (by simp [h]) (by simp [h])
  all_goals exact .refl

theorem event_completes {i : Instr} (h : blockOf i = none) (s : State) : Completes s (exec i s) := by
  cases i with
  | powerOn w => exact ⟨_, rfl, .single (.effect (.powerOn w))⟩
  | resetN w => exact ⟨_, rfl, .single (.effect (.powerOn w))⟩
  | resetNRelease =>
    refine ⟨_, rfl, ?_⟩
    split
    · exact .single (.effect .released)
    · exact .refl
  | ringBurst l =>
    obtain ⟨t, ht, h⟩ := whenRunning_completes (setRing l true s) (Effect.ring l).single.acts
    exact ⟨t, ht, .head (.effect (.ringLevel l true)) h⟩
  | dcdUp l =>
    obtain ⟨t, ht, h⟩ := whenRunning_completes (setCarrier l true s) (Effect.carrierUp l).single.acts
    exact ⟨t, ht, .head (.effect (.carrierLevel l true)) h⟩
  | dcdDown l =>
    obtain ⟨t, ht, h⟩ := whenRunning_completes (setCarrier l false s) (Effect.carrierDown l).single.acts
    exact ⟨t, ht, .head (.effect (.carrierLevel l false)) h⟩
  | characterReceived l c =>
    show Completes s (execCharacterReceived l c s)
    refine whenRunning_completes s ?_
    split
    · next h => exact (Effect.dialogueChar l c h).single.acts
    · exact Effects.acts ((Effect.received l c).single.tail (.activity l 0))
    all_goals exact .refl
  | lineBreak l =>
    show Completes s (execLineBreak l s)
    refine whenRunning_completes s (lineEvent_acts fun _ => ?_)
    split
    · next c _ => exact (Effect.control c .lineBreak).single.tail (.activity l 2)
    · exact .refl
  | characterSent l =>
    show Completes s (execCharacterSent l s)
    refine whenRunning_completes s ?_
    dsimp only
    split
    · exact .refl
    · next c rest h => exact lineEvent_acts fun _ => ((Effect.sent l c rest h).single.tail (.flowGo l)).tail (.activity l 1)
  | noticeBegin l =>
    show Completes s (execNoticeBegin l s)
    refine whenRunning_completes s ?_
    dsimp only
    split
    · exact .refl
    · next n rest h => exact lineEvent_acts fun _ => (Effect.noticeTaken l _ rest (h ▸ List.suffix_cons n rest)).single
  | noticeEnd l =>
    exact whenRunning_completes s (lineEvent_acts fun _ => (Effect.noticeTaken l _ _ (nextNotice_suffix _ _)).single)
  | prompt l => exact whenRunning_completes s (lineEvent_acts fun h => (Effect.prompt l h).single)
  | lineDrainEnd l => exact whenRunning_completes s (lineEvent_acts fun h => (Effect.cleared l (.inl h.1)).single)
  | ringGapExpiry l =>
    exact whenRunning_completes s (lineEvent_acts fun h =>
      whenDue_effects _ s fun n => (Effect.ringingStops (s := { s with now := n }) l .idle (.inl rfl) (.inr h)).single)
  | answerTimerExpiry l =>
    exact whenRunning_completes s (lineEvent_acts fun h => whenDue_effects _ s fun n =>
      (Effect.cleared (s := { s with now := n }) l (.inr h)).single)
  | signOnTimerExpiry l =>
    exact whenRunning_completes s (lineEvent_acts fun _ => whenDue_effects _ s fun n => (Effect.callRefused l _).single)
  | carrierLoss l =>
    exact whenRunning_completes (f := fun s => whenDue (s.line l).timers.carrier s (loseCarrier l)) s
      (whenDue_effects _ s fun n => (Effect.carrierLost l).single).acts
  | drainTimerExpiry l =>
    exact whenRunning_completes s (lineEvent_acts fun h => whenDue_effects _ s fun n =>
      (Effect.cleared (s := { s with now := n }) l (.inl h)).single)
  | guardTimerExpiry l =>
    exact whenRunning_completes s (lineEvent_acts fun h => whenDue_effects _ s fun n =>
      (Effect.callEnds (s := { s with now := n }) l h).single)
  | idleTimerExpiry l =>
    exact whenRunning_completes s (lineEvent_acts fun _ => whenDue_effects _ s fun n => idleExpired_effects l _)
  | lookupCompletion l => exact lookupCompletion_completes l s
  | grant => exact grant_completes s
  | noticeTimerExpiry l => exact noticeTimerExpiry_completes l s
  | waitExpiry l => exact waitExpiry_completes l s
  | offerTimeout c =>
    exact whenRunning_completes s (lineEvent_acts fun h => whenDue_effects _ s fun n =>
      (Effect.offerExpired (s := { s with now := n }) c h).single)
  | closeTimeout c =>
    exact whenRunning_completes s (lineEvent_acts fun h => whenDue_effects _ s fun n =>
      (Effect.closeExpired (s := { s with now := n }) c h).single)
  | graceExpiry c => exact graceExpiry_completes c s
  | expelExpiry c => exact expelExpiry_completes c s
  | stageExpiry => exact stageExpiry_completes s
  | writeCompletion => exact writeCompletion_completes s
  | protectionWriteCompletion => exact protectionWriteCompletion_completes s
  | secondBoundary order =>
    exact whenRunning_completes s (lineEvent_acts fun _ => whenDue_effects _ s fun n =>
      (Effect.calendar _ id id).single.trans (secondBoundary_effects order _))
  | sampleExpiry => exact sampleExpiry_completes s
  | trunkLoss =>
    show Completes s (execTrunkLoss s)
    refine whenRunning_completes s ?_
    cases s.trunk.lossTimer with
    | none => exact .refl
    | some d => exact .head (.effect (.time (max s.now d))) (loseTrunk_acts _)
  | downwardBlock bytes lv => exact whenRunning_completes s (takeDownward_acts bytes lv s)
  | dataSegment c cs => exact whenRunning_completes s (deliver_effects (.data c cs) s).acts
  | accept c => exact whenRunning_completes s (deliver_effects (.accept c) s).acts
  | reject c a => exact whenRunning_completes s (deliver_effects (.reject c a) s).acts
  | close c => exact whenRunning_completes s (deliver_effects (.close c) s).acts
  | closed c => exact whenRunning_completes s (deliver_effects (.closed c) s).acts
  | flow c go => exact whenRunning_completes s (deliver_effects (.flow c _) s).acts
  | upwardBlock => exact whenRunning_completes s (lineEvent_acts fun h => (Effect.blockSent h).single)
  | serviceBlock => exact whenRunning_completes s (lineEvent_acts fun _ => Effect.serviceSent.single)
  | _ => cases h

theorem commandRow_completes {i : Instr} (h : (blockOf i).isSome = true) (s : State) : Completes s (exec i s) := by
  cases i with
  | unknownCommand tag code =>
    exact whenRunning_completes (f := fun s => takeCommandBlock s.levels ⟨tag, code, 0, []⟩ s) s (takeCommandBlock_acts _ _ s)
  | continuation tag code n bytes lv =>
    exact whenRunning_completes (f := takeCommandBlock lv ⟨tag, code, n.toNat, bytes⟩) s (takeCommandBlock_acts lv _ s)
  | loadGroup tag group a b c d e f g h i j k l m => exact command_completes tag _ _ (cmdLoadGroup_owned _ _) s
  | loadMessage tag slot n text => exact command_completes tag _ _ (lengthStep_owned _ _ (cmdLoadMessage_owned _)) s
  | broadcast tag n text => exact command_completes tag _ _ (lengthStep_owned _ _ (cmdBroadcast_owned _)) s
  | lineOutOfService tag line => exact command_completes tag _ _ (cmdLineOutOfService_owned line) s
  | lineReturn tag line => exact command_completes tag _ _ (cmdLineReturn_owned line) s
  | forceClear tag line => exact command_completes tag _ _ (cmdForceClear_owned line) s
  | readLine tag line ring => exact command_completes tag _ _ (cmdReadLine_owned line _) s
  | stageEntry tag index code keep password account cls enabled => exact command_completes tag _ _ (cmdStageEntry_owned _) s
  | commitPage tag => exact command_completes tag _ _ cmdCommitPage_owned s
  | discardStage tag => exact command_completes tag _ _ cmdDiscardStage_owned s
  | readEntry tag index => exact command_completes tag _ _ (cmdReadEntry_owned index) s
  | findUser tag code => exact command_completes tag _ _ (cmdFindUser_owned code) s
  | unlockUser tag index => exact command_completes tag _ _ (cmdUnlockUser_owned index) s
  | protectBlock tag block => exact command_completes tag _ _ (cmdProtectBlock_owned block) s
  | protectTariffs tag => exact command_completes tag _ _ cmdProtectTariffs_owned s
  | unprotectAll tag key => exact command_completes tag _ _ (cmdUnprotectAll_owned key) s
  | readProtection tag key => exact command_completes tag _ _ (cmdReadProtection_owned key) s
  | setAccount tag account state balance overdraft warn limit =>
    exact command_completes tag _ _ (cmdSetAccount_owned _ _ _ _ _ (triple_toInt_le _)) s
  | setAccountState tag account state => exact command_completes tag _ _ (cmdSetAccountState_owned _ _) s
  | creditAccount tag account amount => exact command_completes tag _ _ (cmdCreditAccount_owned _ _) s
  | readAccount tag account => exact command_completes tag _ _ (fun s => .refused s _ _) s
  | setClock tag a b c d e f g => exact command_completes tag _ _ (cmdSetClock_owned _) s
  | readClock tag => exact command_completes tag _ _ (fun s => .refused s _ _) s
  | loadHoliday tag entry month day => exact command_completes tag _ _ (cmdLoadHoliday_owned _ _ _) s
  | readHoliday tag entry => exact command_completes tag _ _ (cmdReadHoliday_owned _) s
  | loadSchedule tag a b c d e f => exact command_completes tag _ _ (cmdLoadSchedule_owned _ _ _ _ _ _) s
  | readSchedule tag entry => exact command_completes tag _ _ (cmdReadSchedule_owned _) s
  | loadDaystart tag weekday period => exact command_completes tag _ _ (cmdLoadDaystart_owned _ _) s
  | readDaystart tag => exact command_completes tag _ _ (fun s => .refused s _ _) s
  | loadRate tag period cls rate => exact command_completes tag _ _ (cmdLoadRate_owned _ _ _) s
  | readRate tag period => exact command_completes tag _ _ (cmdReadRate_owned _) s
  | loadPermit tag period cls permit => exact command_completes tag _ _ (cmdLoadPermit_owned _ _ _) s
  | readPermit tag period => exact command_completes tag _ _ (cmdReadPermit_owned _) s
  | loadClass tag cls setup maximum grace priority essential =>
    exact command_completes tag _ _ (cmdLoadClass_owned _ _ _ _ _ _) s
  | readClass tag cls => exact command_completes tag _ _ (cmdReadClass_owned _) s
  | readPeriod tag => exact command_completes tag _ _ (fun s => .refused s _ _) s
  | setChannelPriority tag channel flag => exact command_completes tag _ _ (cmdSetChannelPriority_owned _ _) s
  | clearChannel tag channel => exact command_completes tag _ _ (cmdClearChannel_owned _) s
  | readChannel tag channel => exact command_completes tag _ _ (cmdReadChannel_owned _) s
  | readQueue tag => exact command_completes tag _ _ (fun s => .refused s _ _) s
  | fetchTicket tag => exact command_completes tag _ _ cmdFetchTicket_owned s
  | releaseTicket tag serial => exact command_completes tag _ _ (cmdReleaseTicket_owned _) s
  | readTicketCounts tag => exact command_completes tag _ _ (fun s => .refused s _ _) s
  | loadWatch tag a b c d e f g => exact command_completes tag _ _ (cmdLoadWatch_owned _ _ _ _ _ _ _) s
  | readWatch tag watch => exact command_completes tag _ _ (cmdReadWatch_owned _) s
  | ackAlert tag watch => exact command_completes tag _ _ (cmdAckAlert_owned _) s
  | openService tag => exact command_completes tag _ _ cmdOpenService_owned s
  | drainService tag => exact command_completes tag _ _ cmdDrainService_owned s
  | closeService tag => exact command_completes tag _ _ cmdCloseService_owned s
  | restart tag => exact command_completes tag _ _ cmdRestart_owned s
  | loadParameters tag a b c d e f g h i j k l =>
    exact command_completes tag _ _ (cmdLoadParameters_owned fun _ => paramsOf_ranges) s
  | readParameters tag => exact command_completes tag _ _ (fun s => .refused s _ _) s
  | readCounters tag => exact command_completes tag _ _ cmdReadCounters_owned s
  | _ => cases h

theorem exec_completes (i : Instr) (s : State) : Completes s (exec i s) := by
  cases h : blockOf i with
  | none => exact event_completes h s
  | some b => exact commandRow_completes (by simp [h]) s

/-- What every act keeps, and is not about the commands that wait, every step keeps. -/
theorem step_keeps {P : State → Prop} (hpending : ∀ (s : State) (q : List Instr), P s → P { s with pending := q })
    (hact : ∀ s t, Act s t → P s → P t) {s t : State} (h : step s = .next t) (hs : P s) : P t := by
  have hacts : ∀ s t, Acts s t → P s → P t := fun s t hst hs => by
    induction hst with
    | refl => exact hs
    | tail _ hlast ih => exact hact _ _ hlast ih
  unfold step at h
  split at h
  · obtain rfl := Host.Outcome.next.inj h
    exact hact s _ (.effect (.time (s.now + 1))) hs
  · next i rest _ =>
    obtain ⟨u, hu, huacts⟩ := exec_completes i { s with pending := rest }
    obtain rfl := Host.Outcome.next.inj (hu.symm.trans h)
    exact hacts _ _ huacts (hpending s rest hs)

end Sys2Proof.Machine
end

section
/-! The elementary changes of which every effect is made: one part of the state changed, with what the change must respect. The laws that each part of the state keeps for itself (LinesKept, StoreKept, FramesKept, SerialsKept, the balances) are read off the elementary changes. -/

namespace Sys2Proof.Machine

open Sys2Proof

/-! ## Elementary changes -/

/-- R2, R3, R6, R18, R22: a line within its sizes, with notices of different messages. -/
def Line.Ok (ln : Line) : Prop := ln.Bounded ∧ (ln.notices.map (·.msg)).Nodup

/-- R69: a balance between the floor and the greatest. -/
def Account.InRange (x : Account) : Prop := x.floor ≤ x.balance ∧ x.balance ≤ 8388607

/-- What a change of the trunk framer outside the block cycle respects: one control for each slot, and the counters within 65535. -/
def Trunk.Respects (x y : Trunk) : Prop :=
  ((x.controls.map Control.place).Nodup → (y.controls.map Control.place).Nodup) ∧
    (x.counter = y.counter ∧ x.nd = y.nd ∨ x.counter < x.nd ∧ y.counter = x.counter + 1 ∧ y.nd = x.nd)

/-- What a change of the management unit outside its desk respects: the write in progress; a partial command and replies may only go. -/
def Management.Respects (x y : Management) : Prop :=
  y.writing = x.writing ∧ (y.held = x.held ∨ y.held = none) ∧ y.replies.length ≤ x.replies.length

/-- One elementary change. -/
inductive Move (s : State) : State → Prop
  | powerOn (w : Byte) : Move s (powerOnValues w s)
  | plain {t : State} (h : t = { t with
      lines := s.lines, dir := s.dir, accounts := s.accounts, cal := s.cal, tickets := s.tickets, trunk := s.trunk
      mgt := s.mgt, params := s.params, pending := s.pending }) : Move s t
  | line (l : Fin 32) (x : Line) (h : (s.line l).Ok → x.Ok) : Move s (s.setLine l x)
  | lines (f : Fin 32 → Line) (h : ∀ l, (s.line l).Ok → (f l).Ok) : Move s { s with lines := Vector.ofFn f }
  | account (a : Fin 256) (x : Account) (h : (s.account a).InRange → x.InRange) : Move s (s.setAccount a x)
  | row (r : Fin 64) (x : Row) (h : (s.row r).serial = none) (hx : x.serial = none) : Move s (s.setRow r x)
  | ticketClosed (c : Fin 24) (m : Meter) (e : Bool) (why : CloseReason) : Move s (closeTicket c m e why s)
  | ticketReleased (r : Fin 64) : Move s (releaseRow r s)
  | directory (f : Directory → Directory) (h : s.dir.wf = true → s.dir.stage.Sound →
      (f s.dir).wf = true ∧ (f s.dir).stage.Sound ∧ ((f s.dir).stage.write = .none ↔ s.dir.stage.write = .none)) : Move s (s.updDir f)
  | management (f : Management → Management) (h : s.mgt.Respects (f s.mgt)) : Move s (s.updMgt f)
  | trunk (f : Trunk → Trunk) (h : s.trunk.Respects (f s.trunk)) (hc : (f s.trunk).counters = s.trunk.counters) : Move s (s.updTrunk f)
  | counters (k : TrunkCounters) (h : s.CountersBounded → (s.updTrunk fun x => { x with counters := k }).CountersBounded) :
      Move s (s.updTrunk fun x => { x with counters := k })
  | service : Move s (sendService s)
  | calendar (f : Calendar → Calendar) (h : s.WeekdaysSound → (s.updCal f).WeekdaysSound) : Move s (s.updCal f)
  | parameters (p : Params) (h : p.holidayWeekday < 7 ∧ 1 ≤ p.nd ∧ p.nd ≤ 64) : Move s { s with params := p }

/-- Elementary changes one after another. -/
abbrev Moves : State → State → Prop := Relation.ReflTransGen Move

theorem Move.single {s t : State} (h : Move s t) : Moves s t := .single h

/-- A fold of steps that are each elementary changes is made of elementary changes. -/
theorem foldl_moves {α : Type} (f : State → α → State) (h : ∀ s a, Moves s (f s a)) (l : List α) (s : State) :
    Moves s (l.foldl f s) :=
  foldl_invariant (Moves s) f (fun b a hb => hb.trans (h b a)) l s .refl

/-- What every elementary change keeps, a chain of them keeps. -/
theorem Moves.keeps {P : State → Prop} (h : ∀ s t, Move s t → P s → P t) {s t : State} (ht : Moves s t) (hs : P s) : P t := by
  induction ht with
  | refl => exact hs
  | tail _ hlast ih => exact h _ _ hlast ih

theorem Trunk.Respects.refl (x : Trunk) : x.Respects x := ⟨id, .inl ⟨rfl, rfl⟩⟩

theorem ite_moves {s t u : State} {p : Prop} [Decidable p] (ht : p → Moves s t) (hu : ¬ p → Moves s u) :
    Moves s (if p then t else u) := by
  split
  · next h => exact ht h
  · next h => exact hu h

/-! ## One line -/

theorem updLine_moves (l : Fin 32) {f : Line → Line} (h : ∀ ln : Line, ln.Ok → (f ln).Ok) (s : State) : Moves s (s.updLine l f) :=
  (Move.line l _ (h _)).single

/-- The laws of a line look at its buffers, its notices, its ring count and its counters alone. -/
theorem Line.Ok.congr {x y : Line} (h : x.Ok) (hrx : y.rx = x.rx) (htx : y.tx = x.tx) (hn : y.notices = x.notices)
    (hr : y.rings = x.rings) (hc : y.counters = x.counters) : y.Ok := by
  unfold Line.Ok Line.Bounded at *
  rw [hrx, htx, hn, hr, hc]
  exact h

/-- A change of one line that leaves its buffers, notices, ring count and counters. -/
theorem sameLine_moves (l : Fin 32) {f : Line → Line} (s : State)
    (h : ∀ ln, (f ln).rx = ln.rx ∧ (f ln).tx = ln.tx ∧ (f ln).notices = ln.notices ∧ (f ln).rings = ln.rings ∧
      (f ln).counters = ln.counters := by exact fun _ => ⟨rfl, rfl, rfl, rfl, rfl⟩) : Moves s (s.updLine l f) :=
  updLine_moves l (fun ln hln => by
    obtain ⟨hrx, htx, hn, hr, hc⟩ := h ln
    exact hln.congr hrx htx hn hr hc) s

theorem Line.place_ok {ln : Line} (h : ln.Ok) (c : Byte) : (ln.place c).Ok := by
  obtain ⟨⟨hrx, htx, hn, hr, ho, hd, hdr, hf⟩, hnodup⟩ := h
  unfold Line.place
  split
  · next hlen => exact ⟨⟨hrx, by simpa using hlen, hn, hr, ho, hd, hdr, hf⟩, hnodup⟩
  · exact ⟨⟨hrx, htx, hn, hr, ho, raise_le hd, hdr, hf⟩, hnodup⟩

theorem Line.placeAll_ok {ln : Line} (h : ln.Ok) (cs : List Byte) : (ln.placeAll cs).Ok :=
  foldl_invariant Line.Ok Line.place (fun _ c hb => Line.place_ok hb c) cs ln h

theorem Line.receive_ok {ln : Line} (h : ln.Ok) (c : Byte) : (ln.receive c).Ok := by
  obtain ⟨⟨hrx, htx, hn, hr, ho, hd, hdr, hf⟩, hnodup⟩ := h
  unfold Line.receive
  split
  · next hlen => exact ⟨⟨by simpa using hlen, htx, hn, hr, ho, hd, hdr, hf⟩, hnodup⟩
  · exact ⟨⟨hrx, htx, hn, hr, raise_le ho, hd, hdr, hf⟩, hnodup⟩

/-- R18: a notice of no pending message at the tail leaves the messages different. -/
theorem nodup_append_notice {q : List Notice} {n : Notice} (h : (q.map (·.msg)).Nodup) (hn : ∀ x ∈ q, x.msg ≠ n.msg) :
    ((q ++ [n]).map (·.msg)).Nodup := by
  rw [List.map_append, List.nodup_append]
  refine ⟨h, List.nodup_singleton _, fun m hm k hk => ?_⟩
  obtain ⟨x, hx, rfl⟩ := List.mem_map.mp hm
  obtain rfl : k = n.msg := by simpa using hk
  exact hn x hx

theorem joinNotices_ok {q : List Notice} (n : Notice) (hlen : q.length ≤ 4) (h : (q.map (·.msg)).Nodup) :
    (joinNotices q n).1.length ≤ 4 ∧ ((joinNotices q n).1.map (·.msg)).Nodup := by
  unfold joinNotices Config.noticeCapacity
  split
  · have hmap : (q.map fun x => if x.msg = n.msg then { x with value := n.value } else x).map (·.msg) = q.map (·.msg) := by
      rw [List.map_map]
      refine List.map_congr_left fun x _ => ?_
      simp only [Function.comp_apply]
      split <;> rfl
    exact ⟨by simpa using hlen, by rw [hmap]; exact h⟩
  next hnew =>
    have hn : ∀ x ∈ q, x.msg ≠ n.msg := by simpa using hnew
    split
    · refine ⟨by simp only [List.length_append, List.length_drop, List.length_singleton]; omega, ?_⟩
      exact nodup_append_notice (h.sublist ((List.drop_sublist 1 q).map _)) fun x hx => hn x (List.mem_of_mem_drop hx)
    · next hroom => exact ⟨by simp only [List.length_append, List.length_singleton]; omega, nodup_append_notice h hn⟩

theorem Line.request_ok {ln : Line} (h : ln.Ok) (now : Nat) (m : Fin 24) (v : Int) : (Line.request now m v ln).Ok := by
  unfold Line.request
  split
  · obtain ⟨⟨hrx, htx, hn, hr, ho, hd, hdr, hf⟩, hnodup⟩ := h
    obtain ⟨hlen, hjoined⟩ := joinNotices_ok ⟨m, v, now⟩ hn hnodup
    refine ⟨⟨hrx, htx, hlen, hr, ?_⟩, hjoined⟩
    dsimp only
    split
    exacts [⟨ho, hd, raise_le hdr, hf⟩, ⟨ho, hd, hdr, hf⟩]
  · exact h

theorem Line.enterDraining_ok {ln : Line} (h : ln.Ok) (now : Nat) : (Line.enterDraining now ln).Ok := by
  obtain ⟨⟨hrx, hrest⟩, hnodup⟩ := h
  refine ⟨⟨?_, hrest⟩, hnodup⟩
  dsimp only [Line.enterDraining]
  split
  exacts [Nat.zero_le _, hrx]

theorem Line.enterClearing_ok {ln : Line} (h : ln.Ok) (now : Nat) : (Line.enterClearing now ln).Ok := by
  obtain ⟨⟨hrx, htx, hn, hcounters⟩, hnodup⟩ := h
  exact ⟨⟨Nat.zero_le _, Nat.zero_le _, Nat.zero_le _, hcounters⟩, List.nodup_nil⟩

theorem Line.Ok.rings_le {ln : Line} (h : ln.Ok) : ln.rings ≤ 255 := by
  obtain ⟨⟨_, _, _, hr, _⟩, _⟩ := h
  exact hr

/-- A line with another ring count of a byte, nothing else that is bounded having changed. -/
theorem Line.Ok.quiet {x y : Line} (h : x.Ok) (hrx : y.rx = x.rx) (htx : y.tx = x.tx) (hn : y.notices = x.notices)
    (hr : y.rings ≤ 255) (hc : y.counters = x.counters) : y.Ok := by
  unfold Line.Ok Line.Bounded at *
  rw [hrx, htx, hn, hc]
  obtain ⟨⟨h1, h2, h3, -, h5⟩, hnodup⟩ := h
  exact ⟨⟨h1, h2, h3, hr, h5⟩, hnodup⟩

theorem placeMessage_moves (l : Fin 32) (m : Fin 24) (s : State) : Moves s (placeMessage l m s) :=
  updLine_moves l (fun _ h => Line.placeAll_ok h _) s

theorem tryPrompt_moves (l : Fin 32) (s : State) : Moves s (tryPrompt l s) := by
  have hput : ∀ text p, Moves s (s.setLine l { (s.line l).placeAll text with dialogue := { (s.line l).dialogue with phase := p } }) :=
    fun text p => (Move.line l { (s.line l).placeAll text with dialogue := { (s.line l).dialogue with phase := p } } fun h =>
      (Line.placeAll_ok h text).congr rfl rfl rfl rfl rfl).single
  unfold tryPrompt
  refine ite_moves (fun _ => ?_) fun _ => .refl
  split
  all_goals first | exact hput _ _ | exact .refl

theorem notify_moves (l : Fin 32) (m : Fin 24) (v : Int) (s : State) : Moves s (notify l m v s) :=
  updLine_moves l (fun _ h => Line.request_ok h _ m v) s

theorem notifyIf_moves (l : Fin 32) (m : Option (Fin 24)) (s : State) : Moves s (notifyIf l m s) := by
  cases m with
  | none => exact .refl
  | some m => exact notify_moves l m 0 s

theorem toDraining_moves (l : Fin 32) (s : State) : Moves s (toDraining l s) := updLine_moves l (fun _ h => Line.enterDraining_ok h _) s

theorem toClearing_moves (l : Fin 32) (s : State) : Moves s (toClearing l s) := updLine_moves l (fun _ h => Line.enterClearing_ok h _) s

theorem endDialogue_moves (l : Fin 32) (s : State) : Moves s (endDialogue l s) := sameLine_moves l s

theorem drainEnd_moves (s : State) : Moves s (drainEnd s) :=
  ite_moves (fun _ => (Move.management _ ⟨rfl, .inl rfl, le_rfl⟩).single) fun _ => .refl

/-! ## Requests of the line supervisor and the ends of an admission -/

theorem updAccount_moves (a : Fin 256) {f : Account → Account} (h : ∀ x : Account, x.InRange → (f x).InRange) (s : State) :
    Moves s (s.updAccount a f) :=
  (Move.account a _ (h _)).single

theorem endAdmission_moves (l : Fin 32) (a : Fin 256) (s : State) : Moves s (endAdmission l a s) :=
  ((sameLine_moves l (f := fun ln => { ln with admission := none }) s).trans
    (updAccount_moves a (f := fun x => { x with openCount := x.openCount - 1 }) (fun _ h => h) _)).trans (drainEnd_moves _)

theorem endLineAdmission_moves (l : Fin 32) (s : State) : Moves s (endLineAdmission l s) := by
  unfold endLineAdmission
  split
  exacts [endAdmission_moves l _ s, .refl]

theorem refuseRequest_moves (l : Fin 32) (s : State) : Moves s (refuseRequest l s) :=
  ite_moves (fun _ => (toDraining_moves l s).trans (drainEnd_moves _)) fun _ => .refl

theorem retryRequest_moves (l : Fin 32) (s : State) : Moves s (retryRequest l s) :=
  ite_moves (fun _ => sameLine_moves l s) fun _ => .refl

theorem admitRequest_moves (l : Fin 32) (s : State) : Moves s (admitRequest l s) :=
  ite_moves (fun _ => sameLine_moves l s) fun _ => .refl

theorem grantRequest_moves (l : Fin 32) (c : Fin 24) (s : State) : Moves s (grantRequest l c s) :=
  ite_moves (fun _ => sameLine_moves l s) fun _ => .refl

theorem channelGone_moves (l : Fin 32) (s : State) : Moves s (s.updLine l fun ln => { ln with channel := none }) :=
  sameLine_moves l s

theorem removeRequest_moves (l : Fin 32) (s : State) : Moves s (removeRequest l s) :=
  ite_moves (fun _ => (channelGone_moves l s).trans (toDraining_moves l _)) fun _ => .refl

theorem connectRequest_moves (l : Fin 32) (s : State) : Moves s (connectRequest l s) :=
  ite_moves (fun _ => sameLine_moves l s) fun _ => .refl

theorem sessionClosed_moves (l : Fin 32) (why : CloseReason) (s : State) : Moves s (sessionClosed l why s) := by
  have hends : Moves s (toDraining l ((notify l Config.mEnded why.code s).updLine l fun ln => { ln with channel := none })) :=
    ((notify_moves l _ _ s).trans (channelGone_moves l _)).trans (toDraining_moves l _)
  unfold sessionClosed
  refine ite_moves (fun _ => ?_) fun _ => .refl
  cases why with
  | carrierLost => exact channelGone_moves l s
  | hostLogoff => exact (channelGone_moves l s).trans (toDraining_moves l _)
  | idle | timeLimit | budget | expelled | operator | hostLost | restart => exact hends

theorem refuseCall_moves (l : Fin 32) (m : Fin 24) (s : State) : Moves s (refuseCall l m s) :=
  ((placeMessage_moves l m s).trans (endDialogue_moves l _)).trans (refuseRequest_moves l _)

theorem abandon_moves (l : Fin 32) (m : Option (Fin 24)) (s : State) : Moves s (abandon l m s) := by
  refine ite_moves (fun _ => ?_) fun _ => .refl
  cases m with
  | none => exact (endDialogue_moves l s).trans (refuseRequest_moves l _)
  | some m => exact refuseCall_moves l m s

theorem leaveQueue_moves (l : Fin 32) (s : State) : Moves s (leaveQueue l s) := (Move.plain rfl).single

theorem removeWaiter_moves (l : Fin 32) (m : Option (Fin 24)) (drains : Bool) (s : State) : Moves s (removeWaiter l m drains s) := by
  have hends := ((leaveQueue_moves l s).trans (notifyIf_moves l m _)).trans (endLineAdmission_moves l _)
  unfold removeWaiter
  split
  · exact .refl
  · exact ite_moves (fun _ => hends.trans (removeRequest_moves l _)) fun _ => hends

/-! ## The control queue (R175) -/

theorem Control.sameSlot_iff {a b : Control} : a.sameSlot b = true ↔ a.place = b.place := by
  simp [Control.sameSlot, Control.place]

theorem joinControls_places (q : List Control) (c : Control) :
    (joinControls q c).map Control.place = if c.place ∈ q.map Control.place then q.map Control.place else q.map Control.place ++ [c.place] := by
  have hany : q.any c.sameSlot = true ↔ c.place ∈ q.map Control.place := by
    simp only [List.any_eq_true, Control.sameSlot_iff, List.mem_map]
    exact exists_congr fun x => and_congr_right fun _ => eq_comm
  unfold joinControls
  by_cases h : c.place ∈ q.map Control.place
  · rw [if_pos (hany.mpr h), if_pos h, List.map_map]
    refine List.map_congr_left fun x _ => ?_
    simp only [Function.comp_apply]
    split
    · next hs => exact Control.sameSlot_iff.mp hs
    · rfl
  · rw [if_neg (mt hany.mp h), if_neg h, List.map_append, List.map_singleton]

theorem joinControls_nodup {q : List Control} (h : (q.map Control.place).Nodup) (c : Control) :
    ((joinControls q c).map Control.place).Nodup := by
  rw [joinControls_places]
  split
  · exact h
  · next hnew => exact List.nodup_append.mpr ⟨h, List.nodup_singleton _, fun a ha b hb => by
      obtain rfl : b = c.place := by simpa using hb
      exact fun e => hnew (e ▸ ha)⟩

theorem handControl_moves (c : Fin 24) (k : ControlKind) (s : State) : Moves s (handControl c k s) :=
  (Move.trunk _ ⟨fun h => joinControls_nodup h _, .inl ⟨rfl, rfl⟩⟩ rfl).single

theorem filterControls_moves (p : Control → Bool) (s : State) :
    Moves s (s.updTrunk fun t => { t with controls := t.controls.filter p }) :=
  (Move.trunk _ ⟨fun h => h.sublist (List.filter_sublist.map _), .inl ⟨rfl, rfl⟩⟩ rfl).single

theorem setAnnounced_moves (c : Fin 24) (f : Flow) (s : State) : Moves s (setAnnounced c f s) :=
  (Move.trunk _ ⟨id, .inl ⟨rfl, rfl⟩⟩ rfl).single

theorem protocolError_moves (s : State) : Moves s (protocolError s) := by
  refine .tail (Move.single (.counters _ fun h => ?_)) (.management _ ⟨rfl, .inl rfl, le_rfl⟩)
  obtain ⟨hcrc, hkind, hprotocol, hdiscarded⟩ := h
  exact ⟨hcrc, hkind, raise_le hprotocol, hdiscarded⟩

theorem updChannel_moves (c : Fin 24) (f : Channel → Channel) (s : State) : Moves s (s.updChannel c f) := (Move.plain rfl).single

theorem setMeter_moves (c : Fin 24) (x : Option Meter) (s : State) : Moves s (s.setMeter c x) := (Move.plain rfl).single

theorem updMeter_moves (c : Fin 24) (f : Meter → Meter) (s : State) : Moves s (s.updMeter c f) := setMeter_moves c _ s

theorem freeRow_moves (r : Fin 64) (c : Fin 24) (s : State) : Moves s (freeRow r c s) := by
  unfold freeRow
  split
  · next h => exact ite_moves (fun _ => (Move.row r .free (by rw [h]; rfl) rfl).single) fun _ => .refl
  all_goals exact .refl

theorem stampRow_moves (r : Fin 64) (c : Fin 24) (s : State) : Moves s (stampRow r c s) := by
  unfold stampRow
  split
  · next h => exact ite_moves (fun _ => (Move.row r _ (by rw [h]; rfl) rfl).single) fun _ => .refl
  all_goals exact .refl

/-! ## Debits and charges (R76 to R79, R112) -/

theorem Account.debit_inRange {x : Account} (h : x.InRange) (n : Nat) : (x.debit n).1.InRange := by
  unfold Account.InRange Account.floor at h
  unfold Account.debit Account.available
  split
  · refine ⟨?_, ?_⟩ <;> simp only [Account.floor] <;> omega
  · refine ⟨?_, ?_⟩ <;> simp only [Account.floor] <;> omega

theorem warnLines_moves (a : Fin 256) (v : Int) (s : State) : Moves s (warnLines a v s) := by
  refine foldl_moves _ (fun s c => ?_) allChannels s
  split
  · exact ite_moves (fun _ => notify_moves _ _ v s) fun _ => .refl
  · exact .refl

theorem checkWarning_moves (a : Fin 256) (s : State) : Moves s (checkWarning a s) :=
  ite_moves (fun _ => (updAccount_moves a (f := fun x => { x with warned := true }) (fun _ h => h) s).trans (warnLines_moves a _ _)) fun _ => .refl

theorem debitAccount_moves (a : Fin 256) (n : Nat) (s : State) : Moves s (debitAccount a n s).1 := by
  unfold debitAccount
  split
  · exact .refl
  · exact (Move.account a _ fun h => Account.debit_inRange h n).single.trans (checkWarning_moves a _)

theorem chargeUnits_moves (c : Fin 24) (n : Nat) (s : State) : Moves s (chargeUnits c n s).1 := by
  unfold chargeUnits
  split
  · exact .refl
  · exact ((setMeter_moves c _ s).trans (debitAccount_moves _ n _)).trans (updMeter_moves c _ _)

/-! ## The end of a session (R121, R138, R139) -/

theorem leaveConnected_moves (c : Fin 24) (why : CloseReason) (s : State) : Moves s (leaveConnected c why s) :=
  (filterControls_moves _ s).trans (updChannel_moves c _ _)

theorem channelClosed_moves (c : Fin 24) (why : CloseReason) (s : State) : Moves s (channelClosed c why s) := by
  have hleft : ∀ f, Moves s ((leaveConnected c why s).updChannel c f) := fun f => (leaveConnected_moves c why s).trans (updChannel_moves c f _)
  cases why with
  | hostLogoff => exact (hleft _).trans (handControl_moves c _ _)
  | hostLost => exact hleft fun x => { x with state := .free, line := none, timer := none }
  | carrierLost | idle | timeLimit | budget | expelled | operator | restart => exact (hleft _).trans (handControl_moves c _ _)

theorem roundOff_moves (c : Fin 24) (m : Meter) (s : State) : Moves s (roundOff c m s) :=
  ite_moves (fun _ => chargeUnits_moves c 1 s) fun _ => .refl

theorem closeSession_moves (c : Fin 24) (why : CloseReason) (s : State) : Moves s (closeSession c why s) := by
  have hends : ∀ (t : State) (m : Meter), Moves t (channelClosed c why (sessionClosed m.line why ((endAdmission m.line m.account t).setMeter c none))) :=
    fun t m => (((endAdmission_moves m.line m.account t).trans (setMeter_moves c none _)).trans (sessionClosed_moves _ why _)).trans
      (channelClosed_moves c why _)
  unfold closeSession
  split
  · exact .refl
  · next m _ =>
    refine (roundOff_moves c m s).trans ?_
    dsimp only
    split
    · exact .head (.ticketClosed c _ m.exhausted why) (hends _ m)
    · exact hends _ m

theorem closeRequest_moves (c : Fin 24) (l : Fin 32) (why : CloseReason) (s : State) : Moves s (closeRequest c l why s) := by
  unfold closeRequest
  split
  · exact ite_moves (fun _ => closeSession_moves c why s) fun _ => .refl
  · exact .refl

theorem becomeExhausted_moves (c : Fin 24) (m : Meter) (s : State) : Moves s (becomeExhausted c m s) := by
  have htold : Moves s (notify m.line Config.mExhausted (s.cal.classes[m.cls].grace) (s.updMeter c fun m => { m with exhausted := true })) :=
    (updMeter_moves c _ s).trans (notify_moves _ _ _ _)
  exact ite_moves (fun _ => htold.trans (closeSession_moves c _ _)) fun _ => htold.trans (updMeter_moves c _ _)

theorem chargeSession_moves (c : Fin 24) (n : Nat) (s : State) : Moves s (chargeSession c n s) := by
  have hcharged := chargeUnits_moves c n s
  unfold chargeSession
  dsimp only
  split
  · exact ite_moves (fun _ => hcharged.trans (becomeExhausted_moves c _ _)) fun _ => hcharged
  · exact hcharged

theorem startExpel_moves (c : Fin 24) (m : Meter) (s : State) : Moves s (startExpel c m s) :=
  (notify_moves _ _ _ s).trans (updMeter_moves c _ _)

theorem checkLimits_moves (c : Fin 24) (s : State) : Moves s (checkLimits c s) := by
  unfold checkLimits
  split
  · exact .refl
  · next m _ =>
    have hwarned : Moves s (if Config.timeWarning < m.maximum ∧ m.elapsed = m.maximum - Config.timeWarning then
        (notify m.line Config.mTime 5 s).updMeter c fun m => { m with timeWarned := true } else s) :=
      ite_moves (fun _ => (notify_moves _ _ _ s).trans (updMeter_moves c _ _)) fun _ => .refl
    exact ite_moves (fun _ => hwarned.trans (closeSession_moves c _ _)) fun _ => hwarned

theorem meterBoundary_moves (p q : Fin 8) (c : Fin 24) (s : State) : Moves s (meterBoundary p q c s) := by
  unfold meterBoundary
  split
  · exact .refl
  · have hcharged : ∀ x n, Moves s (chargeSession c n (s.setMeter c x)) := fun x n =>
      (setMeter_moves c x s).trans (chargeSession_moves c n _)
    dsimp only
    split
    · exact hcharged _ _
    · exact ((hcharged _ _).trans (setMeter_moves c _ _)).trans (checkLimits_moves c _)

theorem meterPermit_moves (k : Fin 8) (x : Permit) (c : Fin 24) (s : State) : Moves s (meterPermit k x c s) := by
  unfold meterPermit
  split
  · exact .refl
  · refine ite_moves (fun _ => ?_) fun _ => .refl
    cases x with
    | expel => exact ite_moves (fun _ => startExpel_moves c _ s) fun _ => .refl
    | opened | closed => exact setMeter_moves c _ s

theorem startMeter_moves (c : Fin 24) (l : Fin 32) (a : Admission) (r : Fin 64) (s : State) : Moves s (startMeter c l a r s) := by
  unfold startMeter
  dsimp only
  have hcharged : ∀ x n, Moves s (chargeSession c n (stampRow r c (s.setMeter c x))) := fun x n =>
    ((setMeter_moves c x s).trans (stampRow_moves r c _)).trans (chargeSession_moves c n _)
  split
  · exact hcharged _ _
  · have htold : ∀ x n, Moves s (notify l Config.mConnected 0 (chargeSession c n (stampRow r c (s.setMeter c x)))) := fun x n =>
      (hcharged x n).trans (notify_moves _ _ _ _)
    exact ite_moves (fun _ => (htold _ _).trans (startExpel_moves c _ _)) fun _ => htold _ _

/-! ## Grants and offers (R131 to R137) -/

/-- R131: a grant takes the head of the queue, a channel it may use and a free row. -/
theorem State.grantable_some {s : State} {w : Waiter} {c : Fin 24} {r : Fin 64} (h : s.grantable = some (w, c, r)) :
    (∃ rest, s.queue = w :: rest) ∧ s.usable w.priority c = true ∧ s.row r = .free := by
  unfold State.grantable at h
  split at h
  · cases h
  · next w' rest hq =>
    split at h
    · next c' r' hc hr =>
      simp only [Option.some.injEq, Prod.mk.injEq] at h
      obtain ⟨rfl, rfl, rfl⟩ := h
      have hfree := List.find?_some hr
      refine ⟨⟨rest, hq⟩, List.find?_some hc, ?_⟩
      cases hrow : s.row r' with
      | free => rfl
      | reserved x => simp [hrow, Row.isFree] at hfree
      | closed x => simp [hrow, Row.isFree] at hfree
    · cases h

theorem State.grantable_row {s : State} {w : Waiter} {c : Fin 24} {r : Fin 64} (h : s.grantable = some (w, c, r)) : s.row r = .free :=
  (State.grantable_some h).2.2

theorem grantTo_moves (l : Fin 32) (a : Admission) (c : Fin 24) {r : Fin 64} {s : State} (h : s.row r = .free) :
    Moves s (grantTo l a c r s) := by
  have hfree : ((leaveQueue l s).row r).serial = none := by
    have hrow : (leaveQueue l s).row r = s.row r := rfl
    rw [hrow, h]
    rfl
  have hrow : Moves s (reserveRow r c l a (leaveQueue l s)) := (leaveQueue_moves l s).trans (Move.row r _ hfree rfl).single
  have hoffered : Moves s (grantRequest l c ((reserveRow r c l a (leaveQueue l s)).updChannel c fun x =>
      { x with state := .offered, line := some l, row := some r })) :=
    (hrow.trans (updChannel_moves c _ _)).trans (grantRequest_moves l c _)
  exact (hoffered.trans (handControl_moves c _ _)).trans (.single (.plain rfl))

/-- The row of an ended offer freed (R150). -/
def offerRowFreed (c : Fin 24) (s : State) : State :=
  match (s.channel c).row with
  | some r => freeRow r c s
  | none => s

/-- The line of an ended offer let go (R135 to R137). -/
def offerLineLeaves (c : Fin 24) (m : Option (Fin 24)) (drains : Bool) (s : State) : State :=
  match (s.channel c).line with
  | some l =>
    if drains then removeRequest l (notifyIf l m (endLineAdmission l s))
    else (notifyIf l m (endLineAdmission l s)).updLine l fun ln => { ln with channel := none }
  | none => s

theorem endOffer_parts (c : Fin 24) (m : Option (Fin 24)) (drains : Bool) (s : State) :
    endOffer c m drains s = offerLineLeaves c m drains (offerRowFreed c s) := rfl

theorem offerRowFreed_moves (c : Fin 24) (s : State) : Moves s (offerRowFreed c s) := by
  unfold offerRowFreed
  split
  exacts [freeRow_moves _ c s, .refl]

theorem offerLineLeaves_moves (c : Fin 24) (m : Option (Fin 24)) (drains : Bool) (s : State) : Moves s (offerLineLeaves c m drains s) := by
  unfold offerLineLeaves
  split
  · next l _ =>
    have htold : Moves s (notifyIf l m (endLineAdmission l s)) := (endLineAdmission_moves l s).trans (notifyIf_moves l m _)
    exact ite_moves (fun _ => htold.trans (removeRequest_moves l _)) fun _ => htold.trans (channelGone_moves l _)
  · exact .refl

theorem endOffer_moves (c : Fin 24) (m : Option (Fin 24)) (drains : Bool) (s : State) : Moves s (endOffer c m drains s) :=
  (offerRowFreed_moves c s).trans (offerLineLeaves_moves c m drains _)

theorem rejectOffer_moves (c : Fin 24) (a : Byte) (s : State) : Moves s (rejectOffer c a s) :=
  ((updChannel_moves c (fun x => { x with lastReject := a }) s).trans (endOffer_moves c (some Config.mHostRefused) true _)).trans
    (updChannel_moves c (fun x => { x with state := .free, line := none, row := none, timer := none }) _)

theorem abandonOffer_moves (c : Fin 24) (why : CloseReason) (m : Option (Fin 24)) (drains : Bool) (s : State) :
    Moves s (abandonOffer c why m drains s) :=
  ((endOffer_moves c m drains s).trans (updChannel_moves c _ _)).trans (handControl_moves c _ _)

theorem acceptOffer_moves (c : Fin 24) (s : State) : Moves s (acceptOffer c s) := by
  unfold acceptOffer
  split
  · split
    · exact (((updChannel_moves c _ s).trans (setAnnounced_moves c _ _)).trans (connectRequest_moves _ _)).trans (startMeter_moves c _ _ _ _)
    · exact .refl
  · exact .refl

theorem freeChannel_moves (c : Fin 24) (s : State) : Moves s (freeChannel c s) := (Move.plain rfl).single

theorem loseChannel_moves (c : Fin 24) (s : State) : Moves s (loseChannel c s) := by
  unfold loseChannel
  split
  · exact (endOffer_moves c _ true s).trans (freeChannel_moves c _)
  · split
    exacts [(notify_moves _ _ _ s).trans (closeRequest_moves c _ _ _), .refl]
  · exact freeChannel_moves c s
  · exact freeChannel_moves c s
  · exact .refl

theorem serviceCloseChannel_moves (why : CloseReason) (c : Fin 24) (s : State) : Moves s (serviceCloseChannel why c s) := by
  unfold serviceCloseChannel
  split
  · exact abandonOffer_moves c why _ true s
  · split
    exacts [(notify_moves _ _ _ s).trans (closeRequest_moves c _ _ _), .refl]
  all_goals exact .refl

theorem meters_moves (v : Vector (Option Meter) 24) (s : State) : Moves s { s with meters := v } := (Move.plain rfl).single

theorem restoreAccount_moves (a : Fin 256) (s : State) : Moves s (restoreAccount a s) := meters_moves _ s

theorem restoreIfAbove_moves (a : Fin 256) (s : State) : Moves s (restoreIfAbove a s) :=
  ite_moves (fun _ => restoreAccount_moves a s) fun _ => .refl

/-! ## The sign-on dialogue (chapter 2) -/

theorem dialogueChar_moves (l : Fin 32) (c : Byte) (s : State) : Moves s (dialogueChar l c s) := by
  unfold dialogueChar
  split
  · have htaken : ∀ r : List Byte × Phase × List Byte, Moves s (s.updLine l fun ln =>
        { ln.placeAll r.2.2 with dialogue := { ln.dialogue with user := r.1, phase := r.2.1 } }) := fun r => by
      refine updLine_moves l ?_ s
      exact fun ln h => (Line.placeAll_ok h r.2.2).congr rfl rfl rfl rfl rfl
    exact (htaken _).trans (tryPrompt_moves l _)
  · exact ite_moves (fun _ => sameLine_moves l s) fun _ => sameLine_moves l s
  all_goals exact .refl

theorem beginDialogue_moves (l : Fin 32) (s : State) : Moves s (beginDialogue l s) :=
  ((sameLine_moves l s).trans (placeMessage_moves l _ _)).trans (tryPrompt_moves l _)

theorem enterSignon_moves (l : Fin 32) (s : State) : Moves s (enterSignon l s) :=
  (sameLine_moves l s).trans (beginDialogue_moves l _)

theorem answerDecision_moves (l : Fin 32) (s : State) : Moves s (answerDecision l s) := by
  have hanswers : Moves s (s.updLine l fun ln =>
      { ln with
        state := .answering
        timers := { ln.timers with ringGap := none, answer := s.after ((s.groupOf ln).answerTimeout * Config.second) } }) :=
    sameLine_moves l s
  exact ite_moves (fun _ => ite_moves (fun _ => hanswers.trans (enterSignon_moves l _)) fun _ => hanswers) fun _ => .refl

theorem countRing_le {n : Nat} (h : n ≤ 255) : countRing n ≤ 255 := by
  unfold countRing Config.ringLimit
  split <;> omega

theorem ring_moves (l : Fin 32) (s : State) : Moves s (ring l s) := by
  unfold ring
  split
  · have hrung : Moves s (s.updLine l fun ln => { ln with
        state := .ringing, rings := 1, group := s.captureGroup l
        timers := { ln.timers with ringGap := s.after Config.ringGap } }) := by
      refine updLine_moves l ?_ s
      exact fun ln h => h.quiet rfl rfl rfl (Nat.le_of_ble_eq_true rfl) rfl
    exact hrung.trans (answerDecision_moves l _)
  · have hrung : Moves s (s.updLine l fun ln => { ln with
        rings := countRing ln.rings, timers := { ln.timers with ringGap := s.after Config.ringGap } }) := by
      refine updLine_moves l ?_ s
      exact fun ln h => h.quiet rfl rfl rfl (countRing_le h.rings_le) rfl
    exact hrung.trans (answerDecision_moves l _)
  all_goals exact .refl

/-- The shadow of an entry that the directory found is written, in a store in canonical form. -/
theorem setShadow_moves {s : State} {i : Nat} (hi : s.dir.wf = true → i < 1024) (f : Directory → Shadow) :
    Moves s (s.updDir fun d => d.setShadow i (f d)) :=
  (Move.directory _ fun hwf hsound => ⟨Directory.setShadow_wf hwf (hi hwf) _, hsound, Iff.rfl⟩).single

theorem countAttempt_moves (l : Fin 32) (s : State) : Moves s (countAttempt l s) := by
  refine updLine_moves l (fun ln h => ?_) s
  obtain ⟨⟨hrx, htx, hn, hr, ho, hd, hdr, hf⟩, hnodup⟩ := h
  exact ⟨⟨hrx, htx, hn, hr, ho, hd, hdr, raise_le hf⟩, hnodup⟩

theorem afterRefusedAttempt_moves (l : Fin 32) (s : State) : Moves s (afterRefusedAttempt l s) :=
  ite_moves (fun _ => ((sameLine_moves l s).trans (retryRequest_moves l _)).trans (tryPrompt_moves l _))
    fun _ => (endDialogue_moves l s).trans (refuseRequest_moves l _)

theorem refusePassword_moves (l : Fin 32) {found : Option Nat} {s : State} (h : ∀ i, found = some i → s.dir.wf = true → i < 1024) :
    Moves s (refusePassword l found s) := by
  have hcounted : Moves s (countAttempt l (placeMessage l Config.mInvalid s)) := (placeMessage_moves l _ s).trans (countAttempt_moves l _)
  cases found with
  | none => exact hcounted.trans (afterRefusedAttempt_moves l _)
  | some i =>
    have hrecorded : Moves s (recordFailure i (countAttempt l (placeMessage l Config.mInvalid s))) :=
      hcounted.trans (setShadow_moves (s := countAttempt l (placeMessage l Config.mInvalid s)) (h i rfl) _)
    exact hrecorded.trans (afterRefusedAttempt_moves l _)

theorem joinQueue_moves (l : Fin 32) (priority : Bool) (s : State) : Moves s (joinQueue l priority s) := by
  have hjoined : ∀ q : List Waiter, Moves s { s with queue := q } := fun q => (Move.plain rfl).single
  unfold joinQueue
  dsimp only
  split
  all_goals exact (hjoined _).trans (notify_moves l _ _ _)

theorem admitCaller_moves (l : Fin 32) {i : Nat} (e : Entry) {s : State} (h : s.dir.wf = true → i < 1024) :
    Moves s (admitCaller l i e s) := by
  have hreset : Moves s (resetFailures i s) := setShadow_moves h fun d => { d.shadowOf i with failures := 0 }
  have hnamed := (hreset.trans (sameLine_moves l (f := fun ln =>
    { ln with admission := some ⟨(s.line l).dialogue.code, e.account, e.cls, s.cal.classes[e.cls].priority⟩ }) _)).trans
    (updAccount_moves e.account (f := fun a => { a with openCount := a.openCount + 1 }) (fun _ h => h) _)
  exact ((hnamed.trans (endDialogue_moves l _)).trans (admitRequest_moves l _)).trans (joinQueue_moves l _ _)

theorem decideLookup_moves (l : Fin 32) {found : Option (Nat × Entry)} {s : State}
    (h : ∀ i e, found = some (i, e) → s.dir.wf = true → i < 1024) : Moves s (decideLookup l found s) := by
  unfold decideLookup
  refine ite_moves (fun _ => refuseCall_moves l _ s) fun _ => ?_
  split
  · exact refusePassword_moves l (by simp)
  · next i e =>
    refine ite_moves (fun _ => refusePassword_moves l fun j hj => ?_) fun _ => ite_moves (fun _ => ?_) fun _ => ?_
    · obtain rfl := Option.some.inj hj
      exact h _ e rfl
    · exact ((placeMessage_moves l _ s).trans (countAttempt_moves l _)).trans (afterRefusedAttempt_moves l _)
    · split
      · exact refuseCall_moves l _ s
      · exact admitCaller_moves l e (h i e rfl)

theorem clearLookup_moves (l : Fin 32) (s : State) : Moves s (clearLookup l s) := sameLine_moves l s

/-! ## Carrier loss, supervision and the trunk -/

theorem loseCarrier_moves (l : Fin 32) (s : State) : Moves s (loseCarrier l s) := by
  unfold loseCarrier
  split
  · exact ((endDialogue_moves l s).trans (toClearing_moves l _)).trans (drainEnd_moves _)
  · exact ((endDialogue_moves l s).trans (toClearing_moves l _)).trans (drainEnd_moves _)
  · exact (removeWaiter_moves l none false s).trans (toClearing_moves l _)
  · split
    exacts [(abandonOffer_moves _ _ none false s).trans (toClearing_moves l _), toClearing_moves l s]
  · split
    exacts [(closeRequest_moves _ l _ s).trans (toClearing_moves l _), toClearing_moves l s]
  · exact toClearing_moves l s
  all_goals exact .refl

theorem activity_moves (l : Fin 32) (k : Nat) (s : State) : Moves s (activity l k s) :=
  ite_moves (fun _ => sameLine_moves l (f := fun ln =>
    { ln with
      idleWarned := false
      timers := { ln.timers with idle :=
        if (s.groupOf (s.line l)).idleWarn = 0 then none else s.after ((s.groupOf (s.line l)).idleWarn * Config.minute) } }) s)
    fun _ => .refl

theorem flowGo_moves (l : Fin 32) (s : State) : Moves s (flowGo l s) := by
  unfold flowGo
  dsimp only
  split
  · exact ite_moves (fun _ => (setAnnounced_moves _ _ s).trans (handControl_moves _ _ _)) fun _ => .refl
  · exact .refl

theorem takeData_moves (c : Fin 24) (cs : List Byte) (s : State) : Moves s (takeData c cs s) := by
  unfold takeData
  split
  · split
    · exact (updLine_moves _ (fun _ h => Line.placeAll_ok h cs) s).trans
        (ite_moves (fun _ => (setAnnounced_moves c _ _).trans (handControl_moves c _ _)) fun _ => .refl)
    · exact .refl
  · exact .refl
  · exact .refl
  all_goals exact protocolError_moves s

theorem takeControls_suffix (space : Nat) (q : List Control) : (takeControls space q).2 <:+ q := by
  induction q generalizing space with
  | nil => exact List.suffix_refl []
  | cons c t ih =>
    unfold takeControls
    split
    exacts [(ih _).trans (List.suffix_cons c t), List.suffix_refl _]

theorem giveSegment_moves (r : State × List Byte) (c : Fin 24) : Moves r.1 (giveSegment r c).1 := by
  unfold giveSegment
  split
  · exact .refl
  · next l _ =>
    split
    · have htaken : ∀ n, Moves r.1 (r.1.updLine l fun ln => { ln with rx := ln.rx.drop n }) := fun n => by
        refine updLine_moves l (fun ln h => ?_) r.1
        obtain ⟨⟨hrx, hrest⟩, hnodup⟩ := h
        exact ⟨⟨(by rw [List.length_drop]; exact Nat.sub_le _ _ : (ln.rx.drop n).length ≤ ln.rx.length).trans hrx, hrest⟩, hnodup⟩
      exact (htaken _).tail (.trunk (fun t => { t with pointer := c }) ⟨id, .inl ⟨rfl, rfl⟩⟩ rfl)
    · exact .refl

theorem serveTurn_moves (cs : List (Fin 24)) (r : State × List Byte) : Moves r.1 (serveTurn cs r).1 := by
  induction cs generalizing r with
  | nil => exact .refl
  | cons c cs ih => exact (giveSegment_moves r c).trans (ih _)

theorem buildPayload_moves (s : State) : Moves s (buildPayload s).1 := by
  have hcontrols : Moves s (setControls (takeControls Config.payload s.trunk.controls).2 s) :=
    (Move.trunk _ ⟨fun h => h.sublist ((takeControls_suffix _ _).sublist.map _), .inl ⟨rfl, rfl⟩⟩ rfl).single
  exact hcontrols.trans (serveTurn_moves (turn s.trunk.pointer) (setControls _ s, _))

theorem sendBlock_moves {s : State} (h : s.trunk.counter < s.trunk.nd) : Moves s (sendBlock s) := by
  have hcount : (buildPayload s).1.trunk.counter < (buildPayload s).1.trunk.nd := by simpa using h
  unfold sendBlock
  exact (buildPayload_moves s).tail (.trunk _ ⟨id, .inr ⟨hcount, rfl, rfl⟩⟩ rfl)

/-! ## The stage buffer (R52 to R59) -/

theorem Stage.powerOn_sound : Stage.powerOn.Sound :=
  ⟨⟨List.Pairwise.nil, fun h => absurd rfl h⟩, fun _ => ⟨rfl, rfl⟩, rfl, rfl, rfl⟩

/-- A change of the stage buffer that keeps it sound and leaves the write in progress. -/
theorem updStage_moves {f : Stage → Stage} (s : State) (h : s.dir.stage.Sound → (f s.dir.stage).Sound)
    (hw : s.dir.stage.Sound → ((f s.dir.stage).write = .none ↔ s.dir.stage.write = .none)) : Moves s (s.updStage f) :=
  (Move.directory _ fun hwf hsound => ⟨hwf, h hsound, hw hsound⟩).single

theorem Stage.Sound.write_of_staging {g : Stage} (h : g.Sound) (hst : g.state = .staging) :
    g.staged ≠ [] ∧ g.write = .none ∧ g.expired = false := by
  obtain ⟨-, -, h⟩ := h
  rwa [hst] at h

theorem Stage.Sound.of_empty {g : Stage} (h : g.Sound) (hst : g.state = .empty) :
    g.staged = [] ∧ g.write = .none ∧ g.expired = false := by
  obtain ⟨-, -, h⟩ := h
  rwa [hst] at h

theorem Stage.Sound.of_committing {g : Stage} (h : g.Sound) (hst : g.state = .committing) :
    g.write ≠ .none ∧ (g.write = .page → g.staged ≠ [] ∧ g.timer = none) := by
  obtain ⟨-, -, h⟩ := h
  rwa [hst] at h

theorem restartStage_moves (s : State) : Moves s (restartStage s) := by
  refine ite_moves (fun hst => updStage_moves s (fun h => ?_) fun _ => Iff.rfl) fun _ => .refl
  obtain ⟨hstaged, hwrite⟩ := h.write_of_staging hst
  obtain ⟨hord, -, -⟩ := h
  refine ⟨hord, fun he => absurd he hstaged, ?_⟩
  rw [hst]
  exact ⟨hstaged, hwrite⟩

/-- The entries of the buffer after an entry of its page joined them. -/
theorem mem_insertStaged {e x : Staged} {es : List Staged} (h : x ∈ insertStaged e es) : x = e ∨ x ∈ es := by
  induction es with
  | nil => exact .inl (by simpa [insertStaged] using h)
  | cons y t ih =>
    unfold insertStaged at h
    split at h
    · simpa using h
    split at h
    · rcases List.mem_cons.mp h with h | h
      exacts [.inl h, .inr (List.mem_cons_of_mem _ h)]
    · rcases List.mem_cons.mp h with h | h
      · exact .inr (h ▸ List.mem_cons_self)
      · exact (ih h).imp_right (List.mem_cons_of_mem _)

theorem insertStaged_sorted (e : Staged) {es : List Staged} (h : es.Pairwise fun a b => a.index < b.index) :
    (insertStaged e es).Pairwise fun a b => a.index < b.index := by
  induction es with
  | nil => exact List.pairwise_singleton _ _
  | cons y t ih =>
    have hy := List.pairwise_cons.mp h
    unfold insertStaged
    split
    · next hlt => exact List.pairwise_cons.mpr ⟨fun x hx => by
        rcases List.mem_cons.mp hx with rfl | hx
        exacts [hlt, hlt.trans (hy.1 x hx)], h⟩
    split
    · next heq => exact List.pairwise_cons.mpr ⟨fun x hx => heq ▸ hy.1 x hx, hy.2⟩
    · next hlt hne =>
      refine List.pairwise_cons.mpr ⟨fun x hx => ?_, ih hy.2⟩
      rcases mem_insertStaged hx with rfl | hx
      exacts [lt_of_le_of_ne (not_lt.mp hlt) (Ne.symm hne), hy.1 x hx]

theorem insertStaged_ne_nil (e : Staged) (es : List Staged) : insertStaged e es ≠ [] := by
  cases es with
  | nil => simp [insertStaged]
  | cons y t =>
    unfold insertStaged
    split
    · simp
    split <;> simp

theorem stageEntry_moves {e : Staged} {s : State}
    (h : s.dir.stage.state = .empty ∨ s.dir.stage.state = .staging ∧ s.dir.stage.page = some (pageOf e.index)) :
    Moves s (stageEntry e s) := by
  have hwrite : s.dir.stage.Sound → s.dir.stage.write = .none ∧ s.dir.stage.expired = false := fun hsound => by
    rcases h with h | ⟨h, -⟩
    exacts [(hsound.of_empty h).2, (hsound.write_of_staging h).2]
  have hpage : s.dir.stage.Sound → ∀ x ∈ s.dir.stage.staged, x.index.val / 8 = (pageOf e.index).val := fun hsound x hx => by
    obtain ⟨⟨-, hord⟩, -, -⟩ := id hsound
    rcases h with h | ⟨-, h⟩
    · rw [(hsound.of_empty h).1] at hx
      exact absurd hx List.not_mem_nil
    · obtain ⟨p, hp, hall⟩ := hord (List.ne_nil_of_mem hx)
      obtain rfl := Option.some.inj (h.symm.trans hp)
      exact hall x hx
  refine updStage_moves s (fun hsound => ?_) fun _ => Iff.rfl
  have hne := insertStaged_ne_nil e s.dir.stage.staged
  obtain ⟨⟨hsorted, -⟩, -, -⟩ := id hsound
  refine ⟨⟨insertStaged_sorted e hsorted, fun _ => ⟨pageOf e.index, rfl, fun x hx => ?_⟩⟩, fun h => absurd h hne, hne, hwrite hsound⟩
  rcases mem_insertStaged hx with rfl | hx
  exacts [rfl, hpage hsound x hx]

theorem stageEmptied_moves {s : State} (h : s.dir.stage.state = .staging) : Moves s (s.updStage fun _ => .powerOn) := by
  refine updStage_moves s (fun _ => Stage.powerOn_sound) fun hsound => ?_
  simp [Stage.powerOn, (hsound.write_of_staging h).2.1]

theorem expiryHeld_moves {s : State} (h : s.dir.stage.state = .committing) :
    Moves s (s.updStage fun g => { g with timer := none, expired := true }) := by
  refine updStage_moves s (fun hsound => ?_) fun _ => Iff.rfl
  obtain ⟨hwrite, hpage⟩ := hsound.of_committing h
  obtain ⟨hord, hnil, -⟩ := hsound
  refine ⟨hord, fun he => ⟨(hnil he).1, rfl⟩, ?_⟩
  rw [h]
  exact ⟨hwrite, fun hp => ⟨(hpage hp).1, rfl⟩⟩

theorem stageRestarted_moves (s : State) : Moves s (s.updStage Stage.restart) := by
  have hnoWrite : s.dir.stage.Sound → s.dir.stage.state ≠ .committing → s.dir.stage.write = .none := fun hsound hst => by
    cases h : s.dir.stage.state with
    | empty => exact (hsound.of_empty h).2.1
    | staging => exact (hsound.write_of_staging h).2.1
    | committing => exact absurd h hst
  have hkept : (s.dir.stage.restart.write = .none ↔ s.dir.stage.write = .none) := by
    unfold Stage.restart
    split
    all_goals simp_all [Stage.powerOn]
  refine updStage_moves s (fun hsound => ?_) fun _ => hkept
  have hcommitting : s.dir.stage.write ≠ .none → s.dir.stage.state = .committing := fun hw =>
    by_contra fun hst => hw (hnoWrite hsound hst)
  have hdropped : s.dir.stage.write ≠ .none → s.dir.stage.write ≠ .page →
      ({ s.dir.stage with page := none, staged := [], timer := none } : Stage).Sound := fun hw hp => by
    refine ⟨⟨List.Pairwise.nil, fun h => absurd rfl h⟩, fun _ => ⟨rfl, rfl⟩, ?_⟩
    rw [hcommitting hw]
    exact ⟨hw, fun h => absurd h hp⟩
  unfold Stage.restart
  split
  · exact hsound
  · exact Stage.powerOn_sound
  · next h => exact hdropped (by simp [h]) (by simp [h])
  · next h => exact hdropped (by simp [h]) (by simp [h])

/-! ## Every effect is made of elementary changes -/

theorem freeAllChannels_moves (s : State) : Moves s (freeAllChannels s) :=
  foldl_moves (fun s c => freeChannel c s) (fun s c => freeChannel_moves c s) allChannels s

theorem serviceCloseAll_moves (why : CloseReason) (s : State) : Moves s (serviceCloseAll why s) :=
  foldl_moves (fun s c => serviceCloseChannel why c s) (fun s c => serviceCloseChannel_moves why c s) allChannels s

theorem callEnds_moves (l : Fin 32) (s : State) : Moves s (s.updLine l Line.endCall) := by
  refine updLine_moves l ?_ s
  exact fun ln h => h.quiet rfl rfl rfl (Nat.zero_le _) rfl

theorem stopRinging_moves (l : Fin 32) (st : LineState) (s : State) : Moves s (s.updLine l (stopRinging st)) := by
  refine updLine_moves l ?_ s
  exact fun ln h => h.quiet rfl rfl rfl (Nat.zero_le _) rfl

theorem sent_moves {l : Fin 32} {c : Byte} {rest : List Byte} {s : State} (h : (s.line l).tx = c :: rest) :
    Moves s (s.setLine l { s.line l with tx := rest, lastSent := some c }) := by
  refine (Move.line l _ fun hok => ?_).single
  obtain ⟨⟨hrx, htx, hcounters⟩, hnodup⟩ := hok
  rw [h, List.length_cons] at htx
  exact ⟨⟨hrx, Nat.le_of_succ_le htx, hcounters⟩, hnodup⟩

theorem noticeTaken_moves {l : Fin 32} (x : Option Sending) {rest : List Notice} {s : State} (h : rest <:+ (s.line l).notices) :
    Moves s (s.setLine l { s.line l with sending := x, notices := rest }) := by
  refine (Move.line l _ fun hok => ?_).single
  obtain ⟨⟨hrx, htx, hn, hcounters⟩, hnodup⟩ := hok
  exact ⟨⟨hrx, htx, h.length_le.trans hn, hcounters⟩, hnodup.sublist (h.sublist.map _)⟩

theorem countersCleared_moves (l : Fin 32) (s : State) : Moves s (s.updLine l fun ln => { ln with counters := .zero }) := by
  refine updLine_moves l (fun ln h => ?_) s
  obtain ⟨⟨hrx, htx, hn, hr, -⟩, hnodup⟩ := h
  exact ⟨⟨hrx, htx, hn, hr, Nat.zero_le _, Nat.zero_le _, Nat.zero_le _, Nat.zero_le _⟩, hnodup⟩

theorem linesRestarted_moves (s : State) : Moves s (restartLines s) := by
  refine (Move.lines _ fun l h => ?_).single
  obtain ⟨⟨hrx, htx, -, hr, -⟩, -⟩ := h
  exact ⟨⟨hrx, htx, Nat.zero_le _, hr, Nat.zero_le _, Nat.zero_le _, Nat.zero_le _, Nat.zero_le _⟩, List.nodup_nil⟩

theorem accountLoaded_moves (a : Fin 256) (st : AccountState) {b : Int} {o : Nat} (w : Int) (l : Nat) (h : -(o : Int) ≤ b ∧ b ≤ 8388607)
    (s : State) : Moves s (restoreIfAbove a (s.updAccount a fun x => (x.load st b o w l).rearm)) := by
  refine Relation.ReflTransGen.trans (updAccount_moves a (fun x _ => ?_) s) (restoreIfAbove_moves a _)
  unfold Account.rearm
  split
  all_goals exact h

theorem accountCredited_moves {a : Fin 256} {t : Int} {s : State} (h : (s.account a).floor ≤ t) :
    Moves s (restoreIfAbove a (s.updAccount a fun x => { x with balance := credited t }.rearm)) := by
  have hrange : (s.account a).InRange → ({ s.account a with balance := credited t }.rearm).InRange := fun hx => by
    have hcredited : (s.account a).floor ≤ credited t ∧ credited t ≤ 8388607 := by
      obtain ⟨hlow, hhigh⟩ := hx
      unfold credited Config.balanceLimit
      split <;> omega
    unfold Account.rearm
    split
    all_goals exact hcredited
  exact (Move.account a _ hrange).single.trans (restoreIfAbove_moves a _)

theorem Effect.moves {s t : State} (h : Effect s t) : Moves s t := by
  cases h with
  | powerOn w => exact (Move.powerOn w).single
  | released | time | watches | groups | message | keyRead => exact (Move.plain rfl).single
  | ringLevel l b | carrierLevel l b | outOfService l b => exact sameLine_moves l s
  | ring l => exact ring_moves l s
  | carrierUp l => exact ite_moves (fun _ => enterSignon_moves l s) fun _ => ite_moves (fun _ => sameLine_moves l s) fun _ => .refl
  | carrierDown l => exact ite_moves (fun _ => sameLine_moves l s) fun _ => .refl
  | dialogueChar l c => exact dialogueChar_moves l c s
  | received l c => exact updLine_moves l (fun _ h => Line.receive_ok h c) s
  | activity l k => exact activity_moves l k s
  | control c k => exact handControl_moves c k s
  | sent l c rest h => exact sent_moves h
  | flowGo l => exact flowGo_moves l s
  | noticeTaken l x rest h => exact noticeTaken_moves x h
  | prompt l => exact tryPrompt_moves l s
  | cleared l => exact toClearing_moves l s
  | ringingStops l st => exact stopRinging_moves l st s
  | callRefused l m => exact refuseCall_moves l m s
  | carrierLost l => exact loseCarrier_moves l s
  | callEnds l => exact callEnds_moves l s
  | idleWarning l => exact (notify_moves l _ _ s).trans (sameLine_moves l _)
  | lookupCleared l => exact clearLookup_moves l s
  | lookupDecided l =>
    exact (clearLookup_moves l s).trans (decideLookup_moves l fun i e hfound hwf => (Directory.find_some hwf hfound).1)
  | granted w c r a hgrant => exact grantTo_moves _ a c (State.grantable_row hgrant)
  | positionTold l v t => exact (notify_moves l _ v s).trans (.single (.plain rfl))
  | waiterRemoved l m => exact removeWaiter_moves l m true s
  | offerExpired c => exact ((endOffer_moves c _ true s).trans (updChannel_moves c _ _)).trans (filterControls_moves _ _)
  | closeExpired c | hostFlow c | channelPriority c | channelCleared c => exact updChannel_moves c _ s
  | closeConfirmed c => exact updChannel_moves c _ s
  | sessionClosed c why => exact closeSession_moves c why s
  | notified l m v => exact notify_moves l m v s
  | sticky => exact (Move.management _ ⟨rfl, .inl rfl, le_rfl⟩).single
  | service => exact (Move.management _ ⟨rfl, .inl rfl, le_rfl⟩).single
  | drainChecked => exact drainEnd_moves s
  | calendar f hweek => exact (Move.calendar f hweek).single
  | boundary p q c => exact meterBoundary_moves p q c s
  | periodReported q c => exact updMeter_moves c _ s
  | permitReported k x c => exact meterPermit_moves k x c s
  | clockFlagged => exact meters_moves _ s
  | trunkState => exact (Move.trunk _ ⟨id, .inl ⟨rfl, rfl⟩⟩ rfl).single
  | counted k h => exact (Move.counters k h).single
  | controlsEmptied =>
    exact (Move.trunk (fun t => { t with controls := [], announced := Vector.replicate 24 .go }) ⟨fun _ => List.nodup_nil, .inl ⟨rfl, rfl⟩⟩ rfl).single
  | channelLost c => exact loseChannel_moves c s
  | dataPlaced c cs => exact takeData_moves c cs s
  | offerAccepted c => exact acceptOffer_moves c s
  | offerRejected c a => exact rejectOffer_moves c a s
  | blockSent h => exact sendBlock_moves h
  | serviceSent => exact Move.service.single
  | lineReturned l => exact sameLine_moves l s
  | countersCleared l => exact countersCleared_moves l s
  | abandoned l m => exact abandon_moves l m s
  | offerAbandoned l c why m => exact abandonOffer_moves c why m true s
  | stageTimed => exact restartStage_moves s
  | staged e h => exact stageEntry_moves h
  | stageEmptied h => exact stageEmptied_moves h
  | expiryHeld h => exact expiryHeld_moves h
  | stageRestarted => exact stageRestarted_moves s
  | unlocked i => exact setShadow_moves (fun _ => i.isLt) _
  | tariffs f => exact (Move.directory _ fun hwf hsound => ⟨hwf, hsound, Iff.rfl⟩).single
  | accountLoaded a st b o w l h => exact accountLoaded_moves a st w l h s
  | accountState a st => exact updAccount_moves a (f := fun x => { x with state := st }) (fun _ h => h) s
  | accountCredited a t h => exact accountCredited_moves h
  | parameters p h => exact (Move.parameters p h).single
  | ticketReleased r => exact (Move.ticketReleased r).single
  | serviceClosed why c => exact serviceCloseChannel_moves why c s
  | callsRestarted => exact (serviceCloseAll_moves _ s).trans (freeAllChannels_moves _)
  | trunkRestarted =>
    refine .tail (Move.trunk (fun t => { t with controls := [], announced := Vector.replicate 24 .go })
      ⟨fun _ => List.nodup_nil, .inl ⟨rfl, rfl⟩⟩ rfl).single (.counters .zero fun _ => ?_)
    exact ⟨Nat.zero_le _, Nat.zero_le _, Nat.zero_le _, Nat.zero_le _⟩
  | linesRestarted => exact linesRestarted_moves s
  | deskCleared => exact (Move.management _ ⟨rfl, .inr rfl, Nat.zero_le _⟩).single

theorem Effects.moves {s t : State} (h : Effects s t) : Moves s t := by
  induction h with
  | refl => exact .refl
  | tail _ hlast ih => exact ih.trans hlast.moves

end Sys2Proof.Machine
end

section
/-! What every step keeps of each part of the state by itself: the lines (LinesKept), the store and the stage buffer (StoreKept), the desk, the control queue, the block cycle, the counters and the weekdays (FramesKept), the serials (SerialsKept) and the balances. -/

namespace Sys2Proof.Machine

open Sys2Proof

/-! ## Lines (R2, R3, R6, R18, R22) -/

def State.LinesOk (s : State) : Prop := ∀ l, (s.line l).Ok

theorem Line.powerOn_ok (ri dcd : Bool) : (Line.powerOn ri dcd).Ok := by
  refine ⟨⟨?_, ?_, ?_, ?_, ?_, ?_, ?_, ?_⟩, List.nodup_nil⟩
  all_goals exact Nat.zero_le _

theorem State.linesOk_iff {s : State} : s.LinesOk ↔ s.LinesBounded ∧ s.NoticesDistinct := forall_and

theorem State.linesOk_congr {s t : State} (h : t.lines = s.lines) (hs : s.LinesOk) : t.LinesOk := by
  intro l
  have hline : t.line l = s.line l := by simp only [State.line, h]
  exact hline ▸ hs l

theorem Move.linesOk {s t : State} (h : Move s t) (hs : s.LinesOk) : t.LinesOk := by
  cases h with
  | powerOn w => exact fun l => by rw [powerOnValues_line]; exact Line.powerOn_ok _ _
  | plain h => exact State.linesOk_congr (congrArg State.lines h) hs
  | line l x h =>
    intro k
    rw [State.setLine_line]
    split
    exacts [h (hs l), hs k]
  | lines f h => exact fun l => by rw [State.line_ofFn]; exact h l (hs l)
  | ticketClosed c m e why =>
    exact State.linesOk_congr (by simp) hs
  | _ => exact hs

/-- An effect with what the management unit then does at its desk keeps what no change of the desk touches. -/
theorem Act.keeps {P : State → Prop} (heffect : ∀ s t, Effect s t → P s → P t)
    (hdesk : ∀ (s : State) (m : Management), P s → P { s with mgt := m })
    (hcommit : ∀ s, P s → P (beginCommit s)) (hprotection : ∀ w s, P s → P (beginProtection w s))
    (hpage : ∀ s, P s → P (resumeLookups (s.updDir fun d => { d.commit with stage := .powerOn })))
    (hflags : ∀ s, P s → P (s.updDir fun d => { d with protect := d.protectedBy d.stage.write, stage := d.stage.afterProtection }))
    {s t : State} (h : Act s t) (hs : P s) : P t := by
  have hmoves : ∀ {s t}, Effects s t → P s → P t := fun h => h.keeps heffect
  have hfinish : ∀ data s, P s → P (finishWrite data s) := fun data s hs => by
    unfold finishWrite
    split
    exacts [hdesk _ _ (hdesk _ _ hs), hs]
  cases h with
  | effect h => exact heffect _ _ h hs
  | answered hroom h => exact hdesk _ _ (hmoves h hs)
  | writing hroom h hw =>
    refine hdesk _ _ ?_
    cases hw with
    | page => exact hcommit _ (hmoves h hs)
    | protection w => exact hprotection w _ (hmoves h hs)
  | partly => exact hdesk _ _ hs
  | dropped =>
    unfold dropPartial
    split
    exacts [hdesk _ _ (hdesk _ _ hs), hs]
  | completed p hp h => exact hdesk _ _ (hmoves h (hdesk s _ hs))
  | pageWritten => exact hfinish _ _ (hpage s hs)
  | protectionWritten => exact hfinish _ _ (hflags s hs)

/-- The desk and the writes of the store touch the lines, the directory and the management unit alone. -/
theorem Act.keeps_apart {P : State → Prop} (heffect : ∀ s t, Effect s t → P s → P t)
    (hapart : ∀ (s : State) (lines : Vector Line 32) (d : Directory) (m : Management), P s → P { s with lines := lines, dir := d, mgt := m })
    {s t : State} (h : Act s t) (hs : P s) : P t :=
  h.keeps heffect (fun s m => hapart s s.lines s.dir m) (fun s => hapart s _ _ s.mgt) (fun _ s => hapart s s.lines _ s.mgt)
    (fun s => hapart s _ _ s.mgt) (fun s => hapart s s.lines _ s.mgt) hs

theorem deferLookups_linesOk {s : State} (hs : s.LinesOk) : (deferLookups s).LinesOk := by
  intro l
  unfold deferLookups
  rw [State.line_ofFn]
  dsimp only
  split
  exacts [(hs l).congr rfl rfl rfl rfl rfl, hs l]

theorem resumeLookups_linesOk {s : State} (hs : s.LinesOk) : (resumeLookups s).LinesOk := by
  intro l
  unfold resumeLookups
  rw [State.line_ofFn]
  exact (hs l).congr rfl rfl rfl rfl rfl

/-- Settles O55: every elementary change keeps every line within its sizes; the desk, the store and the write completions touch no bounded field. -/
theorem linesKept : Obligations.LinesKept := by
  intro s t hbounded hdistinct h
  rw [← State.linesOk_iff]
  refine step_keeps (P := State.LinesOk) (fun _ _ h => h) (fun s t h hs => ?_) h (State.linesOk_iff.mpr ⟨hbounded, hdistinct⟩)
  exact h.keeps (fun _ _ h => h.moves.keeps fun _ _ => Move.linesOk) (fun _ _ h => h) (fun _ h => deferLookups_linesOk h) (fun _ _ h => h)
    (fun _ h => resumeLookups_linesOk h) (fun _ h => h) hs

/-! ## Balances (R69) -/

theorem State.balancesInRange_iff {s : State} : s.BalancesInRange ↔ ∀ a, (s.account a).InRange := Iff.rfl

theorem State.balances_congr {s t : State} (h : t.accounts = s.accounts) (hs : s.BalancesInRange) : t.BalancesInRange := by
  intro a
  have haccount : t.account a = s.account a := by simp only [State.account, h]
  exact haccount ▸ hs a

@[simp] theorem powerOnValues_account (w : Byte) (s : State) (a : Fin 256) : (powerOnValues w s).account a = .powerOn := by
  simp [powerOnValues, State.account, State.reset]

theorem Move.balances {s t : State} (h : Move s t) (hs : s.BalancesInRange) : t.BalancesInRange := by
  cases h with
  | powerOn w => exact fun a => by rw [powerOnValues_account]; simp [Account.powerOn, Account.floor]
  | plain h => exact State.balances_congr (congrArg State.accounts h) hs
  | account a x h =>
    intro k
    rw [State.setAccount_account]
    split
    exacts [h (hs a), hs k]
  | ticketClosed c m e why => exact State.balances_congr (by simp) hs
  | _ => exact State.balances_congr (s := s) (by simp) hs

theorem balancesKept {s t : State} (h : step s = .next t) (hs : s.BalancesInRange) : t.BalancesInRange := by
  refine step_keeps (P := State.BalancesInRange) (fun _ _ h => h) (fun s t h hs => ?_) h hs
  exact h.keeps_apart (fun _ _ h => h.moves.keeps fun _ _ => Move.balances) (fun s _ _ _ => State.balances_congr (s := s) rfl) hs

/-! ## Ticket serials (R152, R153) -/

theorem iterate_nextSerial {n : Nat} (h : 1 ≤ n ∧ n ≤ 65535) (k : Nat) : nextSerial^[k] n = serialAfter n k := by
  induction k with
  | zero => simp only [Function.iterate_zero_apply, serialAfter]; omega
  | succ k ih =>
    rw [Function.iterate_succ_apply', ih]
    unfold nextSerial serialAfter
    split <;> omega

theorem serialAfter_range (n k : Nat) : 1 ≤ serialAfter n k ∧ serialAfter n k ≤ 65535 := by
  unfold serialAfter
  omega

theorem serialAfter_injOn (n : Nat) {i j : Nat} (hi : i < 65535) (hj : j < 65535) (h : serialAfter n i = serialAfter n j) : i = j := by
  unfold serialAfter at h
  omega

/-- R152: the search passes over held serials alone, and stops at the first that no row holds, if it meets one in time. -/
theorem skipHeld_spec (held : List Nat) (fuel n : Nat) : ∃ k ≤ fuel, skipHeld held fuel n = nextSerial^[k] n ∧
    (∀ j < k, nextSerial^[j] n ∈ held) ∧ (k < fuel → nextSerial^[k] n ∉ held) := by
  induction fuel generalizing n with
  | zero => exact ⟨0, le_rfl, rfl, by simp, by simp⟩
  | succ fuel ih =>
    unfold skipHeld
    split
    · next hheld =>
      obtain ⟨k, hk, hresult, hall, hfree⟩ := ih (nextSerial n)
      refine ⟨k + 1, Nat.succ_le_succ hk, hresult, fun j hj => ?_, fun h => hfree (Nat.lt_of_succ_lt_succ h)⟩
      cases j with
      | zero => simpa using hheld
      | succ j => exact hall j (Nat.lt_of_succ_lt_succ hj)
    · next hfree => exact ⟨0, Nat.zero_le _, rfl, by simp, fun _ => by simpa using hfree⟩

theorem State.heldSerials_eq (s : State) : s.heldSerials = allRows.filterMap fun r => (s.row r).serial := by
  unfold State.heldSerials
  congr 1

theorem State.mem_heldSerials {s : State} {n : Nat} : n ∈ s.heldSerials ↔ ∃ r, (s.row r).serial = some n := by
  simp [State.heldSerials_eq, allRows]

theorem State.heldSerials_length (s : State) : s.heldSerials.length ≤ 64 := by
  rw [State.heldSerials_eq]
  exact (List.length_filterMap_le _ _).trans (by simp [allRows])

/-- R152: with the serial just given among at most 64 held ones, the search from the next one finds a serial that no row holds. -/
theorem skipHeld_free {held : List Nat} {n : Nat} (hn : 1 ≤ n ∧ n ≤ 65535) (hheld : n ∈ held) (hlen : held.length ≤ 64) :
    ∃ k, 1 ≤ k ∧ k ≤ 64 ∧ skipHeld held 64 (nextSerial n) = serialAfter n k ∧ serialAfter n k ∉ held ∧
      ∀ j < k, serialAfter n j ∈ held := by
  obtain ⟨k, hk, hresult, hall, hfree⟩ := skipHeld_spec held 64 (nextSerial n)
  simp only [← Function.iterate_succ_apply, iterate_nextSerial hn] at hresult hall hfree
  have hpassed : ∀ j < k + 1, serialAfter n j ∈ held := fun j hj => by
    cases j with
    | zero => rwa [← iterate_nextSerial hn]
    | succ j => exact hall j (Nat.lt_of_succ_lt_succ hj)
  have hdistinct : k + 1 ≤ held.length := by
    have hnodup : ((List.range (k + 1)).map (serialAfter n)).Nodup := by
      refine List.Nodup.map_on (fun i hi j hj h => serialAfter_injOn n ?_ ?_ h) List.nodup_range
      all_goals simp only [List.mem_range] at hi hj; omega
    have hsub : (List.range (k + 1)).map (serialAfter n) ⊆ held := fun x hx => by
      obtain ⟨j, hj, rfl⟩ := List.mem_map.mp hx
      exact hpassed j (List.mem_range.mp hj)
    simpa using (hnodup.subperm hsub).length_le
  exact ⟨k + 1, Nat.le_add_left 1 k, by omega, hresult, hfree (by omega), hpassed⟩

/-- The close of a ticket takes effect when its row is reserved for the channel. -/
theorem closeTicket_cases (c : Fin 24) (m : Meter) (e : Bool) (why : CloseReason) (s : State) :
    closeTicket c m e why s = s ∨ ∃ r t, s.row m.row = .reserved r ∧ r.channel = c ∧ t.serial = s.tickets.serial ∧
      t.line = r.line ∧ t.user = r.user ∧ t.account = r.account ∧ t.cls = r.cls ∧ t.start = r.start ∧ t.reason = why ∧
      t.charge = m.charge ∧ t.debited = m.debited ∧ t.excess = m.excess ∧ t.elapsed = m.elapsed ∧ t.segments = m.segments ∧
      closeTicket c m e why s = { s.setRow m.row (.closed t) with tickets := { (s.setRow m.row (.closed t)).tickets with
        serial := skipHeld (s.setRow m.row (.closed t)).heldSerials 64 (nextSerial s.tickets.serial)
        closeList := s.tickets.closeList ++ [m.row] } } := by
  unfold closeTicket
  split
  · next r hr =>
    split
    · next hc => exact .inr ⟨r, _, hr, hc, rfl, rfl, rfl, rfl, rfl, rfl, rfl, rfl, rfl, rfl, rfl, rfl, rfl⟩
    · exact .inl rfl
  all_goals exact .inl rfl

def State.SerialsOk (s : State) : Prop := s.SerialsDistinct ∧ s.CloseListSound

theorem State.serialsOk_congr {s t : State} (hrow : ∀ r, (t.row r).serial = (s.row r).serial) (hserial : t.tickets.serial = s.tickets.serial)
    (hlist : t.tickets.closeList = s.tickets.closeList) (hs : s.SerialsOk) : t.SerialsOk := by
  unfold State.SerialsOk State.SerialsDistinct State.CloseListSound at *
  simpa only [hrow, hserial, hlist] using hs

theorem State.serialsOk_of_tickets {s t : State} (h : t.tickets = s.tickets) (hs : s.SerialsOk) : t.SerialsOk :=
  State.serialsOk_congr (fun r => by simp only [State.row, h]) (by rw [h]) (by rw [h]) hs

theorem closeTicket_serialsOk (c : Fin 24) (m : Meter) (e : Bool) (why : CloseReason) {s : State} (hs : s.SerialsOk) :
    (closeTicket c m e why s).SerialsOk := by
  rcases closeTicket_cases c m e why s with h | ⟨r, t, hrow, -, hserial, -, -, -, -, -, -, -, -, -, -, -, h⟩
  · rw [h]; exact hs
  rw [h]
  obtain ⟨⟨hinj, hcounter, hrange⟩, hnodup, hlist⟩ := hs
  have hrows : ∀ j, ((s.setRow m.row (.closed t)).row j).serial = if j = m.row then some s.tickets.serial else (s.row j).serial := fun j => by
    rw [State.setRow_row]
    split
    exacts [congrArg some hserial, rfl]
  have hfreed : (s.row m.row).serial = none := by rw [hrow]; rfl
  obtain ⟨k, -, -, hresult, hfree, -⟩ := skipHeld_free hrange
    (State.mem_heldSerials.mpr ⟨m.row, by rw [hrows, if_pos rfl]⟩) (s.setRow m.row (.closed t)).heldSerials_length
  rw [hresult]
  refine ⟨⟨fun i j n hi hj => ?_, fun j n hj hn => ?_, serialAfter_range _ _⟩, ?_, fun j => ?_⟩
  · change ((s.setRow m.row (.closed t)).row i).serial = some n at hi
    change ((s.setRow m.row (.closed t)).row j).serial = some n at hj
    rw [hrows] at hi hj
    split at hi <;> split at hj
    · next hi' hj' => exact hi'.trans hj'.symm
    · exact absurd (Option.some.inj hi).symm (hcounter j n hj)
    · exact absurd (Option.some.inj hj).symm (hcounter i n hi)
    · exact hinj i j n hi hj
  · subst hn
    exact hfree (State.mem_heldSerials.mpr ⟨j, hj⟩)
  · refine List.nodup_append.mpr ⟨hnodup, List.nodup_singleton _, fun x hx y hy hxy => ?_⟩
    obtain rfl : y = m.row := by simpa using hy
    have hsome := (hlist _).mp (hxy ▸ hx)
    rw [hfreed] at hsome
    cases hsome
  · change j ∈ s.tickets.closeList ++ [m.row] ↔ ((s.setRow m.row (.closed t)).row j).serial.isSome = true
    rw [hrows, List.mem_append, List.mem_singleton, hlist]
    by_cases hj : j = m.row
    · simp [hj]
    · simp [hj]

theorem releaseRow_serialsOk (r : Fin 64) {s : State} (hs : s.SerialsOk) : (releaseRow r s).SerialsOk := by
  obtain ⟨⟨hinj, hcounter, hrange⟩, hnodup, hlist⟩ := hs
  have hrows : ∀ j, ((releaseRow r s).row j).serial = if j = r then none else (s.row j).serial := fun j => by
    change ((s.setRow r .free).row j).serial = _
    rw [State.setRow_row]
    split <;> rfl
  have hkept : ∀ {j n}, ((releaseRow r s).row j).serial = some n → (s.row j).serial = some n := fun {j n} h => by
    rw [hrows] at h
    by_cases hj : j = r
    · rw [if_pos hj] at h
      cases h
    · rwa [if_neg hj] at h
  refine ⟨⟨fun i j n hi hj => hinj i j n (hkept hi) (hkept hj), fun j n hj => hcounter j n (hkept hj), hrange⟩, hnodup.filter _, fun j => ?_⟩
  rw [hrows]
  change j ∈ s.tickets.closeList.filter (fun x => decide (x ≠ r)) ↔ _
  rw [List.mem_filter, hlist]
  by_cases hj : j = r <;> simp [hj]

@[simp] theorem powerOnValues_row (w : Byte) (s : State) (r : Fin 64) : (powerOnValues w s).row r = .free := by
  simp [powerOnValues, State.row, State.reset, Tickets.powerOn]

theorem powerOn_serialsOk (w : Byte) (s : State) : (powerOnValues w s).SerialsOk := by
  have hnone : ∀ r, ((powerOnValues w s).row r).serial = none := fun r => by rw [powerOnValues_row]; rfl
  refine ⟨⟨fun r _ n h => ?_, fun r n h => ?_, le_refl 1, (by decide : 1 ≤ 65535)⟩, List.nodup_nil, fun r => ?_⟩
  · rw [hnone] at h
    cases h
  · rw [hnone] at h
    cases h
  · rw [hnone]
    exact ⟨fun h => absurd h List.not_mem_nil, fun h => nomatch h⟩

theorem Move.serialsOk {s t : State} (h : Move s t) (hs : s.SerialsOk) : t.SerialsOk := by
  cases h with
  | powerOn w => exact powerOn_serialsOk w s
  | plain h => exact State.serialsOk_of_tickets (congrArg State.tickets h) hs
  | row r x h hx =>
    refine State.serialsOk_congr (s := s) (fun j => ?_) rfl rfl hs
    rw [State.setRow_row]
    split
    · next hj => rw [hj, h, hx]
    · rfl
  | ticketClosed c m e why => exact closeTicket_serialsOk c m e why hs
  | ticketReleased r => exact releaseRow_serialsOk r hs
  | _ => exact State.serialsOk_of_tickets (s := s) (by simp) hs

/-- Settles O58: a ticket closes with the counter's serial and the counter moves to one that no row holds; a release takes its row from the close list. -/
theorem serialsKept : Obligations.SerialsKept := by
  intro s t hdistinct hlist h
  refine step_keeps (P := State.SerialsOk) (fun _ _ h => h) (fun s t h hs => ?_) h ⟨hdistinct, hlist⟩
  exact h.keeps_apart (fun _ _ h => h.moves.keeps fun _ _ => Move.serialsOk) (fun s _ _ _ => State.serialsOk_of_tickets (s := s) rfl) hs

/-! ## The store and the stage buffer (R47, R49, R52, R185) -/

def State.StoreOk (s : State) : Prop := s.dir.wf = true ∧ s.StageSound

theorem State.storeOk_congr {s t : State} (hdir : t.dir = s.dir) (hwriting : t.mgt.writing = s.mgt.writing) (hs : s.StoreOk) :
    t.StoreOk := by
  unfold State.StoreOk State.StageSound at *
  rwa [hdir, hwriting]

theorem Stage.afterProtection_sound {g : Stage} (h : g.Sound) : g.afterProtection.Sound ∧ g.afterProtection.write = .none := by
  unfold Stage.afterProtection
  split
  · exact ⟨Stage.powerOn_sound, rfl⟩
  · next hkeep =>
    rw [not_or] at hkeep
    obtain ⟨hord, -, -⟩ := h
    exact ⟨⟨hord, fun h => absurd h hkeep.2, hkeep.2, rfl, by simpa using hkeep.1⟩, rfl⟩

theorem Move.storeOk {s t : State} (h : Move s t) (hs : s.StoreOk) : t.StoreOk := by
  obtain ⟨hwf, hsound, hwriting⟩ := id hs
  cases h with
  | powerOn w => exact ⟨Directory.afterReset_wf hwf w, Stage.powerOn_sound, by simp [powerOnValues, State.reset, Management.powerOn, Directory.afterReset, Stage.powerOn]⟩
  | plain h => exact State.storeOk_congr (congrArg State.dir h) (congrArg (·.mgt.writing) h) hs
  | ticketClosed c m e why => exact State.storeOk_congr (by simp) (by simp) hs
  | directory f h =>
    obtain ⟨hwf', hsound', hwrite⟩ := h hwf hsound
    exact ⟨hwf', hsound', hwriting.trans (not_congr hwrite).symm⟩
  | management f h => exact State.storeOk_congr (s := s) rfl h.1 hs
  | _ => exact State.storeOk_congr (s := s) rfl rfl hs

/-- What a completed write leaves: the desk without its place, one reply more when there was one. -/
theorem finishWrite_mgt (data : List Byte) (s : State) : (finishWrite data s).mgt.writing = none ∧
    (finishWrite data s).dir = s.dir ∧ (finishWrite data s).mgt.held = s.mgt.held := by
  unfold finishWrite
  split
  · exact ⟨rfl, rfl, rfl⟩
  · next h => exact ⟨h, rfl, rfl⟩

theorem beginCommit_dir (s : State) : (beginCommit s).dir =
    { s.dir with stage := { s.dir.stage with state := .committing, write := .page, timer := none } } :=
  (deferLookups_frame _).2.2.2.2.2.2.1

theorem WriteBegins.storeOk {s t : State} (h : WriteBegins s t) (hs : s.StoreOk) :
    t.dir.wf = true ∧ t.dir.stage.Sound ∧ t.dir.stage.write ≠ .none := by
  obtain ⟨hwf, hsound, -⟩ := hs
  obtain ⟨hord, hnil, -⟩ := id hsound
  cases h with
  | page h =>
    obtain ⟨hstaged, -⟩ := hsound.write_of_staging h
    rw [beginCommit_dir]
    exact ⟨hwf, ⟨hord, fun he => ⟨(hnil he).1, rfl⟩, by simp, fun _ => ⟨hstaged, rfl⟩⟩, Write.noConfusion⟩
  | protection w h hw hp => exact ⟨hwf, ⟨hord, hnil, hw, fun h => absurd h hp⟩, hw⟩

theorem Act.storeOk {s t : State} (h : Act s t) (hs : s.StoreOk) : t.StoreOk := by
  have hmoves : ∀ {s t}, Effects s t → s.StoreOk → t.StoreOk := fun h => h.moves.keeps fun _ _ => Move.storeOk
  cases h with
  | effect h => exact h.moves.keeps (fun _ _ => Move.storeOk) hs
  | @answered t hroom h => exact State.storeOk_congr (s := t) rfl rfl (hmoves h hs)
  | writing hroom h hw =>
    obtain ⟨hwf, hsound, hwrite⟩ := hw.storeOk (hmoves h hs)
    exact ⟨hwf, hsound, iff_of_true rfl hwrite⟩
  | partly => exact State.storeOk_congr (s := s) rfl rfl hs
  | dropped =>
    unfold dropPartial
    split
    exacts [State.storeOk_congr (s := s) rfl rfl hs, hs]
  | @completed t p hp h =>
    exact State.storeOk_congr (s := t) rfl rfl (hmoves h (State.storeOk_congr (s := s) (t := s.updMgt fun m => { m with held := none }) rfl rfl hs))
  | pageWritten h data =>
    obtain ⟨hwriting, hdir, -⟩ := finishWrite_mgt data (resumeLookups (s.updDir fun d => { d.commit with stage := .powerOn }))
    unfold State.StoreOk State.StageSound
    rw [hwriting, hdir]
    exact ⟨Directory.commit_wf hs.1, Stage.powerOn_sound, by simp [resumeLookups, Stage.powerOn]⟩
  | protectionWritten =>
    obtain ⟨hwf, hsound, -⟩ := hs
    obtain ⟨hafter, hnone⟩ := Stage.afterProtection_sound hsound
    obtain ⟨hwriting, hdir, -⟩ := finishWrite_mgt [] (s.updDir fun d =>
      { d with protect := d.protectedBy d.stage.write, stage := d.stage.afterProtection })
    unfold State.StoreOk State.StageSound
    rw [hwriting, hdir]
    exact ⟨hwf, hafter, by simp [hnone]⟩

/-- Settles O54: the directory changes by single writes in canonical form, and a write begins and ends together with its reply place. -/
theorem storeKept : Obligations.StoreKept := by
  intro s t hwf hsound h
  exact step_keeps (P := State.StoreOk) (fun _ _ h => h) (fun _ _ => Act.storeOk) h ⟨hwf, hsound⟩

/-! ## The desk (R184, R185) -/

theorem Management.load_eq (m : Management) : m.load = m.replies.length + m.held.isSome.toNat + m.writing.isSome.toNat := by
  unfold Management.load
  cases m.held <;> cases m.writing <;> rfl

theorem Management.Respects.load_le {x y : Management} (h : x.Respects y) : y.load ≤ x.load := by
  obtain ⟨hwriting, hheld, hreplies⟩ := h
  rw [Management.load_eq, Management.load_eq, hwriting]
  rcases hheld with hheld | hheld
  all_goals rw [hheld]
  · omega
  · simp only [Option.isSome_none, Bool.toNat_false]
    omega

theorem Move.load_le {s t : State} (h : Move s t) : t.mgt.load ≤ s.mgt.load := by
  cases h with
  | powerOn w => exact Nat.zero_le _
  | plain h => exact (congrArg (·.mgt.load) h).le
  | ticketClosed c m e why => simp
  | management f h => exact h.load_le
  | service =>
    refine Management.Respects.load_le ⟨rfl, .inl rfl, ?_⟩
    simp [sendService]
  | _ => simp

theorem Effects.load_le {s t : State} (h : Effects s t) : t.mgt.load ≤ s.mgt.load :=
  h.moves.keeps (P := fun t => t.mgt.load ≤ s.mgt.load) (fun _ _ h hs => h.load_le.trans hs) le_rfl

theorem State.repliesBounded_iff {s : State} : s.RepliesBounded ↔ s.mgt.load ≤ 16 := Iff.rfl

theorem load_queueReply (tag code : Byte) (r : Result) (data : List Byte) (s : State) :
    (queueReply tag code r data s).mgt.load = s.mgt.load + 1 := by
  simp only [queueReply, State.updMgt_mgt, Management.load_eq, List.length_append, List.length_singleton]
  omega

theorem load_finishWrite (data : List Byte) (s : State) : (finishWrite data s).mgt.load = s.mgt.load := by
  unfold finishWrite
  split
  · next h =>
    rw [load_queueReply]
    simp only [State.updMgt_mgt, Management.load_eq, h, Option.isSome_none, Option.isSome_some, Bool.toNat_false, Bool.toNat_true]
  · rfl

theorem load_unheld {s : State} {p : PartialCommand} (h : s.mgt.held = some p) :
    (s.updMgt fun m => { m with held := none }).mgt.load + 1 = s.mgt.load := by
  simp only [State.updMgt_mgt, Management.load_eq, h, Option.isSome_none, Option.isSome_some, Bool.toNat_false, Bool.toNat_true]
  omega

theorem WriteBegins.mgt {s t : State} (h : WriteBegins s t) : t.mgt = s.mgt := by
  cases h with
  | page h => simp
  | protection w h hw hp => rfl

theorem Act.load_le {s t : State} (h : Act s t) (hs : s.mgt.load ≤ 16) : t.mgt.load ≤ 16 := by
  cases h with
  | effect h => exact (Effects.load_le h.single).trans hs
  | @answered t hroom h =>
    rw [load_queueReply]
    exact Nat.succ_le_of_lt (h.load_le.trans_lt hroom)
  | @writing t u hroom h hw tag code =>
    have hload := h.load_le.trans_lt hroom
    rw [← hw.mgt] at hload
    simp only [State.updMgt_mgt, Management.load_eq, Option.isSome_some, Bool.toNat_true] at hload ⊢
    omega
  | partly hroom hnone p hp =>
    simp only [State.updMgt_mgt, Management.load_eq, hnone, Option.isSome_some, Option.isSome_none, Bool.toNat_true, Bool.toNat_false] at hroom ⊢
    omega
  | dropped =>
    unfold dropPartial
    split
    · next p hp => rw [load_queueReply, load_unheld hp]; exact hs
    · exact hs
  | completed p hp h =>
    rw [load_queueReply]
    exact (Nat.succ_le_succ h.load_le).trans ((load_unheld hp).le.trans hs)
  | pageWritten => rw [load_finishWrite]; simpa using hs
  | protectionWritten => rw [load_finishWrite]; exact hs

theorem Move.held {s t : State} (h : Move s t) : t.mgt.held = s.mgt.held ∨ t.mgt.held = none := by
  cases h with
  | powerOn w => exact .inr rfl
  | plain h => exact .inl (congrArg (·.mgt.held) h)
  | ticketClosed c m e why => exact .inl (by simp)
  | management f h => exact h.2.1
  | _ => exact .inl rfl

theorem Move.partialSound {s t : State} (h : Move s t) (hs : s.PartialSound) : t.PartialSound := by
  intro p hp
  rcases h.held with h | h
  · exact hs p (h ▸ hp)
  · rw [h] at hp
    cases hp

theorem Act.partialSound {s t : State} (h : Act s t) (hs : s.PartialSound) : t.PartialSound := by
  have hmoves : ∀ {s t}, Effects s t → s.PartialSound → t.PartialSound := fun h => h.moves.keeps fun _ _ => Move.partialSound
  have hfinish : ∀ data s, s.PartialSound → (finishWrite data s).PartialSound := fun data s hs p hp =>
    hs p ((finishWrite_mgt data s).2.2 ▸ hp)
  cases h with
  | effect h => exact h.moves.keeps (fun _ _ => Move.partialSound) hs
  | @answered t hroom h =>
    intro p hp
    exact hmoves h hs p hp
  | @writing t u hroom h hw =>
    intro p hp
    exact hmoves h hs p (by simpa [hw.mgt] using hp)
  | partly hroom hnone p h =>
    intro q hq
    obtain rfl : p = q := Option.some.inj hq
    exact h
  | dropped =>
    intro p hp
    rw [dropPartial_held] at hp
    cases hp
  | completed p hp h =>
    have hnone : (s.updMgt fun m => { m with held := none }).PartialSound := fun p hp => by cases hp
    intro q hq
    exact hmoves h hnone q hq
  | pageWritten => exact hfinish _ _ fun p hp => hs p (by simpa using hp)
  | protectionWritten => exact hfinish _ _ hs

/-! ## The trunk framer and the weekdays (R173, R175, R181, R89, R97) -/

theorem Move.slotsDistinct {s t : State} (h : Move s t) (hs : s.SlotsDistinct) : t.SlotsDistinct := by
  unfold State.SlotsDistinct at *
  cases h with
  | powerOn w => exact List.nodup_nil
  | plain h => rwa [h]
  | trunk f h => exact h.1 hs
  | _ => simpa using hs

theorem Move.cycleSound {s t : State} (h : Move s t) (hs : s.CycleSound) : t.CycleSound := by
  unfold State.CycleSound at *
  cases h with
  | powerOn w => exact (by decide : 0 ≤ 15 ∧ 1 ≤ 15 ∧ 15 ≤ 64 ∧ 1 ≤ 15 ∧ 15 ≤ 64)
  | plain h => rwa [h]
  | trunk f h =>
    obtain ⟨-, ⟨hc, hn⟩ | ⟨hlt, hc, hn⟩⟩ := h
    all_goals
      simp only [State.updTrunk_trunk, State.updTrunk_params]
      omega
  | service =>
    obtain ⟨-, -, -, hnd, hnd'⟩ := hs
    exact ⟨Nat.zero_le _, hnd, hnd', hnd, hnd'⟩
  | parameters p h => exact ⟨hs.1, hs.2.1, hs.2.2.1, h.2⟩
  | _ => simpa using hs

theorem Move.countersBounded {s t : State} (h : Move s t) (hs : s.CountersBounded) : t.CountersBounded := by
  unfold State.CountersBounded at *
  cases h with
  | powerOn w => exact ⟨Nat.zero_le _, Nat.zero_le _, Nat.zero_le _, Nat.zero_le _⟩
  | plain h => rwa [h]
  | trunk f h hc =>
    rw [State.updTrunk_trunk, hc]
    exact hs
  | counters k h => exact h hs
  | _ => simpa using hs

theorem Move.weekdaysSound {s t : State} (h : Move s t) (hs : s.WeekdaysSound) : t.WeekdaysSound := by
  unfold State.WeekdaysSound at *
  cases h with
  | powerOn w => exact (by decide : 0 < 7 ∧ 0 < 7 ∧ 0 < 7)
  | plain h => rwa [h]
  | calendar f h => exact h hs
  | parameters p h => exact ⟨hs.1, hs.2.1, h.1⟩
  | _ => simpa using hs

/-- Settles O56: the desk gains a reply or a place only where there is room; the framer's and the calendar's laws hold of every elementary change. -/
theorem framesKept : Obligations.FramesKept := by
  intro s t h
  refine ⟨step_keeps (P := State.RepliesBounded) (fun _ _ h => h) (fun _ _ => Act.load_le) h,
    step_keeps (P := State.PartialSound) (fun _ _ h => h) (fun _ _ => Act.partialSound) h,
    step_keeps (P := State.SlotsDistinct) (fun _ _ h => h) (fun s t h => ?_) h,
    step_keeps (P := State.CycleSound) (fun _ _ h => h) (fun s t h => ?_) h,
    step_keeps (P := State.CountersBounded) (fun _ _ h => h) (fun s t h => ?_) h,
    step_keeps (P := State.WeekdaysSound) (fun _ _ h => h) (fun s t h => ?_) h⟩
  · exact h.keeps_apart (fun _ _ h => h.moves.keeps fun _ _ => Move.slotsDistinct) (fun _ _ _ _ h => h)
  · exact h.keeps_apart (fun _ _ h => h.moves.keeps fun _ _ => Move.cycleSound) (fun _ _ _ _ h => h)
  · exact h.keeps_apart (fun _ _ h => h.moves.keeps fun _ _ => Move.countersBounded) (fun _ _ _ _ h => h)
  · exact h.keeps_apart (fun _ _ h => h.moves.keeps fun _ _ => Move.weekdaysSound) (fun _ _ _ _ h => h)

end Sys2Proof.Machine
end

section
/-! The laws of the meters and the CLOSED tickets (R108, R112, R122): what a charge, a boundary, a start and a close keep of them, and that every effect keeps them (MoneyKept). -/

namespace Sys2Proof.Machine

open Sys2Proof

/-! ## The laws of one meter -/

/-- R108, R112: the laws of a meter whose time may just have reached its maximum. -/
def Meter.Balanced (m : Meter) : Prop :=
  m.charge = m.debited + m.excess ∧ m.charge = unitsOf m.segments ∧ m.elapsed = secondsOf m.segments ∧
    1 ≤ m.segments.length ∧ m.segments.length ≤ 3 ∧ m.accumulator < 3600

theorem Meter.sound_iff {m : Meter} : m.Sound ↔ m.Balanced ∧ m.elapsed < m.maximum := by
  unfold Meter.Sound Meter.Balanced
  simp only [and_assoc]

/-- The two meters agree in what the laws look at. -/
def Meter.SameBooks (x y : Meter) : Prop :=
  y.charge = x.charge ∧ y.debited = x.debited ∧ y.excess = x.excess ∧ y.segments = x.segments ∧ y.elapsed = x.elapsed ∧
    y.accumulator = x.accumulator ∧ y.maximum = x.maximum

theorem Meter.SameBooks.rfl {x : Meter} : x.SameBooks x := ⟨Eq.refl _, Eq.refl _, Eq.refl _, Eq.refl _, Eq.refl _, Eq.refl _, Eq.refl _⟩

theorem Meter.Balanced.congr {x y : Meter} (h : x.SameBooks y) (hx : x.Balanced) : y.Balanced := by
  obtain ⟨hcharge, hdebited, hexcess, hsegs, helapsed, hacc, -⟩ := h
  unfold Meter.Balanced at *
  rwa [hcharge, hdebited, hexcess, hsegs, helapsed, hacc]

/-- R108: a meter holds a segment at any time. -/
theorem Meter.Balanced.last {m : Meter} (h : m.Balanced) : ∃ gs g, m.segments = gs ++ [g] := by
  obtain ⟨-, -, -, hlen, -⟩ := h
  exact ⟨_, _, (List.dropLast_append_getLast (List.ne_nil_of_length_pos hlen)).symm⟩

theorem unitsOf_concat (gs : List Segment) (g : Segment) : unitsOf (gs ++ [g]) = unitsOf gs + g.units := by
  simp [unitsOf]

theorem secondsOf_concat (gs : List Segment) (g : Segment) : secondsOf (gs ++ [g]) = secondsOf gs + g.seconds := by
  simp [secondsOf]

/-- R112: the units charged are the units debited and those in excess. -/
theorem Meter.Balanced.charged {m : Meter} {gs : List Segment} {g : Segment} {n paid excess : Nat} (h : m.Balanced)
    (hsegs : m.segments = gs ++ [g]) (hn : paid + excess = n) : ((m.counted gs g n).settled paid excess).Balanced := by
  obtain ⟨hcharge, hunits, hseconds, hlen, hlen', hacc⟩ := h
  rw [hsegs] at hunits hseconds hlen hlen'
  rw [unitsOf_concat] at hunits
  rw [secondsOf_concat] at hseconds
  unfold Meter.Balanced Meter.settled Meter.counted
  simp only [unitsOf_concat, secondsOf_concat, List.length_append, List.length_singleton] at hlen hlen' ⊢
  omega

/-- R112: a second counted, before the whole units leave the accumulator. -/
theorem Meter.Balanced.ticked {m : Meter} {gs : List Segment} {g : Segment} (h : m.Balanced) (hsegs : m.segments = gs ++ [g]) (a : Nat) :
    (m.ticked gs g a).Balanced := by
  obtain ⟨hcharge, hunits, hseconds, hlen, hlen', -⟩ := h
  rw [hsegs] at hunits hseconds hlen hlen'
  rw [unitsOf_concat] at hunits
  rw [secondsOf_concat] at hseconds
  unfold Meter.Balanced Meter.ticked
  simp only [unitsOf_concat, secondsOf_concat, List.length_append, List.length_singleton] at hlen hlen' ⊢
  exact ⟨hcharge, hunits, by omega, hlen, hlen', Nat.mod_lt _ (by decide)⟩

/-- R113: the current period changes no sum. -/
theorem Meter.Balanced.moved {m : Meter} (h : m.Balanced) (q : Nat) : { m with segments := moveSegments q m.segments }.Balanced := by
  obtain ⟨gs, g, hsegs⟩ := h.last
  obtain ⟨hcharge, hunits, hseconds, hlen, hlen', hacc⟩ := h
  rw [hsegs] at hunits hseconds hlen hlen'
  rw [unitsOf_concat] at hunits
  rw [secondsOf_concat] at hseconds
  rw [List.length_append, List.length_singleton] at hlen'
  unfold Meter.Balanced
  simp only [hsegs, moveSegments_append_singleton, segmentsAt]
  refine ⟨hcharge, ?_⟩
  split
  · simp only [unitsOf_concat, secondsOf_concat, List.length_append, List.length_singleton]
    omega
  split
  · next hroom =>
    simp only [unitsOf, secondsOf, List.map_append, List.sum_append, List.map_cons, List.map_nil, List.sum_cons, List.sum_nil,
      List.length_append, List.length_cons, List.length_nil] at *
    omega
  · simp only [unitsOf_concat, secondsOf_concat, List.length_append, List.length_singleton]
    omega

/-! ## The laws of all meters and tickets -/

/-- The laws of the classes, the tickets and the meters, with the meter of channel `due` allowed to have reached its maximum. -/
def State.MoneyFor (due : Option (Fin 24)) (s : State) : Prop :=
  s.ClassesSound ∧ s.TicketsSound ∧
    ∀ c m, s.meter c = some m → m.Balanced ∧ if due = some c then m.elapsed ≤ m.maximum else m.elapsed < m.maximum

theorem State.moneyFor_none {s : State} : s.MoneyFor none ↔ s.MetersSound ∧ s.TicketsSound := by
  unfold State.MoneyFor State.MetersSound
  simp only [Meter.sound_iff, reduceCtorEq, if_false]
  exact ⟨fun ⟨hk, hr, hm⟩ => ⟨⟨hk, hm⟩, hr⟩, fun ⟨⟨hk, hm⟩, hr⟩ => ⟨hk, hr, hm⟩⟩

theorem State.MoneyFor.weaken {s : State} (h : s.MoneyFor none) (c : Fin 24) : s.MoneyFor (some c) := by
  obtain ⟨hclasses, htickets, hmeters⟩ := h
  refine ⟨hclasses, htickets, fun d m hm => ?_⟩
  obtain ⟨hbalanced, htime⟩ := hmeters d m hm
  rw [if_neg nofun] at htime
  exact ⟨hbalanced, by split <;> omega⟩

theorem State.MoneyFor.strengthen {s : State} (h : s.MoneyFor none) (due : Option (Fin 24)) : s.MoneyFor due := by
  cases due with
  | none => exact h
  | some c => exact h.weaken c

section Money
variable {s t : State} {due : Option (Fin 24)}

/-- The laws follow meters that agree with meters of before, and rows that were closed before. -/
theorem State.MoneyFor.congr (hclasses : t.cal.classes = s.cal.classes)
    (hmeter : ∀ c m, t.meter c = some m → ∃ x, s.meter c = some x ∧ x.SameBooks m)
    (hrow : ∀ r x, t.row r = .closed x → s.row r = .closed x) (hs : s.MoneyFor due) : t.MoneyFor due := by
  obtain ⟨hcs, hrs, hms⟩ := hs
  refine ⟨fun k => by rw [hclasses]; exact hcs k, fun r x hr => hrs r x (hrow r x hr), fun c m hm => ?_⟩
  obtain ⟨x, hx, hsame⟩ := hmeter c m hm
  obtain ⟨hbalanced, htime⟩ := hms c x hx
  refine ⟨hbalanced.congr hsame, ?_⟩
  obtain ⟨-, -, -, -, helapsed, -, hmax⟩ := hsame
  rwa [helapsed, hmax]

/-- What touches no class, no meter and no row. -/
theorem State.MoneyFor.frame (hs : s.MoneyFor due) (hclasses : t.cal.classes = s.cal.classes) (hmeter : ∀ c, t.meter c = s.meter c)
    (hrow : ∀ r, t.row r = s.row r) : t.MoneyFor due :=
  State.MoneyFor.congr hclasses (fun c _ hm => ⟨_, (hmeter c).symm.trans hm, Meter.SameBooks.rfl⟩) (fun r _ hr => (hrow r).symm.trans hr) hs

/-- One meter written: it must keep the laws. -/
theorem State.MoneyFor.setMeter (hs : s.MoneyFor due) (c : Fin 24) {m : Meter} (hm : m.Balanced)
    (htime : if due = some c then m.elapsed ≤ m.maximum else m.elapsed < m.maximum) : (s.setMeter c (some m)).MoneyFor due := by
  obtain ⟨hcs, hrs, hms⟩ := hs
  refine ⟨hcs, hrs, fun d x hx => ?_⟩
  rw [State.setMeter_meter] at hx
  split at hx
  · next hd => rw [hd, ← Option.some.inj hx]; exact ⟨hm, htime⟩
  · exact hms d x hx

/-- The meter that was due is still within its time. -/
theorem State.MoneyFor.within {c : Fin 24} {m : Meter} (hs : s.MoneyFor (some c)) (hm : s.meter c = some m) (htime : m.elapsed < m.maximum) :
    s.MoneyFor none := by
  obtain ⟨hcs, hrs, hms⟩ := hs
  refine ⟨hcs, hrs, fun d x hx => ?_⟩
  obtain ⟨hbalanced, h⟩ := hms d x hx
  rw [if_neg nofun]
  refine ⟨hbalanced, ?_⟩
  split at h
  · next hd =>
    obtain rfl := Option.some.inj hd
    obtain rfl : m = x := Option.some.inj (hm.symm.trans hx)
    exact htime
  · exact h

theorem State.MoneyFor.updMeter (hs : s.MoneyFor due) (c : Fin 24) {f : Meter → Meter} (hf : ∀ m : Meter, m.SameBooks (f m) := by exact fun _ => ⟨rfl, rfl, rfl, rfl, rfl, rfl, rfl⟩) :
    (s.updMeter c f).MoneyFor due := by
  refine State.MoneyFor.congr (s := s) rfl (fun d m hm => ?_) (fun _ _ h => h) hs
  rw [State.updMeter_meter] at hm
  split at hm
  · next hd =>
    obtain ⟨x, hx, rfl⟩ := Option.map_eq_some_iff.mp hm
    exact ⟨x, hd ▸ hx, hf x⟩
  · exact ⟨m, hm, Meter.SameBooks.rfl⟩

/-- With the meter of channel `c` gone, no meter is due. -/
theorem State.MoneyFor.stopMeter (hs : s.MoneyFor due) {c : Fin 24} (hdue : ∀ d ∈ due, d = c) : (s.setMeter c none).MoneyFor none := by
  obtain ⟨hcs, hrs, hms⟩ := hs
  refine ⟨hcs, hrs, fun d m hm => ?_⟩
  rw [State.setMeter_meter] at hm
  split at hm
  · cases hm
  · next hd =>
    have hother : due ≠ some d := fun h => hd (hdue d h)
    have := hms d m hm
    rw [if_neg hother] at this
    rwa [if_neg nofun]

theorem State.MoneyFor.idle {c : Fin 24} (hs : s.MoneyFor (some c)) (hm : s.meter c = none) : s.MoneyFor none := by
  rw [← State.setMeter_self s c, hm]
  exact hs.stopMeter fun d hd => (Option.mem_some.mp hd).symm

theorem notify_moneyFor (hs : s.MoneyFor due) (l : Fin 32) (m : Fin 24) (v : Int) : (notify l m v s).MoneyFor due :=
  hs.frame (by simp) (by simp) (by simp)

/-! ## Charges -/

theorem debitAccount_sum (a : Fin 256) (n : Nat) (s : State) : (debitAccount a n s).2.1 + (debitAccount a n s).2.2 = n := by
  unfold debitAccount Account.debit
  split
  · next h => exact h.symm
  · dsimp only
    split
    · rfl
    · next h => exact Nat.add_sub_cancel' (Nat.le_of_not_le h)

theorem chargeUnits_moneyFor (hs : s.MoneyFor due) (c : Fin 24) (n : Nat) : (chargeUnits c n s).1.MoneyFor due := by
  cases hm : s.meter c with
  | none =>
    have hidle : chargeUnits c n s = (s, 0) := by unfold chargeUnits; rw [hm]
    rw [hidle]
    exact hs
  | some m =>
    obtain ⟨hbalanced, htime⟩ := hs.2.2 c m hm
    obtain ⟨gs, g, hsegs⟩ := hbalanced.last
    rw [chargeUnits_eq hm hsegs]
    dsimp only
    generalize hr : debitAccount m.account n (s.setMeter c (some (m.counted gs g n))) = r
    have hsum : r.2.1 + r.2.2 = n := hr ▸ debitAccount_sum ..
    have hresult := hs.setMeter c (hbalanced.charged hsegs hsum) (m := (m.counted gs g n).settled r.2.1 r.2.2) htime
    refine hresult.frame (by simp [← hr]) (fun d => ?_) (by simp [← hr])
    rw [State.updMeter_meter, State.setMeter_meter, ← hr]
    simp only [debitAccount_frame, State.setMeter_meter]
    split <;> simp

theorem roundOff_moneyFor (hs : s.MoneyFor due) (c : Fin 24) (m : Meter) : (roundOff c m s).MoneyFor due := by
  unfold roundOff
  split
  exacts [chargeUnits_moneyFor hs c 1, hs]

/-! ## Closing a session -/

/-- R122: the ticket takes the meter's figures over. -/
theorem closeTicket_moneyFor (hs : s.MoneyFor due) (c : Fin 24) {m : Meter} (hm : m.Balanced) (e : Bool) (why : CloseReason) :
    (closeTicket c m e why s).MoneyFor due := by
  rcases closeTicket_cases c m e why s with h | ⟨r, x, -, -, -, -, -, -, -, -, -, hcharge, hdebited, hexcess, helapsed, hsegs, h⟩
  · rw [h]; exact hs
  rw [h]
  obtain ⟨hcs, hrs, hms⟩ := hs
  refine ⟨hcs, fun j y hy => ?_, hms⟩
  change (s.setRow m.row (.closed x)).row j = .closed y at hy
  rw [State.setRow_row] at hy
  split at hy
  · obtain rfl : x = y := Row.closed.inj hy
    obtain ⟨hsum, hunits, hseconds, hlen, hlen', -⟩ := hm
    unfold Ticket.Sound
    rw [hcharge, hdebited, hexcess, helapsed, hsegs]
    exact ⟨hsum, hunits, hseconds, hlen, hlen'⟩
  · exact hrs j y hy

theorem closeSession_moneyFor (hs : s.MoneyFor due) {c : Fin 24} (hdue : ∀ d ∈ due, d = c) (why : CloseReason) :
    (closeSession c why s).MoneyFor none := by
  unfold closeSession
  split
  · next hm =>
    obtain ⟨hcs, hrs, hms⟩ := hs
    refine ⟨hcs, hrs, fun d x hx => ?_⟩
    obtain ⟨hbalanced, htime⟩ := hms d x hx
    have hother : due ≠ some d := fun h => by
      rw [hdue d h, hm] at hx
      cases hx
    rw [if_neg hother] at htime
    exact ⟨hbalanced, by rwa [if_neg nofun]⟩
  · next m hm =>
    have hrounded := roundOff_moneyFor hs c m
    generalize roundOff c m s = u at hrounded
    dsimp only
    split
    · next x hx =>
      refine State.MoneyFor.frame (((closeTicket_moneyFor hrounded c (hrounded.2.2 c x hx).1 m.exhausted why).frame
        (t := endAdmission m.line m.account (closeTicket c x m.exhausted why u)) ?_ ?_ ?_).stopMeter hdue) ?_ ?_ ?_
      all_goals simp
    · refine State.MoneyFor.frame ((hrounded.frame (t := endAdmission m.line m.account u) ?_ ?_ ?_).stopMeter hdue) ?_ ?_ ?_
      all_goals simp

theorem closeRequest_moneyFor (hs : s.MoneyFor none) (c : Fin 24) (l : Fin 32) (why : CloseReason) :
    (closeRequest c l why s).MoneyFor none := by
  unfold closeRequest
  split
  · split
    exacts [closeSession_moneyFor hs nofun why, hs]
  · exact hs

/-! ## Running sessions -/

theorem becomeExhausted_moneyFor (hs : s.MoneyFor due) {c : Fin 24} (hdue : ∀ d ∈ due, d = c) (m : Meter) :
    (becomeExhausted c m s).MoneyFor due := by
  have htold : (notify m.line Config.mExhausted (s.cal.classes[m.cls].grace) (s.updMeter c fun m => { m with exhausted := true })).MoneyFor due :=
    notify_moneyFor (hs.updMeter c) _ _ _
  unfold becomeExhausted
  dsimp only
  split
  · exact (closeSession_moneyFor htold hdue _).strengthen due
  · exact htold.updMeter c

theorem chargeSession_moneyFor (hs : s.MoneyFor due) {c : Fin 24} (hdue : ∀ d ∈ due, d = c) (n : Nat) :
    (chargeSession c n s).MoneyFor due := by
  have hcharged := chargeUnits_moneyFor hs c n
  unfold chargeSession
  dsimp only
  split
  · split
    exacts [becomeExhausted_moneyFor hcharged hdue _, hcharged]
  · exact hcharged

/-- R115: a session whose time reached its maximum is closed. -/
theorem checkLimits_moneyFor {c : Fin 24} (hs : s.MoneyFor (some c)) : (checkLimits c s).MoneyFor none := by
  have hdue : ∀ d ∈ some c, d = c := fun d hd => (Option.mem_some.mp hd).symm
  cases hm : s.meter c with
  | none =>
    have hidle : checkLimits c s = s := by unfold checkLimits; rw [hm]
    rw [hidle]
    exact hs.idle hm
  | some m =>
    obtain ⟨-, htime⟩ := hs.2.2 c m hm
    rw [if_pos rfl] at htime
    by_cases hmax : m.elapsed = m.maximum
    · rw [checkLimits_atMaximum hm hmax]
      exact closeSession_moneyFor hs hdue _
    · have hnone : s.MoneyFor none := hs.within hm (by omega)
      by_cases hwarn : 300 < m.maximum ∧ m.elapsed + 300 = m.maximum
      · rw [checkLimits_warning hm hwarn.1 hwarn.2]
        obtain ⟨hbalanced, htime⟩ := hnone.2.2 c m hm
        exact (hnone.setMeter c (m := { m with timeWarned := true }) hbalanced htime).frame rfl (fun _ => rfl) fun _ => rfl
      · rw [checkLimits_within hm hmax (by omega)]
        exact hnone

theorem meterBoundary_moneyFor (hs : s.MoneyFor none) (p q : Fin 8) (c : Fin 24) : (meterBoundary p q c s).MoneyFor none := by
  cases hm : s.meter c with
  | none => rw [meterBoundary_free hm]; exact hs
  | some m =>
    obtain ⟨hbalanced, htime⟩ := hs.2.2 c m hm
    rw [if_neg nofun] at htime
    obtain ⟨gs, g, hsegs⟩ := hbalanced.last
    have hticked : (s.setMeter c (some (m.ticked gs g (s.accrued p m)))).MoneyFor (some c) :=
      (hs.weaken c).setMeter c (hbalanced.ticked hsegs _) (by rw [if_pos rfl]; exact htime)
    have hcharged : (s.accrual p c m gs g).MoneyFor (some c) :=
      chargeSession_moneyFor hticked (fun d hd => (Option.mem_some.mp hd).symm) _
    rw [meterBoundary_eq hm hsegs]
    split
    · next hclosed => exact hcharged.idle hclosed
    · next x hx =>
      obtain ⟨hx', htime'⟩ := hcharged.2.2 c x hx
      exact checkLimits_moneyFor (hcharged.setMeter c (hx'.moved q) htime')

theorem meterPeriod_moneyFor (hs : s.MoneyFor none) (q : Fin 8) (c : Fin 24) : (meterPeriod q c s).MoneyFor none := by
  unfold meterPeriod State.updMeter
  cases hm : s.meter c with
  | none => rw [Option.map_none, ← hm, State.setMeter_self]; exact hs
  | some m =>
    obtain ⟨hbalanced, htime⟩ := hs.2.2 c m hm
    exact hs.setMeter c (hbalanced.moved q) htime

theorem startExpel_moneyFor (hs : s.MoneyFor due) (c : Fin 24) (m : Meter) : (startExpel c m s).MoneyFor due :=
  (notify_moneyFor hs _ _ _).updMeter c

theorem meterPermit_moneyFor (hs : s.MoneyFor none) (k : Fin 8) (x : Permit) (c : Fin 24) : (meterPermit k x c s).MoneyFor none := by
  unfold meterPermit
  split
  · exact hs
  next m hm =>
  have hstopped : (s.setMeter c (some { m with expel := none })).MoneyFor none := hs.setMeter c (hs.2.2 c m hm).1 (hs.2.2 c m hm).2
  split
  · cases x with
    | expel =>
      dsimp only
      split
      exacts [startExpel_moneyFor hs c m, hs]
    | opened => exact hstopped
    | closed => exact hstopped
  · exact hs

/-- What maps every meter to one with the same books. -/
theorem State.MoneyFor.meters (hs : s.MoneyFor due) {f : Meter → Meter} (hf : ∀ m : Meter, m.SameBooks (f m)) :
    State.MoneyFor due { s with meters := Vector.ofFn fun c => (s.meter c).map f } := by
  refine State.MoneyFor.congr (s := s) rfl (fun c m hm => ?_) (fun r x h => by simpa only [State.row] using h) hs
  rw [State.meter_ofFn] at hm
  obtain ⟨x, hx, rfl⟩ := Option.map_eq_some_iff.mp hm
  exact ⟨x, hx, hf x⟩

theorem restoreAccount_moneyFor (hs : s.MoneyFor due) (a : Fin 256) : (restoreAccount a s).MoneyFor due :=
  hs.meters fun m => by split <;> exact ⟨rfl, rfl, rfl, rfl, rfl, rfl, rfl⟩

/-! ## Starting a session -/

theorem stampRow_moneyFor (hs : s.MoneyFor due) (r : Fin 64) (c : Fin 24) : (stampRow r c s).MoneyFor due := by
  unfold stampRow
  split
  · split
    · refine State.MoneyFor.congr (s := s) (by simp) (fun d m hm => ⟨m, by simpa using hm, Meter.SameBooks.rfl⟩) (fun j y hy => ?_) hs
      rw [State.setRow_row] at hy
      split at hy
      · cases hy
      · exact hy
    · exact hs
  all_goals exact hs

/-- R109: a new meter has counted nothing, and its class gives it at least a minute. -/
theorem newMeter_sound (hs : s.ClassesSound) (t : State) (ht : t.cal = s.cal) (l : Fin 32) (a : Admission) (r : Fin 64) :
    (newMeter t l a r).Balanced ∧ (newMeter t l a r).elapsed < (newMeter t l a r).maximum := by
  have hmax := hs a.cls
  refine ⟨⟨rfl, rfl, rfl, le_rfl, (by decide : 1 ≤ 3), (by decide : 0 < 3600)⟩, ?_⟩
  change 0 < 60 * t.cal.classes[a.cls].maximum
  rw [ht]
  omega

theorem startMeter_moneyFor (hs : s.MoneyFor none) (c : Fin 24) (l : Fin 32) (a : Admission) (r : Fin 64) :
    (startMeter c l a r s).MoneyFor none := by
  obtain ⟨hbalanced, htime⟩ := newMeter_sound hs.1 s rfl l a r
  have hrunning : (s.setMeter c (some (newMeter s l a r))).MoneyFor none := hs.setMeter c hbalanced (by rwa [if_neg nofun])
  have hstarted := chargeSession_moneyFor (c := c) (stampRow_moneyFor hrunning r c) nofun
    (stampRow r c (s.setMeter c (some (newMeter s l a r)))).cal.classes[a.cls].setup
  unfold startMeter
  dsimp only
  split
  · exact hstarted
  · split
    · exact startExpel_moneyFor (notify_moneyFor hstarted _ _ _) _ _
    · exact notify_moneyFor hstarted _ _ _

theorem acceptOffer_moneyFor (hs : s.MoneyFor none) (c : Fin 24) : (acceptOffer c s).MoneyFor none := by
  unfold acceptOffer
  split
  · split
    · exact startMeter_moneyFor (hs.frame (by simp) (by simp) (by simp)) _ _ _ _
    · exact hs
  · exact hs

/-! ## The rows of offers -/

theorem freeRow_closed {r j : Fin 64} {c : Fin 24} {x : Ticket} (h : (freeRow r c s).row j = .closed x) : s.row j = .closed x := by
  unfold freeRow at h
  split at h
  · split at h
    · rw [State.setRow_row] at h
      split at h
      · cases h
      · exact h
    · exact h
  all_goals exact h

theorem offerLineLeaves_row (c : Fin 24) (m : Option (Fin 24)) (drains : Bool) (s : State) (r : Fin 64) :
    (offerLineLeaves c m drains s).row r = s.row r := by
  unfold offerLineLeaves
  split
  · split <;> simp
  · rfl

theorem endOffer_moneyFor (hs : s.MoneyFor due) (c : Fin 24) (m : Option (Fin 24)) (drains : Bool) : (endOffer c m drains s).MoneyFor due := by
  refine State.MoneyFor.congr (by simp) (fun d x hx => ⟨x, by simpa using hx, Meter.SameBooks.rfl⟩) (fun r x hr => ?_) hs
  rw [endOffer_parts, offerLineLeaves_row] at hr
  unfold offerRowFreed at hr
  split at hr
  exacts [freeRow_closed hr, hr]

theorem rejectOffer_moneyFor (hs : s.MoneyFor due) (c : Fin 24) (a : Byte) : (rejectOffer c a s).MoneyFor due :=
  (endOffer_moneyFor (hs.frame (t := s.updChannel c fun x => { x with lastReject := a }) rfl (fun _ => rfl) fun _ => rfl)
    c (some Config.mHostRefused) true).frame rfl (fun _ => rfl) fun _ => rfl

theorem abandonOffer_moneyFor (hs : s.MoneyFor due) (c : Fin 24) (why : CloseReason) (m : Option (Fin 24)) (drains : Bool) :
    (abandonOffer c why m drains s).MoneyFor due :=
  (endOffer_moneyFor hs c m drains).frame (by simp [abandonOffer]) (by simp [abandonOffer]) (by simp [abandonOffer])

/-! ## Effects -/

theorem loseCarrier_moneyFor (hs : s.MoneyFor none) (l : Fin 32) : (loseCarrier l s).MoneyFor none := by
  have hclear : ∀ {u : State}, u.MoneyFor none → (toClearing l u).MoneyFor none := fun hu => hu.frame (by simp) (by simp) (by simp)
  unfold loseCarrier
  split
  · exact hs.frame (by simp) (by simp) (by simp)
  · exact hs.frame (by simp) (by simp) (by simp)
  · exact hclear (hs.frame (by simp) (by simp) (by simp))
  · split
    exacts [hclear (abandonOffer_moneyFor hs _ _ _ _), hclear hs]
  · split
    exacts [hclear (closeRequest_moneyFor hs _ _ _), hclear hs]
  · exact hclear hs
  all_goals exact hs

theorem freeChannel_moneyFor (hs : s.MoneyFor due) (c : Fin 24) : (freeChannel c s).MoneyFor due :=
  hs.frame (by simp) (by simp) (by simp)

theorem loseChannel_moneyFor (hs : s.MoneyFor none) (c : Fin 24) : (loseChannel c s).MoneyFor none := by
  unfold loseChannel
  split
  · exact freeChannel_moneyFor (endOffer_moneyFor hs c _ true) c
  · split
    exacts [closeRequest_moneyFor (notify_moneyFor hs _ _ _) _ _ _, hs]
  · exact freeChannel_moneyFor hs c
  · exact freeChannel_moneyFor hs c
  · exact hs

theorem serviceCloseChannel_moneyFor (hs : s.MoneyFor none) (why : CloseReason) (c : Fin 24) : (serviceCloseChannel why c s).MoneyFor none := by
  unfold serviceCloseChannel
  split
  · exact abandonOffer_moneyFor hs c why _ true
  · split
    exacts [closeRequest_moneyFor (notify_moneyFor hs _ _ _) _ _ _, hs]
  all_goals exact hs

/-- R132: a grant reserves a row that was FREE. -/
theorem grantTo_moneyFor (hs : s.MoneyFor due) (l : Fin 32) (a : Admission) (c : Fin 24) (r : Fin 64) : (grantTo l a c r s).MoneyFor due := by
  have hreserved : (reserveRow r c l a (leaveQueue l s)).MoneyFor due := by
    refine State.MoneyFor.congr (s := s) (by simp) (fun d m hm => ⟨m, by simpa using hm, Meter.SameBooks.rfl⟩) (fun j y hy => ?_) hs
    unfold reserveRow at hy
    rw [State.setRow_row] at hy
    split at hy
    · cases hy
    · simpa using hy
  exact hreserved.frame (by simp [grantTo]) (by simp [grantTo]) (by simp [grantTo])

theorem releaseRow_moneyFor (hs : s.MoneyFor due) (r : Fin 64) : (releaseRow r s).MoneyFor due := by
  refine State.MoneyFor.congr (s := s) (by simp) (fun d m hm => ⟨m, by simpa using hm, Meter.SameBooks.rfl⟩) (fun j y hy => ?_) hs
  change (s.setRow r .free).row j = .closed y at hy
  rw [State.setRow_row] at hy
  split at hy
  · cases hy
  · exact hy

theorem powerOn_moneyFor (w : Byte) (s : State) : (powerOnValues w s).MoneyFor none := by
  refine ⟨fun k => ?_, fun r x hr => ?_, fun c m hm => ?_⟩
  · simp [powerOnValues, State.reset, Calendar.powerOn, ClassRecord.powerOn]
  · rw [powerOnValues_row] at hr
    cases hr
  · simp [powerOnValues, State.reset, State.meter] at hm

theorem Effect.money (h : Effect s t) (hs : s.MoneyFor none) : t.MoneyFor none := by
  cases h with
  | powerOn w => exact powerOn_moneyFor w s
  | granted w c r a => exact grantTo_moneyFor hs _ a c r
  | offerExpired c => exact (endOffer_moneyFor hs c (some Config.mHostRefused) true).frame (by simp) (by simp) (by simp)
  | carrierLost l => exact loseCarrier_moneyFor hs l
  | sessionClosed c why => exact closeSession_moneyFor hs nofun why
  | calendar f _ hclass => exact ⟨hclass hs.1, hs.2⟩
  | boundary p q c => exact meterBoundary_moneyFor hs p q c
  | periodReported q c => exact meterPeriod_moneyFor hs q c
  | permitReported k x c => exact meterPermit_moneyFor hs k x c
  | clockFlagged => exact hs.meters fun _ => ⟨rfl, rfl, rfl, rfl, rfl, rfl, rfl⟩
  | channelLost c => exact loseChannel_moneyFor hs c
  | offerAccepted c => exact acceptOffer_moneyFor hs c
  | offerRejected c a => exact rejectOffer_moneyFor hs c a
  | offerAbandoned l c why m => exact abandonOffer_moneyFor hs c why m true
  | accountLoaded a st b o w l =>
    unfold restoreIfAbove
    have hloaded : (s.updAccount a fun x => (x.load st b o w l).rearm).MoneyFor none := hs.frame (by simp) (by simp) (by simp)
    split
    exacts [restoreAccount_moneyFor hloaded a, hloaded]
  | accountCredited a n =>
    unfold restoreIfAbove
    have hcredited : (s.updAccount a fun x => { x with balance := credited n }.rearm).MoneyFor none := hs.frame (by simp) (by simp) (by simp)
    split
    exacts [restoreAccount_moneyFor hcredited a, hcredited]
  | ticketReleased r => exact releaseRow_moneyFor hs r
  | serviceClosed why c => exact serviceCloseChannel_moneyFor hs why c
  | callsRestarted =>
    refine State.MoneyFor.frame ?_ (by simp) (by simp) (by simp) (s := serviceCloseAll .restart s)
    exact foldl_invariant (State.MoneyFor none) _ (fun _ c h => serviceCloseChannel_moneyFor h .restart c) allChannels s hs
  | _ => exact hs.frame (by simp) (by simp [State.meter]) (by simp [State.row])

end Money

/-- Settles O57: a balance changes only by debits and credits in range; a charge, a second and a period change keep a meter's sums, and a close hands them to the ticket. -/
theorem moneyKept : Obligations.MoneyKept := by
  intro s t h
  refine ⟨balancesKept h, fun hmeters htickets => State.moneyFor_none.mp ?_⟩
  refine step_keeps (P := State.MoneyFor none) (fun _ _ h => h) (fun s t h hs => ?_) h (State.moneyFor_none.mpr ⟨hmeters, htickets⟩)
  exact h.keeps_apart (fun _ _ => Effect.money) (fun s _ _ _ hs => hs.frame rfl (fun _ => rfl) fun _ => rfl) hs

end Sys2Proof.Machine
end

section
/-! The call path as the laws of Safety.lean see it: of each line, channel, meter, row, waiter and account, the fields that `State.Coherent` looks at. The laws are stated on this view, and the moves of a call are updates of it. -/

namespace Sys2Proof.Machine

open Sys2Proof

/-! ## The view -/

/-- What the laws see of a line: its state, its channel field, the account of its admission, and a lookup in flight. -/
@[ext] structure LineCall where
  state : LineState
  channel : Option (Fin 24)
  account : Option (Fin 256)
  lookup : Bool

/-- What the laws see of a channel; `timed` when its timer runs. -/
@[ext] structure ChannelCall where
  state : ChannelState
  line : Option (Fin 32)
  row : Option (Fin 64)
  timed : Bool

/-- What the laws see of a running meter. -/
@[ext] structure MeterCall where
  line : Fin 32
  account : Fin 256
  row : Fin 64

/-- What the laws see of a RESERVED row; `started` once it has a start stamp. -/
@[ext] structure RowCall where
  channel : Fin 24
  line : Fin 32
  started : Bool

/-- The call path. -/
@[ext] structure Calls where
  line : Fin 32 → LineCall
  channel : Fin 24 → ChannelCall
  meter : Fin 24 → Option MeterCall
  row : Fin 64 → Option RowCall
  queue : List (Fin 32 × Bool)
  openCount : Fin 256 → Nat

def Line.call (ln : Line) : LineCall := ⟨ln.state, ln.channel, ln.admission.map (·.account), decide (ln.dialogue.lookup = .inFlight)⟩
def Channel.call (x : Channel) : ChannelCall := ⟨x.state, x.line, x.row, x.timer.isSome⟩
def Meter.call (m : Meter) : MeterCall := ⟨m.line, m.account, m.row⟩
def Row.call : Row → Option RowCall
  | .reserved x => some ⟨x.channel, x.line, x.start.isSome⟩
  | .free | .closed _ => none
def Waiter.call (w : Waiter) : Fin 32 × Bool := (w.line, w.priority)

/-- The call path of a state. -/
def State.calls (s : State) : Calls where
  line l := (s.line l).call
  channel c := (s.channel c).call
  meter c := (s.meter c).map Meter.call
  row r := (s.row r).call
  queue := s.queue.map Waiter.call
  openCount a := (s.account a).openCount

/-! ## The laws on the view -/

/-- A line that takes part in no offer and no session and does not wait. -/
def LineState.quiet : LineState → Bool
  | .waiting | .offered | .connected => false
  | .idle | .ringing | .answering | .signon | .checking | .draining | .clearing | .blocked => true

namespace Calls

/-- R130, R147. -/
def HoldsRow (C : Calls) (c : Fin 24) (l : Fin 32) (r : Fin 64) : Prop :=
  (C.channel c).row = some r ∧ ∃ b, C.row r = some ⟨c, l, b⟩

/-- R130. -/
def OfferStands (C : Calls) (c : Fin 24) (l : Fin 32) : Prop :=
  (C.channel c).line = some l ∧ (C.line l).state = .offered ∧ (C.line l).channel = some c ∧
    (C.line l).account.isSome = true ∧ ∃ r, C.HoldsRow c l r

/-- R108, R130. -/
def SessionStands (C : Calls) (c : Fin 24) (l : Fin 32) : Prop :=
  (C.channel c).line = some l ∧ (C.line l).state = .connected ∧ (C.line l).channel = some c ∧
    ∃ a r, C.meter c = some ⟨l, a, r⟩ ∧ (C.line l).account = some a ∧ C.HoldsRow c l r

def ChannelOk (C : Calls) (c : Fin 24) : Prop :=
  match (C.channel c).state with
  | .offered => C.meter c = none ∧ ∃ l, C.OfferStands c l
  | .connected => (C.channel c).timed = false ∧ ∃ l, C.SessionStands c l
  | .free => C.meter c = none ∧ (C.channel c).row = none ∧ (C.channel c).line = none ∧ (C.channel c).timed = false
  | .closing => C.meter c = none ∧ (C.channel c).row = none
  | .quarantined => C.meter c = none ∧ (C.channel c).row = none ∧ (C.channel c).timed = false

def LineOk (C : Calls) (l : Fin 32) : Prop :=
  match (C.line l).state with
  | .offered => ∃ c, (C.line l).channel = some c ∧ (C.channel c).state = .offered ∧ (C.channel c).line = some l
  | .connected => ∃ c, (C.line l).channel = some c ∧ (C.channel c).state = .connected ∧ (C.channel c).line = some l
  | .waiting => (C.line l).channel = none ∧ (C.line l).account.isSome = true
  | .idle | .ringing | .answering | .signon | .checking | .draining | .clearing | .blocked =>
    (C.line l).channel = none ∧ (C.line l).account = none

def RowOk (C : Calls) (r : Fin 64) : Prop :=
  ∀ x, C.row r = some x → (C.channel x.channel).row = some r ∧
    ((C.channel x.channel).state = .offered ∧ x.started = false ∨ (C.channel x.channel).state = .connected ∧ x.started = true)

/-- R125: the queue and the lines in WAITING, and the order of the queue. -/
def QueueOk (C : Calls) : Prop :=
  (C.queue.map (·.1)).Nodup ∧ (∀ l, l ∈ C.queue.map (·.1) ↔ (C.line l).state = .waiting) ∧
    C.queue.Pairwise fun a b => b.2 = true → a.2 = true

def LookupsOk (C : Calls) : Prop := ∀ l, (C.line l).lookup = true → (C.line l).state = .checking

/-- The number of lines admitted for account `a`. -/
def admitted (C : Calls) (a : Fin 256) : Nat := (allLines.filter fun l => decide ((C.line l).account = some a)).length

/-- Section 4.6. -/
def CountsOk (C : Calls) : Prop := ∀ a, C.openCount a = C.admitted a

def Coherent (C : Calls) : Prop :=
  (∀ c, C.ChannelOk c) ∧ (∀ l, C.LineOk l) ∧ (∀ r, C.RowOk r) ∧ C.QueueOk ∧ C.LookupsOk ∧ C.CountsOk

end Calls

/-! ## The view says all that the laws say -/

section View
variable {s : State}

theorem State.holdsRow_iff {c : Fin 24} {l : Fin 32} {r : Fin 64} : s.HoldsRow c l r ↔ s.calls.HoldsRow c l r := by
  unfold State.HoldsRow Calls.HoldsRow State.calls Channel.call
  dsimp only
  cases s.row r with
  | free => simp [Row.call]
  | closed t => simp [Row.call]
  | reserved x => simp [Row.call]

theorem State.admission_isSome {l : Fin 32} : (s.line l).admission.isSome = (s.calls.line l).account.isSome := by
  simp [State.calls, Line.call]

theorem State.offerStands_iff {c : Fin 24} {l : Fin 32} : s.OfferStands c l ↔ s.calls.OfferStands c l := by
  unfold State.OfferStands Calls.OfferStands
  simp only [State.holdsRow_iff, State.admission_isSome]
  rfl

theorem State.sessionStands_iff {c : Fin 24} {l : Fin 32} : s.SessionStands c l ↔ s.calls.SessionStands c l := by
  unfold State.SessionStands Calls.SessionStands
  simp only [State.holdsRow_iff]
  refine and_congr_right fun _ => and_congr_right fun _ => and_congr_right fun _ => ?_
  constructor
  · rintro ⟨m, a, hm, ha, rfl, haccount, hrow⟩
    exact ⟨a.account, m.row, by simp [State.calls, hm, Meter.call, haccount], by simp [State.calls, Line.call, ha], hrow⟩
  · rintro ⟨a, r, hm, ha, hrow⟩
    obtain ⟨m, hmeter, hcall⟩ := Option.map_eq_some_iff.mp hm
    obtain ⟨x, hx, rfl⟩ := Option.map_eq_some_iff.mp ha
    obtain ⟨hline, haccount, hrow'⟩ := MeterCall.mk.inj hcall
    exact ⟨m, x, hmeter, hx, hline, haccount, hrow' ▸ hrow⟩

theorem State.meter_none_iff {c : Fin 24} : s.meter c = none ↔ s.calls.meter c = none := by simp [State.calls]

theorem State.timer_none_iff {c : Fin 24} : (s.channel c).timer = none ↔ (s.calls.channel c).timed = false := by
  simp [State.calls, Channel.call]

theorem State.channelCoherent_iff {c : Fin 24} : s.ChannelCoherent c ↔ s.calls.ChannelOk c := by
  unfold State.ChannelCoherent Calls.ChannelOk
  simp only [State.offerStands_iff, State.sessionStands_iff, State.meter_none_iff, State.timer_none_iff]
  rfl

theorem State.lineCoherent_iff {l : Fin 32} : s.LineCoherent l ↔ s.calls.LineOk l := by
  unfold State.LineCoherent Calls.LineOk
  have hnone : (s.line l).admission = none ↔ (s.calls.line l).account = none := by simp [State.calls, Line.call]
  simp only [State.admission_isSome, hnone]
  rfl

theorem State.rowCoherent_iff {r : Fin 64} : s.RowCoherent r ↔ s.calls.RowOk r := by
  unfold State.RowCoherent Calls.RowOk
  have hcall : s.calls.row r = (s.row r).call := rfl
  rw [hcall]
  cases s.row r with
  | free => simp [Row.call]
  | closed t => simp [Row.call]
  | reserved x => simp [Row.call, State.calls, Channel.call]

theorem State.queueCoherent_iff : s.QueueCoherent ↔ s.calls.QueueOk := by
  unfold State.QueueCoherent Calls.QueueOk State.calls
  simp only [List.map_map, List.pairwise_map, List.mem_map, Function.comp_def]
  rfl

theorem State.lookupsStand_iff : s.LookupsStand ↔ s.calls.LookupsOk := by
  simp [State.LookupsStand, Calls.LookupsOk, State.calls, Line.call]

theorem State.admissionsOf_eq (a : Fin 256) : s.admissionsOf a = s.calls.admitted a := by
  unfold State.admissionsOf Calls.admitted
  refine congrArg List.length (List.filter_congr fun l _ => ?_)
  cases h : (s.line l).admission <;> simp [State.calls, Line.call, h]

theorem State.openCountsExact_iff : s.OpenCountsExact ↔ s.calls.CountsOk := by
  unfold State.OpenCountsExact Calls.CountsOk
  simp only [State.admissionsOf_eq]
  rfl

theorem State.coherent_iff : s.Coherent ↔ s.calls.Coherent := by
  unfold State.Coherent Calls.Coherent
  simp only [State.channelCoherent_iff, State.lineCoherent_iff, State.rowCoherent_iff, State.queueCoherent_iff,
    State.lookupsStand_iff, State.openCountsExact_iff]

theorem State.queueBounded_iff : s.QueueBounded ↔ s.calls.queue.length ≤ 16 := by simp [State.QueueBounded, State.calls]

end View

end Sys2Proof.Machine
end

section
/-! The moves of a call on the view: what changes one line, one channel and one row together keeps the laws of the call path, when what it leaves of the three is lawful. -/

namespace Sys2Proof.Machine

open Sys2Proof

namespace Calls

/-! ## Writing the view -/

def setLine (C : Calls) (l : Fin 32) (x : LineCall) : Calls := { C with line := Function.update C.line l x }
def setChannel (C : Calls) (c : Fin 24) (x : ChannelCall) : Calls := { C with channel := Function.update C.channel c x }
def setMeter (C : Calls) (c : Fin 24) (x : Option MeterCall) : Calls := { C with meter := Function.update C.meter c x }
def setRow (C : Calls) (r : Fin 64) (x : Option RowCall) : Calls := { C with row := Function.update C.row r x }
def setOpen (C : Calls) (a : Fin 256) (n : Nat) : Calls := { C with openCount := Function.update C.openCount a n }
/-- Line `l` out of the queue. -/
def leave (C : Calls) (l : Fin 32) : Calls := { C with queue := C.queue.filter fun w => !decide (w.1 = l) }
/-- R126: line `l` joins the queue by its priority. -/
def join (C : Calls) (l : Fin 32) (p : Bool) : Calls :=
  { C with queue := if p then C.queue.takeWhile (·.2) ++ (l, p) :: C.queue.dropWhile (·.2) else C.queue ++ [(l, p)] }

/-! ## What is left untouched stays lawful -/

section Congr
variable {C D : Calls}

theorem HoldsRow.congr {c : Fin 24} {l : Fin 32} {r : Fin 64} (hchannel : D.channel c = C.channel c)
    (hrow : ∀ r x, C.row r = some x → x.channel = c → D.row r = C.row r) (h : C.HoldsRow c l r) : D.HoldsRow c l r := by
  obtain ⟨hr, b, hb⟩ := h
  exact ⟨by rw [hchannel, hr], b, by rw [hrow r _ hb rfl, hb]⟩

theorem ChannelOk.congr {c : Fin 24} (hchannel : D.channel c = C.channel c) (hmeter : D.meter c = C.meter c)
    (hline : ∀ l, (C.line l).channel = some c → D.line l = C.line l)
    (hrow : ∀ r x, C.row r = some x → x.channel = c → D.row r = C.row r) (h : C.ChannelOk c) : D.ChannelOk c := by
  unfold ChannelOk at *
  rw [hchannel, hmeter]
  cases hstate : (C.channel c).state with
  | free => simpa only [hstate] using h
  | closing => simpa only [hstate] using h
  | quarantined => simpa only [hstate] using h
  | offered =>
    simp only [hstate] at h
    obtain ⟨hnone, l, hcl, hls, hlc, hla, r, hr⟩ := h
    have hsame := hline l hlc
    exact ⟨hnone, l, by rwa [hchannel], by rwa [hsame], by rwa [hsame], by rwa [hsame], r, hr.congr hchannel hrow⟩
  | connected =>
    simp only [hstate] at h
    obtain ⟨htimer, l, hcl, hls, hlc, a, r, hm, hla, hr⟩ := h
    have hsame := hline l hlc
    exact ⟨htimer, l, by rwa [hchannel], by rwa [hsame], by rwa [hsame], a, r, by rwa [hmeter], by rwa [hsame], hr.congr hchannel hrow⟩

theorem LineOk.congr {l : Fin 32} (hline : D.line l = C.line l)
    (hchannel : ∀ c, (C.line l).channel = some c → D.channel c = C.channel c) (h : C.LineOk l) : D.LineOk l := by
  unfold LineOk at *
  rw [hline]
  cases hstate : (C.line l).state with
  | offered =>
    simp only [hstate] at h
    obtain ⟨c, hlc, hcs, hcl⟩ := h
    exact ⟨c, hlc, by rwa [hchannel c hlc], by rwa [hchannel c hlc]⟩
  | connected =>
    simp only [hstate] at h
    obtain ⟨c, hlc, hcs, hcl⟩ := h
    exact ⟨c, hlc, by rwa [hchannel c hlc], by rwa [hchannel c hlc]⟩
  | _ => simpa only [hstate] using h

theorem RowOk.congr {r : Fin 64} (hrow : D.row r = C.row r) (hchannel : ∀ x, C.row r = some x → D.channel x.channel = C.channel x.channel)
    (h : C.RowOk r) : D.RowOk r := by
  intro x hx
  rw [hrow] at hx
  rw [hchannel x hx]
  exact h x hx

/-- A change of some lines, channels with their meters, and rows, that are named only among themselves. -/
theorem Coherent.change {lines : Fin 32 → Prop} {channels : Fin 24 → Prop} {rows : Fin 64 → Prop} (h : C.Coherent)
    (hline : ∀ l, ¬ lines l → D.line l = C.line l)
    (hchannel : ∀ c, ¬ channels c → D.channel c = C.channel c ∧ D.meter c = C.meter c)
    (hrow : ∀ r, ¬ rows r → D.row r = C.row r)
    (hlines : ∀ l c, (C.line l).channel = some c → (lines l ↔ channels c))
    (hrows : ∀ r x, C.row r = some x → (rows r ↔ channels x.channel))
    (hline' : ∀ l, lines l → D.LineOk l ∧ ((D.line l).lookup = true → (D.line l).state = .checking))
    (hchannel' : ∀ c, channels c → D.ChannelOk c) (hrow' : ∀ r, rows r → D.RowOk r) (hqueue : D.QueueOk) (hcounts : D.CountsOk) : D.Coherent := by
  obtain ⟨hcs, hls, hrs, -, hlookups, -⟩ := h
  refine ⟨fun c => ?_, fun l => ?_, fun r => ?_, hqueue, fun l => ?_, hcounts⟩
  · by_cases hc : channels c
    · exact hchannel' c hc
    · exact (hcs c).congr (hchannel c hc).1 (hchannel c hc).2 (fun l hlc => hline l fun hl => hc ((hlines l c hlc).mp hl))
        fun r x hx hxc => hrow r fun hr => hc (hxc ▸ (hrows r x hx).mp hr)
  · by_cases hl : lines l
    · exact (hline' l hl).1
    · exact (hls l).congr (hline l hl) fun c hlc => (hchannel c fun hc => hl ((hlines l c hlc).mpr hc)).1
  · by_cases hr : rows r
    · exact hrow' r hr
    · exact (hrs r).congr (hrow r hr) fun x hx => (hchannel _ fun hc => hr ((hrows r x hx).mpr hc)).1
  · by_cases hl : lines l
    · exact (hline' l hl).2
    · rw [hline l hl]
      exact hlookups l

end Congr

/-! ## Counts -/

/-- Two tests that differ at one element of a list without repetition. -/
theorem length_filter_change {α : Type} {p q : α → Bool} {a : α} (hpq : ∀ b, b ≠ a → p b = q b) {l : List α} (hl : l.Nodup) (ha : a ∈ l) :
    (l.filter p).length + (q a).toNat = (l.filter q).length + (p a).toNat := by
  obtain ⟨x, y, rfl⟩ := List.append_of_mem ha
  obtain ⟨-, hy, hdisjoint⟩ := List.nodup_append.mp hl
  have hx : x.filter p = x.filter q := List.filter_congr fun b hb => hpq b fun h => hdisjoint b hb a List.mem_cons_self h
  have hy' : y.filter p = y.filter q := List.filter_congr fun b hb => hpq b fun h => (List.nodup_cons.mp hy).1 (h ▸ hb)
  simp only [List.filter_append, List.length_append, List.filter_cons, hx, hy']
  cases p a <;> cases q a <;> simp <;> omega

theorem admitted_change {C D : Calls} {l : Fin 32} (h : ∀ k, k ≠ l → (D.line k).account = (C.line k).account) (a : Fin 256) :
    D.admitted a + (if (C.line l).account = some a then 1 else 0) = C.admitted a + if (D.line l).account = some a then 1 else 0 := by
  have := length_filter_change (p := fun k => decide ((D.line k).account = some a)) (q := fun k => decide ((C.line k).account = some a))
    (a := l) (fun k hk => by rw [h k hk]) (List.nodup_finRange 32) (List.mem_finRange l)
  simpa only [admitted, allLines, Bool.toNat, Bool.cond_decide] using this

theorem CountsOk.same {C D : Calls} (hopen : D.openCount = C.openCount) (haccount : ∀ l, (D.line l).account = (C.line l).account)
    (h : C.CountsOk) : D.CountsOk := by
  intro a
  have hadmitted : D.admitted a = C.admitted a := by simp only [admitted, haccount]
  rw [hopen, hadmitted]
  exact h a

/-- Section 4.6: line `l` loses its admission for account `b`, and the account counts one less. -/
theorem CountsOk.ended {C D : Calls} {l : Fin 32} {b : Fin 256} (h : C.CountsOk) (hline : ∀ k, k ≠ l → D.line k = C.line k)
    (hold : (C.line l).account = some b) (hnew : (D.line l).account = none)
    (hopen : D.openCount = Function.update C.openCount b (C.openCount b - 1)) : D.CountsOk := by
  intro a
  have hchange := admitted_change (C := C) (D := D) (l := l) (fun k hk => by rw [hline k hk]) a
  have ha := h a
  rw [hopen, Function.update_apply]
  rw [hold, hnew] at hchange
  simp only [Option.some.injEq, reduceCtorEq, if_false] at hchange
  split
  · next hab =>
    subst hab
    rw [if_pos rfl] at hchange
    omega
  · next hab =>
    rw [if_neg (Ne.symm hab)] at hchange
    omega

/-- Section 4.6: line `l` gains an admission for account `b`, and the account counts one more. -/
theorem CountsOk.begun {C D : Calls} {l : Fin 32} {b : Fin 256} (h : C.CountsOk) (hline : ∀ k, k ≠ l → D.line k = C.line k)
    (hold : (C.line l).account = none) (hnew : (D.line l).account = some b)
    (hopen : D.openCount = Function.update C.openCount b (C.openCount b + 1)) : D.CountsOk := by
  intro a
  have hchange := admitted_change (C := C) (D := D) (l := l) (fun k hk => by rw [hline k hk]) a
  have ha := h a
  rw [hopen, Function.update_apply]
  rw [hold, hnew] at hchange
  simp only [Option.some.injEq, reduceCtorEq, if_false] at hchange
  split
  · next hab =>
    subst hab
    rw [if_pos rfl] at hchange
    omega
  · next hab =>
    rw [if_neg (Ne.symm hab)] at hchange
    omega

/-! ## The queue -/

theorem QueueOk.same {C D : Calls} (hqueue : D.queue = C.queue) (hwaiting : ∀ l, (D.line l).state = .waiting ↔ (C.line l).state = .waiting)
    (h : C.QueueOk) : D.QueueOk := by
  unfold QueueOk at *
  simpa only [hqueue, hwaiting] using h

theorem QueueOk.left {C D : Calls} {l : Fin 32} (h : C.QueueOk) (hline : ∀ k, k ≠ l → D.line k = C.line k) (hnew : (D.line l).state ≠ .waiting)
    (hqueue : D.queue = (C.leave l).queue) : D.QueueOk := by
  obtain ⟨hnodup, hmem, hsorted⟩ := h
  unfold QueueOk
  rw [hqueue]
  have hsub : ((C.leave l).queue).Sublist C.queue := List.filter_sublist
  refine ⟨hnodup.sublist (hsub.map _), fun k => ?_, hsorted.sublist hsub⟩
  by_cases hk : k = l
  · subst hk
    simp [leave, hnew]
  · rw [hline k hk, ← hmem k]
    simp only [leave, List.mem_map, List.mem_filter, Bool.not_eq_true', decide_eq_false_iff_not]
    constructor
    · rintro ⟨w, ⟨hw, -⟩, rfl⟩; exact ⟨w, hw, rfl⟩
    · rintro ⟨w, hw, rfl⟩; exact ⟨w, ⟨hw, hk⟩, rfl⟩

/-- R125, R126: a priority waiter goes behind the priority waiters, another one to the tail. -/
theorem QueueOk.joined {C D : Calls} {l : Fin 32} {p : Bool} (h : C.QueueOk) (hline : ∀ k, k ≠ l → D.line k = C.line k)
    (hold : (C.line l).state ≠ .waiting) (hnew : (D.line l).state = .waiting) (hqueue : D.queue = (C.join l p).queue) : D.QueueOk := by
  obtain ⟨hnodup, hmem, hsorted⟩ := h
  have habsent : l ∉ C.queue.map (·.1) := fun hl => hold ((hmem l).mp hl)
  have hperm : ((C.join l p).queue).Perm ((l, p) :: C.queue) := by
    unfold join
    dsimp only
    split
    · refine List.perm_middle.trans (List.Perm.cons _ ?_)
      rw [List.takeWhile_append_dropWhile]
    · exact List.perm_append_singleton _ _
  unfold QueueOk
  rw [hqueue]
  refine ⟨(hperm.map _).nodup_iff.mpr (List.nodup_cons.mpr ⟨habsent, hnodup⟩), fun k => ?_, ?_⟩
  · rw [(hperm.map _).mem_iff, List.map_cons, List.mem_cons, hmem]
    by_cases hk : k = l
    · subst hk
      simp [hnew]
    · simp [hk, hline k hk]
  · unfold join
    dsimp only
    split
    · next hp =>
      refine List.pairwise_append.mpr ⟨hsorted.sublist (List.takeWhile_sublist _), List.pairwise_cons.mpr ⟨fun _ _ _ => hp,
        hsorted.sublist (List.dropWhile_sublist _)⟩, fun a ha _ _ _ => ?_⟩
      simpa using List.mem_takeWhile_imp ha
    · next hp =>
      refine List.pairwise_append.mpr ⟨hsorted, List.pairwise_singleton _ _, fun a _ b hb hpb => ?_⟩
      obtain rfl : b = (l, p) := by simpa using hb
      exact absurd hpb hp

/-! ## What the laws say of one call -/

section Call
variable {C : Calls}

theorem LineOk.of_quiet {D : Calls} {l : Fin 32} (hstate : (D.line l).state.quiet = true) (hchannel : (D.line l).channel = none)
    (haccount : (D.line l).account = none) : D.LineOk l := by
  unfold LineOk
  revert hstate
  cases (D.line l).state <;> simp [LineState.quiet, hchannel, haccount]

theorem Coherent.quiet_line (h : C.Coherent) {l : Fin 32} (hl : (C.line l).state.quiet = true) :
    (C.line l).channel = none ∧ (C.line l).account = none := by
  have hok := h.2.1 l
  unfold LineOk at hok
  revert hl hok
  cases (C.line l).state <;> simp [LineState.quiet]

theorem Coherent.waiting_line (h : C.Coherent) {l : Fin 32} (hl : (C.line l).state = .waiting) :
    ∃ a, C.line l = ⟨.waiting, none, some a, false⟩ := by
  obtain ⟨-, hlines, -, -, hlookups, -⟩ := h
  have hok := hlines l
  unfold LineOk at hok
  rw [hl] at hok
  obtain ⟨hchannel, haccount⟩ := hok
  obtain ⟨a, ha⟩ := Option.isSome_iff_exists.mp haccount
  exact ⟨a, LineCall.ext hl hchannel ha (Bool.eq_false_iff.mpr fun hk => by simpa [hl] using hlookups l hk)⟩

/-- R130: an offer, its line and its row, spelled out. -/
theorem Coherent.offer (h : C.Coherent) {c : Fin 24} (hc : (C.channel c).state = .offered) : C.meter c = none ∧ ∃ l a r,
    (C.channel c).line = some l ∧ (C.channel c).row = some r ∧ C.row r = some ⟨c, l, false⟩ ∧ C.line l = ⟨.offered, some c, some a, false⟩ := by
  obtain ⟨hchannels, -, hrows, -, hlookups, -⟩ := h
  have hok := hchannels c
  unfold ChannelOk at hok
  rw [hc] at hok
  obtain ⟨hmeter, l, hcl, hls, hlc, hla, r, hcr, b, hrow⟩ := hok
  obtain ⟨a, ha⟩ := Option.isSome_iff_exists.mp hla
  obtain ⟨-, ⟨-, hb⟩ | ⟨hconn, -⟩⟩ := hrows r _ hrow
  · change b = false at hb
    subst hb
    exact ⟨hmeter, l, a, r, hcl, hcr, hrow, LineCall.ext hls hlc ha (Bool.eq_false_iff.mpr fun hk => by simpa [hls] using hlookups l hk)⟩
  · exact absurd (hc.symm.trans hconn) (by decide)

/-- R108, R130: a session, its line, its row and its meter, spelled out. -/
theorem Coherent.session (h : C.Coherent) {c : Fin 24} (hc : (C.channel c).state = .connected) : ∃ l a r,
    C.channel c = ⟨.connected, some l, some r, false⟩ ∧ C.meter c = some ⟨l, a, r⟩ ∧ C.row r = some ⟨c, l, true⟩ ∧
      C.line l = ⟨.connected, some c, some a, false⟩ := by
  obtain ⟨hchannels, -, hrows, -, hlookups, -⟩ := h
  have hok := hchannels c
  unfold ChannelOk at hok
  rw [hc] at hok
  obtain ⟨htimer, l, hcl, hls, hlc, a, r, hmeter, hla, hcr, b, hrow⟩ := hok
  obtain ⟨-, ⟨hoff, -⟩ | ⟨-, hb⟩⟩ := hrows r _ hrow
  · exact absurd (hc.symm.trans hoff) (by decide)
  · change b = true at hb
    subst hb
    exact ⟨l, a, r, ChannelCall.ext hc hcl hcr htimer, hmeter, hrow,
      LineCall.ext hls hlc hla (Bool.eq_false_iff.mpr fun hk => by simpa [hls] using hlookups l hk)⟩

/-- R108: a meter runs on a CONNECTED channel alone. -/
theorem Coherent.connected_of_meter (h : C.Coherent) {c : Fin 24} (hm : C.meter c ≠ none) : (C.channel c).state = .connected := by
  have hok := h.1 c
  unfold ChannelOk at hok
  cases hstate : (C.channel c).state with
  | connected => rfl
  | _ =>
    rw [hstate] at hok
    exact absurd hok.1 hm

/-- A line names the channel that names it. -/
theorem Coherent.line_of_channel (h : C.Coherent) {l : Fin 32} {c : Fin 24} (hlc : (C.line l).channel = some c) :
    (C.channel c).line = some l ∧ ((C.channel c).state = .offered ∧ (C.line l).state = .offered ∨
      (C.channel c).state = .connected ∧ (C.line l).state = .connected) := by
  have hok := h.2.1 l
  unfold LineOk at hok
  cases hstate : (C.line l).state with
  | offered =>
    rw [hstate] at hok
    obtain ⟨d, hd, hds, hdl⟩ := hok
    obtain rfl := Option.some.inj (hd.symm.trans hlc)
    exact ⟨hdl, .inl ⟨hds, rfl⟩⟩
  | connected =>
    rw [hstate] at hok
    obtain ⟨d, hd, hds, hdl⟩ := hok
    obtain rfl := Option.some.inj (hd.symm.trans hlc)
    exact ⟨hdl, .inr ⟨hds, rfl⟩⟩
  | _ =>
    rw [hstate] at hok
    rw [hok.1] at hlc
    cases hlc

/-- A channel without a call is named by no line and by no row. -/
theorem Coherent.idle_channel (h : C.Coherent) {c : Fin 24} (hoff : (C.channel c).state ≠ .offered) (hconn : (C.channel c).state ≠ .connected) :
    (∀ l, (C.line l).channel ≠ some c) ∧ (∀ r x, C.row r = some x → x.channel ≠ c) ∧ C.meter c = none ∧ (C.channel c).row = none := by
  refine ⟨fun l hl => ?_, fun r x hx hxc => ?_, ?_⟩
  · obtain ⟨-, ⟨hc, -⟩ | ⟨hc, -⟩⟩ := h.line_of_channel hl
    exacts [hoff hc, hconn hc]
  · obtain ⟨-, ⟨hc, -⟩ | ⟨hc, -⟩⟩ := h.2.2.1 r x hx
    · exact hoff (hxc ▸ hc)
    · exact hconn (hxc ▸ hc)
  · have hok := h.1 c
    unfold ChannelOk at hok
    cases hstate : (C.channel c).state with
    | offered => exact absurd hstate hoff
    | connected => exact absurd hstate hconn
    | free => rw [hstate] at hok; exact ⟨hok.1, hok.2.1⟩
    | closing => rw [hstate] at hok; exact hok
    | quarantined => rw [hstate] at hok; exact ⟨hok.1, hok.2.1⟩

/-- The channel of a call is named by its line and its row alone. -/
theorem Coherent.named_alone (h : C.Coherent) {l : Fin 32} {c : Fin 24} {r : Fin 64} {b : Bool} (hl : (C.line l).channel = some c)
    (hr : C.row r = some ⟨c, l, b⟩) : (∀ k d, (C.line k).channel = some d → (k = l ↔ d = c)) ∧
      ∀ j y, C.row j = some y → (j = r ↔ y.channel = c) := by
  obtain ⟨hcl, -⟩ := h.line_of_channel hl
  have hcr : (C.channel c).row = some r := (h.2.2.1 r _ hr).1
  refine ⟨fun k d hkd => ⟨fun hk => ?_, fun hd => ?_⟩, fun j y hy => ⟨fun hj => ?_, fun hj => ?_⟩⟩
  · rw [hk, hl] at hkd
    exact (Option.some.inj hkd).symm
  · rw [hd] at hkd
    exact Option.some.inj ((h.line_of_channel hkd).1.symm.trans hcl)
  · rw [hj, hr] at hy
    rw [← Option.some.inj hy]
  · have hyr := (h.2.2.1 j y hy).1
    rw [hj, hcr] at hyr
    exact (Option.some.inj hyr).symm

/-! ## The moves -/

/-- A line that takes no part in a call moves among the states of that kind. -/
theorem Coherent.quietLine (h : C.Coherent) {l : Fin 32} (hl : (C.line l).state.quiet = true) {st : LineState} (hst : st.quiet = true)
    {lk : Bool} (hlk : lk = true → st = .checking) : (C.setLine l ⟨st, none, none, lk⟩).Coherent := by
  obtain ⟨hchannel, haccount⟩ := h.quiet_line hl
  obtain ⟨-, -, -, hqueue, -, hcounts⟩ := id h
  have hnew : (C.setLine l ⟨st, none, none, lk⟩).line l = ⟨st, none, none, lk⟩ := Function.update_self ..
  have hother : ∀ k, k ≠ l → (C.setLine l ⟨st, none, none, lk⟩).line k = C.line k := fun k hk => Function.update_of_ne hk ..
  refine h.change (lines := (· = l)) (channels := fun _ => False) (rows := fun _ => False) hother (fun _ _ => ⟨rfl, rfl⟩) (fun _ _ => rfl)
    (fun k c hkc => ?_) (fun _ _ _ => Iff.rfl) (fun k hk => ?_) (fun _ hc => hc.elim) (fun _ hr => hr.elim) (hqueue.same (C := C) rfl fun k => ?_)
    (hcounts.same (C := C) rfl fun k => ?_)
  · refine iff_of_false (fun hk => ?_) id
    rw [hk, hchannel] at hkc
    cases hkc
  · subst hk
    exact ⟨LineOk.of_quiet (by rw [hnew]; exact hst) (by rw [hnew]) (by rw [hnew]), by rw [hnew]; exact hlk⟩
  · by_cases hk : k = l
    · subst hk
      rw [hnew]
      refine iff_of_false (fun hw => ?_) fun hw => ?_
      · change st = .waiting at hw
        rw [hw] at hst
        cases hst
      · rw [hw] at hl
        cases hl
    · rw [hother k hk]
  · by_cases hk : k = l
    · rw [hk, hnew, haccount]
    · rw [hother k hk]

/-- R35: a lookup of a line ends or is discarded. -/
theorem Coherent.lookupDropped (h : C.Coherent) (l : Fin 32) : (C.setLine l { C.line l with lookup := false }).Coherent := by
  obtain ⟨hchannels, hlines, hrows, hqueue, hlookups, hcounts⟩ := h
  generalize hD : C.setLine l { C.line l with lookup := false } = D
  have hsame : ∀ k, (D.line k).state = (C.line k).state ∧ (D.line k).channel = (C.line k).channel ∧
      (D.line k).account = (C.line k).account ∧ ((D.line k).lookup = true → (C.line k).lookup = true) := fun k => by
    rw [← hD]
    by_cases hk : k = l
    · subst hk
      have hself : (C.setLine k { C.line k with lookup := false }).line k = { C.line k with lookup := false } := Function.update_self ..
      rw [hself]
      exact ⟨rfl, rfl, rfl, nofun⟩
    · have hother : (C.setLine l { C.line l with lookup := false }).line k = C.line k := Function.update_of_ne hk ..
      rw [hother]
      exact ⟨rfl, rfl, rfl, id⟩
  have hchannel : D.channel = C.channel := by rw [← hD]; rfl
  have hmeter : D.meter = C.meter := by rw [← hD]; rfl
  have hrow : D.row = C.row := by rw [← hD]; rfl
  refine ⟨fun c => ?_, fun k => ?_, fun r => ?_, hqueue.same (by rw [← hD]; rfl) fun k => by rw [(hsame k).1], fun k hk => ?_,
    hcounts.same (by rw [← hD]; rfl) fun k => (hsame k).2.2.1⟩
  · have hc := hchannels c
    unfold ChannelOk OfferStands SessionStands HoldsRow at *
    simpa only [hsame, hchannel, hmeter, hrow] using hc
  · have hk := hlines k
    unfold LineOk at *
    simpa only [hsame, hchannel] using hk
  · have hr := hrows r
    unfold RowOk at *
    simpa only [hchannel, hrow] using hr
  · rw [(hsame k).1]
    exact hlookups k ((hsame k).2.2.2 hk)

/-- R46: a line in CHECKING is admitted for account `a` and joins the queue. -/
theorem Coherent.admittedLine (h : C.Coherent) {l : Fin 32} (hl : (C.line l).state = .checking) (a : Fin 256) (p : Bool) :
    (((C.setLine l ⟨.waiting, none, some a, false⟩).setOpen a (C.openCount a + 1)).join l p).Coherent := by
  obtain ⟨hchannel, haccount⟩ := h.quiet_line (l := l) (by rw [hl]; rfl)
  obtain ⟨-, -, -, hqueue, -, hcounts⟩ := id h
  generalize hD : ((C.setLine l ⟨.waiting, none, some a, false⟩).setOpen a (C.openCount a + 1)).join l p = D
  have hnew : D.line l = ⟨.waiting, none, some a, false⟩ := by rw [← hD]; exact Function.update_self ..
  have hother : ∀ k, k ≠ l → D.line k = C.line k := fun k hk => by rw [← hD]; exact Function.update_of_ne hk ..
  refine h.change (lines := (· = l)) (channels := fun _ => False) (rows := fun _ => False) hother (fun _ _ => by rw [← hD]; exact ⟨rfl, rfl⟩)
    (fun _ _ => by rw [← hD]; rfl) (fun k c hkc => ?_) (fun _ _ _ => Iff.rfl) (fun k hk => ?_) (fun _ hc => hc.elim) (fun _ hr => hr.elim)
    (hqueue.joined hother (by rw [hl]; decide) (by rw [hnew]) (p := p) (by rw [← hD]; rfl))
    (hcounts.begun hother haccount (by rw [hnew]) (by rw [← hD]; rfl))
  · refine iff_of_false (fun hk => ?_) id
    rw [hk, hchannel] at hkc
    cases hkc
  · subst hk
    exact ⟨by unfold LineOk; rw [hnew]; exact ⟨rfl, rfl⟩, by rw [hnew]; exact nofun⟩

/-- R128, R129: a waiter's line leaves the queue, and its admission ends. -/
theorem Coherent.waiterLeft (h : C.Coherent) {l : Fin 32} {a : Fin 256} (hl : C.line l = ⟨.waiting, none, some a, false⟩) {st : LineState}
    (hst : st.quiet = true) : (((C.leave l).setLine l ⟨st, none, none, false⟩).setOpen a (C.openCount a - 1)).Coherent := by
  obtain ⟨-, -, -, hqueue, -, hcounts⟩ := id h
  generalize hD : ((C.leave l).setLine l ⟨st, none, none, false⟩).setOpen a (C.openCount a - 1) = D
  have hnew : D.line l = ⟨st, none, none, false⟩ := by rw [← hD]; exact Function.update_self ..
  have hother : ∀ k, k ≠ l → D.line k = C.line k := fun k hk => by rw [← hD]; exact Function.update_of_ne hk ..
  have hnot : st ≠ .waiting := fun hw => by
    rw [hw] at hst
    cases hst
  refine h.change (lines := (· = l)) (channels := fun _ => False) (rows := fun _ => False) hother (fun _ _ => by rw [← hD]; exact ⟨rfl, rfl⟩)
    (fun _ _ => by rw [← hD]; rfl) (fun k c hkc => ?_) (fun _ _ _ => Iff.rfl) (fun k hk => ?_) (fun _ hc => hc.elim) (fun _ hr => hr.elim)
    (hqueue.left hother (by rw [hnew]; exact hnot) (by rw [← hD]; rfl))
    (hcounts.ended hother (by rw [hl]) (by rw [hnew]) (by rw [← hD]; rfl))
  · refine iff_of_false (fun hk => ?_) id
    rw [hk, hl] at hkc
    cases hkc
  · subst hk
    exact ⟨LineOk.of_quiet (by rw [hnew]; exact hst) (by rw [hnew]) (by rw [hnew]), by rw [hnew]; exact nofun⟩

/-- R132: the grant of channel `c` and row `r` to the waiting line `l`. -/
theorem Coherent.grantedTo (h : C.Coherent) {l : Fin 32} {a : Fin 256} {c : Fin 24} {r : Fin 64} (hl : C.line l = ⟨.waiting, none, some a, false⟩)
    (hc : (C.channel c).state = .free) (hr : C.row r = none) (b : Bool) :
    ((((C.leave l).setRow r (some ⟨c, l, false⟩)).setChannel c ⟨.offered, some l, some r, b⟩).setLine l ⟨.offered, some c, some a, false⟩).Coherent := by
  obtain ⟨hnoline, hnorow, hmeter, -⟩ := h.idle_channel (by rw [hc]; decide) (by rw [hc]; decide : (C.channel c).state ≠ .connected)
  obtain ⟨-, -, -, hqueue, -, hcounts⟩ := id h
  generalize hD : (((C.leave l).setRow r (some ⟨c, l, false⟩)).setChannel c ⟨.offered, some l, some r, b⟩).setLine l
    ⟨.offered, some c, some a, false⟩ = D
  have hline : D.line l = ⟨.offered, some c, some a, false⟩ := by rw [← hD]; exact Function.update_self ..
  have hother : ∀ k, k ≠ l → D.line k = C.line k := fun k hk => by rw [← hD]; exact Function.update_of_ne hk ..
  have hchannel : D.channel c = ⟨.offered, some l, some r, b⟩ := by rw [← hD]; exact Function.update_self ..
  have hrow : D.row r = some ⟨c, l, false⟩ := by rw [← hD]; exact Function.update_self ..
  have hmeter' : D.meter = C.meter := by rw [← hD]; rfl
  refine h.change (lines := (· = l)) (channels := (· = c)) (rows := (· = r)) hother
    (fun d hd => by rw [← hD]; exact ⟨Function.update_of_ne hd .., rfl⟩) (fun j hj => by rw [← hD]; exact Function.update_of_ne hj ..)
    (fun k d hkd => ?_) (fun j x hx => ?_) (fun k hk => ?_) (fun d hd => ?_) (fun j hj => ?_)
    (hqueue.left hother (by rw [hline]; exact nofun) (by rw [← hD]; rfl)) (hcounts.same (by rw [← hD]; rfl) fun k => ?_)
  · refine iff_of_false (fun hk => ?_) fun hd => hnoline k (hd ▸ hkd)
    rw [hk, hl] at hkd
    cases hkd
  · refine iff_of_false (fun hj => ?_) (hnorow j x hx)
    rw [hj, hr] at hx
    cases hx
  · subst hk
    refine ⟨?_, by rw [hline]; exact nofun⟩
    unfold LineOk
    rw [hline]
    exact ⟨c, rfl, by rw [hchannel], by rw [hchannel]⟩
  · subst hd
    unfold ChannelOk
    rw [hchannel]
    exact ⟨by rw [hmeter', hmeter], l, by rw [hchannel], by rw [hline], by rw [hline], by rw [hline]; rfl, r, by rw [hchannel], false, hrow⟩
  · subst hj
    intro x hx
    obtain rfl := Option.some.inj (hrow.symm.trans hx)
    rw [hchannel]
    exact ⟨rfl, .inl ⟨rfl, rfl⟩⟩
  · by_cases hk : k = l
    · rw [hk, hline, hl]
    · rw [hother k hk]

/-- What the end of a call leaves of its channel: FREE, CLOSING or QUARANTINED, without a row. -/
def ChannelIdle (x : ChannelCall) : Prop :=
  x.row = none ∧ (x.state = .closing ∨ x.state = .quarantined ∧ x.timed = false ∨ x.state = .free ∧ x.line = none ∧ x.timed = false)

theorem ChannelOk.of_idle {D : Calls} {c : Fin 24} (hx : ChannelIdle (D.channel c)) (hmeter : D.meter c = none) : D.ChannelOk c := by
  obtain ⟨hrow, hstate | ⟨hstate, htimed⟩ | ⟨hstate, hline, htimed⟩⟩ := hx
  all_goals
    unfold ChannelOk
    rw [hstate]
  exacts [⟨hmeter, hrow⟩, ⟨hmeter, hrow, htimed⟩, ⟨hmeter, hrow, hline, htimed⟩]

/-- R135 to R139: the call of channel `c`, offered or connected, ends: the line leaves, the row is no longer RESERVED, the meter stands FREE. -/
theorem Coherent.callEnded (h : C.Coherent) {l : Fin 32} {a : Fin 256} {c : Fin 24} {r : Fin 64} {ls : LineState} {b : Bool}
    (hl : C.line l = ⟨ls, some c, some a, false⟩) (hr : C.row r = some ⟨c, l, b⟩) {st : LineState} (hst : st.quiet = true)
    {x : ChannelCall} (hx : ChannelIdle x) :
    (((((C.setRow r none).setMeter c none).setChannel c x).setLine l ⟨st, none, none, false⟩).setOpen a (C.openCount a - 1)).Coherent := by
  obtain ⟨-, -, -, hqueue, -, hcounts⟩ := id h
  obtain ⟨-, hstates⟩ := h.line_of_channel (l := l) (c := c) (by rw [hl])
  obtain ⟨hlinealone, hrowalone⟩ := h.named_alone (l := l) (c := c) (by rw [hl]) hr
  have hnotwaiting : (C.line l).state ≠ .waiting := by
    obtain ⟨-, hls⟩ | ⟨-, hls⟩ := hstates
    all_goals
      rw [hls]
      decide
  have hnot : st ≠ .waiting := fun hw => by
    rw [hw] at hst
    cases hst
  generalize hD : ((((C.setRow r none).setMeter c none).setChannel c x).setLine l ⟨st, none, none, false⟩).setOpen a (C.openCount a - 1) = D
  have hline : D.line l = ⟨st, none, none, false⟩ := by rw [← hD]; exact Function.update_self ..
  have hother : ∀ k, k ≠ l → D.line k = C.line k := fun k hk => by rw [← hD]; exact Function.update_of_ne hk ..
  have hchannel : D.channel c = x := by rw [← hD]; exact Function.update_self ..
  have hmeter : D.meter c = none := by rw [← hD]; exact Function.update_self ..
  have hrow : D.row r = none := by rw [← hD]; exact Function.update_self ..
  refine h.change (lines := (· = l)) (channels := (· = c)) (rows := (· = r)) hother
    (fun d hd => by rw [← hD]; exact ⟨Function.update_of_ne hd .., Function.update_of_ne hd ..⟩)
    (fun j hj => by rw [← hD]; exact Function.update_of_ne hj ..)
    hlinealone hrowalone (fun k hk => ?_) (fun d hd => ?_) (fun j hj => ?_)
    (hqueue.same (by rw [← hD]; rfl) fun k => ?_) (hcounts.ended hother (by rw [hl]) (by rw [hline]) (by rw [← hD]; rfl))
  · subst hk
    exact ⟨LineOk.of_quiet (by rw [hline]; exact hst) (by rw [hline]) (by rw [hline]), by rw [hline]; exact nofun⟩
  · subst hd
    exact ChannelOk.of_idle (by rw [hchannel]; exact hx) hmeter
  · subst hj
    intro y hy
    rw [hrow] at hy
    cases hy
  · by_cases hk : k = l
    · subst hk
      exact iff_of_false (by rw [hline]; exact hnot) hnotwaiting
    · rw [hother k hk]

/-- R134: the offer of channel `c` becomes a session. -/
theorem Coherent.callConnected (h : C.Coherent) {l : Fin 32} {a : Fin 256} {c : Fin 24} {r : Fin 64}
    (hl : C.line l = ⟨.offered, some c, some a, false⟩) (hr : C.row r = some ⟨c, l, false⟩) :
    ((((C.setRow r (some ⟨c, l, true⟩)).setMeter c (some ⟨l, a, r⟩)).setChannel c ⟨.connected, some l, some r, false⟩).setLine l
      ⟨.connected, some c, some a, false⟩).Coherent := by
  obtain ⟨-, -, -, hqueue, -, hcounts⟩ := id h
  obtain ⟨hlinealone, hrowalone⟩ := h.named_alone (l := l) (c := c) (by rw [hl]) hr
  generalize hD : (((C.setRow r (some ⟨c, l, true⟩)).setMeter c (some ⟨l, a, r⟩)).setChannel c ⟨.connected, some l, some r, false⟩).setLine l
    ⟨.connected, some c, some a, false⟩ = D
  have hline : D.line l = ⟨.connected, some c, some a, false⟩ := by rw [← hD]; exact Function.update_self ..
  have hother : ∀ k, k ≠ l → D.line k = C.line k := fun k hk => by rw [← hD]; exact Function.update_of_ne hk ..
  have hchannel : D.channel c = ⟨.connected, some l, some r, false⟩ := by rw [← hD]; exact Function.update_self ..
  have hmeter : D.meter c = some ⟨l, a, r⟩ := by rw [← hD]; exact Function.update_self ..
  have hrow : D.row r = some ⟨c, l, true⟩ := by rw [← hD]; exact Function.update_self ..
  refine h.change (lines := (· = l)) (channels := (· = c)) (rows := (· = r)) hother
    (fun d hd => by rw [← hD]; exact ⟨Function.update_of_ne hd .., Function.update_of_ne hd ..⟩)
    (fun j hj => by rw [← hD]; exact Function.update_of_ne hj ..)
    hlinealone hrowalone (fun k hk => ?_) (fun d hd => ?_) (fun j hj => ?_)
    (hqueue.same (by rw [← hD]; rfl) fun k => ?_) (hcounts.same (by rw [← hD]; rfl) fun k => ?_)
  · subst hk
    refine ⟨?_, by rw [hline]; exact nofun⟩
    unfold LineOk
    rw [hline]
    exact ⟨c, rfl, by rw [hchannel], by rw [hchannel]⟩
  · subst hd
    unfold ChannelOk
    rw [hchannel]
    exact ⟨rfl, l, by rw [hchannel], by rw [hline], by rw [hline], a, r, hmeter, by rw [hline], by rw [hchannel], true, hrow⟩
  · subst hj
    intro y hy
    obtain rfl := Option.some.inj (hrow.symm.trans hy)
    rw [hchannel]
    exact ⟨rfl, .inr ⟨rfl, rfl⟩⟩
  · by_cases hk : k = l
    · subst hk
      rw [hline, hl]
      exact iff_of_false nofun nofun
    · rw [hother k hk]
  · by_cases hk : k = l
    · rw [hk, hline, hl]
    · rw [hother k hk]

/-- R140, R143: a channel without a call moves on. -/
theorem Coherent.idleChannel (h : C.Coherent) {c : Fin 24} (hoff : (C.channel c).state ≠ .offered) (hconn : (C.channel c).state ≠ .connected)
    {x : ChannelCall} (hx : ChannelIdle x) : (C.setChannel c x).Coherent := by
  obtain ⟨hnoline, hnorow, hmeter, -⟩ := h.idle_channel hoff hconn
  obtain ⟨-, -, -, hqueue, -, hcounts⟩ := id h
  refine h.change (lines := fun _ => False) (channels := (· = c)) (rows := fun _ => False) (fun _ _ => rfl)
    (fun d hd => ⟨Function.update_of_ne hd .., rfl⟩) (fun _ _ => rfl)
    (fun k d hkd => iff_of_false id fun hd => hnoline k (hd ▸ hkd)) (fun j y hy => iff_of_false id (hnorow j y hy))
    (fun _ hl => hl.elim) (fun d hd => ?_) (fun _ hr => hr.elim) (hqueue.same (C := C) rfl fun _ => Iff.rfl)
    (hcounts.same (C := C) rfl fun _ => rfl)
  subst hd
  exact ChannelOk.of_idle (by rw [show (C.setChannel d x).channel d = x from Function.update_self ..]; exact hx) hmeter

end Call

end Calls

end Sys2Proof.Machine
end

section
/-! What the operations of the machine make of the view of the call path: one line says of each what the laws see of it. -/

namespace Sys2Proof.Machine

open Sys2Proof

/-! ## Writing one part of the state -/

section Parts
variable (s : State)

@[simp] theorem State.calls_setLine (l : Fin 32) (x : Line) : (s.setLine l x).calls = s.calls.setLine l x.call := by
  ext k : 2
  · simp only [State.calls, State.setLine_line, Calls.setLine, Function.update_apply]
    split <;> rfl
  all_goals rfl

@[simp] theorem State.calls_updLine (l : Fin 32) (f : Line → Line) : (s.updLine l f).calls = s.calls.setLine l (f (s.line l)).call :=
  s.calls_setLine l _

@[simp] theorem State.calls_setChannel (c : Fin 24) (x : Channel) : (s.setChannel c x).calls = s.calls.setChannel c x.call := by
  ext k : 2
  case channel =>
    simp only [State.calls, State.setChannel_channel, Calls.setChannel, Function.update_apply]
    split <;> rfl
  all_goals rfl

@[simp] theorem State.calls_updChannel (c : Fin 24) (f : Channel → Channel) :
    (s.updChannel c f).calls = s.calls.setChannel c (f (s.channel c)).call := s.calls_setChannel c _

@[simp] theorem State.calls_setMeter (c : Fin 24) (x : Option Meter) : (s.setMeter c x).calls = s.calls.setMeter c (x.map Meter.call) := by
  ext k : 2
  case meter =>
    simp only [State.calls, State.setMeter_meter, Calls.setMeter, Function.update_apply]
    split <;> rfl
  all_goals rfl

@[simp] theorem State.calls_setRow (r : Fin 64) (x : Row) : (s.setRow r x).calls = s.calls.setRow r x.call := by
  ext k : 2
  case row =>
    simp only [State.calls, State.setRow_row, Calls.setRow, Function.update_apply]
    split <;> rfl
  all_goals rfl

@[simp] theorem State.calls_setAccount (a : Fin 256) (x : Account) : (s.setAccount a x).calls = s.calls.setOpen a x.openCount := by
  ext k : 2
  case openCount =>
    simp only [State.calls, State.setAccount_account, Calls.setOpen, Function.update_apply]
    split <;> rfl
  all_goals rfl

@[simp] theorem State.calls_updAccount (a : Fin 256) (f : Account → Account) :
    (s.updAccount a f).calls = s.calls.setOpen a (f (s.account a)).openCount := s.calls_setAccount a _

@[simp] theorem State.calls_updTrunk (f : Trunk → Trunk) : (s.updTrunk f).calls = s.calls := rfl
@[simp] theorem State.calls_updMgt (f : Management → Management) : (s.updMgt f).calls = s.calls := rfl
@[simp] theorem State.calls_updCal (f : Calendar → Calendar) : (s.updCal f).calls = s.calls := rfl
@[simp] theorem State.calls_updDir (f : Directory → Directory) : (s.updDir f).calls = s.calls := rfl

end Parts

namespace Calls
variable (C : Calls)

@[simp] theorem setLine_self (l : Fin 32) : C.setLine l (C.line l) = C := by simp [setLine]
@[simp] theorem setChannel_self (c : Fin 24) : C.setChannel c (C.channel c) = C := by simp [setChannel]
@[simp] theorem setMeter_self (c : Fin 24) : C.setMeter c (C.meter c) = C := by simp [setMeter]
@[simp] theorem setRow_self (r : Fin 64) : C.setRow r (C.row r) = C := by simp [setRow]
@[simp] theorem setOpen_self (a : Fin 256) : C.setOpen a (C.openCount a) = C := by simp [setOpen]
@[simp] theorem setLine_setLine (l : Fin 32) (x y : LineCall) : (C.setLine l x).setLine l y = C.setLine l y := by simp [setLine]
@[simp] theorem setChannel_setChannel (c : Fin 24) (x y : ChannelCall) : (C.setChannel c x).setChannel c y = C.setChannel c y := by simp [setChannel]
@[simp] theorem setMeter_setMeter (c : Fin 24) (x y : Option MeterCall) : (C.setMeter c x).setMeter c y = C.setMeter c y := by simp [setMeter]
theorem setLine_setChannel (l : Fin 32) (x : LineCall) (c : Fin 24) (y : ChannelCall) :
    (C.setLine l x).setChannel c y = (C.setChannel c y).setLine l x := rfl
theorem setOpen_setLine (a : Fin 256) (n : Nat) (l : Fin 32) (x : LineCall) : (C.setOpen a n).setLine l x = (C.setLine l x).setOpen a n := rfl
theorem setOpen_line (a : Fin 256) (n : Nat) : (C.setOpen a n).line = C.line := rfl
@[simp] theorem setLine_line_same (l : Fin 32) (x : LineCall) : (C.setLine l x).line l = x := Function.update_self ..

end Calls

/-- Two states that agree in what the laws see of each part. -/
theorem State.calls_congr {s t : State} (hline : ∀ l, (t.line l).call = (s.line l).call) (hchannel : ∀ c, (t.channel c).call = (s.channel c).call)
    (hmeter : ∀ c, (t.meter c).map Meter.call = (s.meter c).map Meter.call) (hrow : ∀ r, (t.row r).call = (s.row r).call)
    (hqueue : t.queue.map Waiter.call = s.queue.map Waiter.call) (hopen : ∀ a, (t.account a).openCount = (s.account a).openCount) :
    t.calls = s.calls :=
  Calls.ext (funext hline) (funext hchannel) (funext hmeter) (funext hrow) hqueue (funext hopen)

/-! ## Lines -/

section Lines

theorem Line.place_call (ln : Line) (c : Byte) : (ln.place c).call = ln.call := by
  unfold Line.place
  split <;> rfl

@[simp] theorem Line.placeAll_call (ln : Line) (cs : List Byte) : (ln.placeAll cs).call = ln.call :=
  foldl_invariant (fun x => x.call = ln.call) Line.place (fun x c h => (x.place_call c).trans h) cs ln rfl

@[simp] theorem Line.receive_call (ln : Line) (c : Byte) : (ln.receive c).call = ln.call := by
  unfold Line.receive
  split <;> rfl

@[simp] theorem Line.request_call (now : Nat) (m : Fin 24) (v : Int) (ln : Line) : (Line.request now m v ln).call = ln.call := by
  unfold Line.request
  split <;> rfl

variable {s : State}

/-- A change of one line that the laws do not see. -/
theorem State.calls_updLine_same (l : Fin 32) {f : Line → Line} (h : (f (s.line l)).call = (s.line l).call) : (s.updLine l f).calls = s.calls := by
  rw [State.calls_updLine, h]
  exact s.calls.setLine_self l

theorem State.calls_setLine_same (l : Fin 32) {x : Line} (h : x.call = (s.line l).call) : (s.setLine l x).calls = s.calls := by
  rw [State.calls_setLine, h]
  exact s.calls.setLine_self l

@[simp] theorem notify_calls (l : Fin 32) (m : Fin 24) (v : Int) (s : State) : (notify l m v s).calls = s.calls :=
  State.calls_updLine_same l (Line.request_call ..)

@[simp] theorem notifyIf_calls (l : Fin 32) (m : Option (Fin 24)) (s : State) : (notifyIf l m s).calls = s.calls := by
  unfold notifyIf
  split
  exacts [notify_calls .., rfl]

@[simp] theorem placeMessage_calls (l : Fin 32) (m : Fin 24) (s : State) : (placeMessage l m s).calls = s.calls :=
  State.calls_updLine_same l (Line.placeAll_call ..)

/-- Characters placed and the dialogue moved on, its lookup as it was. -/
theorem Line.placeAll_dialogue_call (ln : Line) (cs : List Byte) {d : Dialogue} (h : d.lookup = ln.dialogue.lookup) :
    ({ ln.placeAll cs with dialogue := d } : Line).call = ln.call := by
  have hplaced := ln.placeAll_call cs
  simp only [Line.call, LineCall.mk.injEq] at hplaced ⊢
  obtain ⟨hstate, hchannel, haccount, -⟩ := hplaced
  exact ⟨hstate, hchannel, haccount, by rw [h]⟩

@[simp] theorem tryPrompt_calls (l : Fin 32) (s : State) : (tryPrompt l s).calls = s.calls := by
  unfold tryPrompt
  dsimp only
  split
  · split
    · exact State.calls_setLine_same l (Line.placeAll_dialogue_call _ _ rfl)
    · exact State.calls_setLine_same l (Line.placeAll_dialogue_call _ _ rfl)
    · exact State.calls_setLine_same l (Line.placeAll_dialogue_call _ _ rfl)
    all_goals rfl
  · rfl

@[simp] theorem drainEnd_calls (s : State) : (drainEnd s).calls = s.calls := by
  unfold drainEnd
  split <;> rfl

@[simp] theorem Dialogue.ended_lookup (d : Dialogue) : decide (d.ended.lookup = .inFlight) = false := by
  unfold Dialogue.ended
  dsimp only
  split
  · rfl
  · next h => exact decide_eq_false h

@[simp] theorem endDialogue_calls (l : Fin 32) (s : State) :
    (endDialogue l s).calls = s.calls.setLine l { s.calls.line l with lookup := false } := by
  unfold endDialogue
  rw [State.calls_updLine]
  congr 1
  simp only [Line.call, Dialogue.ended_lookup]
  rfl

@[simp] theorem toDraining_calls (l : Fin 32) (s : State) :
    (toDraining l s).calls = s.calls.setLine l { s.calls.line l with state := .draining } := State.calls_updLine ..

@[simp] theorem toClearing_calls (l : Fin 32) (s : State) :
    (toClearing l s).calls = s.calls.setLine l { s.calls.line l with state := .clearing } := State.calls_updLine ..

@[simp] theorem endAdmission_calls (l : Fin 32) (a : Fin 256) (s : State) : (endAdmission l a s).calls =
    (s.calls.setLine l { s.calls.line l with account := none }).setOpen a (s.calls.openCount a - 1) := by
  simp only [endAdmission, drainEnd_calls, State.calls_updAccount, State.calls_updLine, State.updLine_account]
  rfl

theorem endLineAdmission_calls {l : Fin 32} {a : Fin 256} (h : (s.calls.line l).account = some a) : (endLineAdmission l s).calls =
    (s.calls.setLine l { s.calls.line l with account := none }).setOpen a (s.calls.openCount a - 1) := by
  obtain ⟨x, hx, rfl⟩ := Option.map_eq_some_iff.mp h
  unfold endLineAdmission
  rw [hx]
  exact endAdmission_calls ..

theorem removeRequest_calls {l : Fin 32} (h : (s.calls.line l).state = .waiting ∨ (s.calls.line l).state = .offered) :
    (removeRequest l s).calls = s.calls.setLine l { s.calls.line l with state := .draining, channel := none } := by
  have h : (s.line l).state = .waiting ∨ (s.line l).state = .offered := h
  unfold removeRequest
  rw [if_pos h, toDraining_calls, State.calls_updLine, Calls.setLine_setLine, Calls.setLine_line_same]
  rfl

theorem refuseRequest_calls {l : Fin 32} (h : (s.calls.line l).state.inDialogue = true) :
    (refuseRequest l s).calls = s.calls.setLine l { s.calls.line l with state := .draining } := by
  have h : (s.line l).state.inDialogue = true := h
  unfold refuseRequest
  rw [if_pos h, drainEnd_calls, toDraining_calls]

theorem refuseRequest_idle {l : Fin 32} (h : ¬ (s.line l).state.inDialogue = true) : refuseRequest l s = s := if_neg h

end Lines

/-! ## Controls and the trunk -/

@[simp] theorem handControl_calls (c : Fin 24) (k : ControlKind) (s : State) : (handControl c k s).calls = s.calls := rfl
@[simp] theorem dropSessionControls_calls (c : Fin 24) (s : State) : (dropSessionControls c s).calls = s.calls := rfl
@[simp] theorem dropOpen_calls (c : Fin 24) (s : State) : (dropOpen c s).calls = s.calls := rfl
@[simp] theorem setAnnounced_calls (c : Fin 24) (f : Flow) (s : State) : (setAnnounced c f s).calls = s.calls := rfl

/-! ## The queue -/

@[simp] theorem leaveQueue_calls (l : Fin 32) (s : State) : (leaveQueue l s).calls = s.calls.leave l := by
  refine Calls.ext rfl rfl rfl rfl ?_ rfl
  simp only [State.calls, Calls.leave, leaveQueue, List.filter_map]
  rfl

theorem State.waiter_isSome_iff {s : State} {l : Fin 32} : (s.waiter l).isSome = true ↔ l ∈ s.calls.queue.map (·.1) := by
  simp [State.waiter, State.calls, Waiter.call]

theorem removeWaiter_calls {s : State} {l : Fin 32} {a : Fin 256} (hl : s.calls.line l = ⟨.waiting, none, some a, false⟩)
    (hw : (s.waiter l).isSome = true) (m : Option (Fin 24)) (drains : Bool) : (removeWaiter l m drains s).calls =
      ((s.calls.leave l).setLine l ⟨if drains then .draining else .waiting, none, none, false⟩).setOpen a (s.calls.openCount a - 1) := by
  obtain ⟨w, hw⟩ := Option.isSome_iff_exists.mp hw
  have htold : (notifyIf l m (leaveQueue l s)).calls = s.calls.leave l := by simp
  have hline : (s.calls.leave l).line l = ⟨.waiting, none, some a, false⟩ := hl
  have hended : (endLineAdmission l (notifyIf l m (leaveQueue l s))).calls =
      ((s.calls.leave l).setLine l ⟨.waiting, none, none, false⟩).setOpen a (s.calls.openCount a - 1) := by
    rw [endLineAdmission_calls (a := a) (by rw [htold, hline]), htold, hline]
    rfl
  unfold removeWaiter
  rw [hw]
  dsimp only
  split
  · have hstate : ((endLineAdmission l (notifyIf l m (leaveQueue l s))).calls.line l) = ⟨.waiting, none, none, false⟩ := by
      rw [hended]
      exact Function.update_self ..
    rw [removeRequest_calls (by rw [hstate]; exact .inl rfl), hstate, hended, Calls.setOpen_setLine, Calls.setLine_setLine]
  · exact hended

/-! ## Grants -/

/-- R132. -/
theorem grantTo_calls {s : State} {l : Fin 32} {a : Admission} (c : Fin 24) (r : Fin 64)
    (hl : s.calls.line l = ⟨.waiting, none, some a.account, false⟩) : (grantTo l a c r s).calls =
      (((s.calls.leave l).setRow r (some ⟨c, l, false⟩)).setChannel c ⟨.offered, some l, some r, true⟩).setLine l
        ⟨.offered, some c, some a.account, false⟩ := by
  have hstate : (s.line l).state = .waiting := congrArg LineCall.state hl
  have haccount : (s.line l).admission.map (·.account) = some a.account := congrArg LineCall.account hl
  have hlookup : decide ((s.line l).dialogue.lookup = .inFlight) = false := congrArg LineCall.lookup hl
  have hoffered : ({ s.line l with state := .offered, channel := some c } : Line).call = ⟨.offered, some c, some a.account, false⟩ :=
    LineCall.ext rfl rfl haccount hlookup
  have hgrant : ∀ u : State, u.line l = s.line l → (grantRequest l c u).calls = u.calls.setLine l ⟨.offered, some c, some a.account, false⟩ := fun u hu => by
    unfold grantRequest
    rw [hu, if_pos hstate, State.calls_updLine, hu, hoffered]
  unfold grantTo
  simp only [State.calls_updChannel, handControl_calls]
  rw [hgrant _ (by simp [reserveRow]), Calls.setLine_setChannel, State.calls_updChannel, Calls.setChannel_setChannel]
  simp [reserveRow, Row.call, Channel.call, State.after]

/-! ## The end of an offer -/

theorem freeRow_calls {s : State} {r : Fin 64} {c : Fin 24} {l : Fin 32} {b : Bool} (h : s.calls.row r = some ⟨c, l, b⟩) :
    (freeRow r c s).calls = s.calls.setRow r none := by
  have h : (s.row r).call = some ⟨c, l, b⟩ := h
  unfold freeRow
  cases hrow : s.row r with
  | free => rw [hrow] at h; cases h
  | closed t => rw [hrow] at h; cases h
  | reserved x =>
    rw [hrow] at h
    have hc : x.channel = c := congrArg RowCall.channel (Option.some.inj h)
    simp only [if_pos hc, State.calls_setRow]
    rfl

section Offer
variable {s : State} {c : Fin 24} {l : Fin 32} {a : Fin 256} {r : Fin 64} {b : Bool}

theorem endOffer_calls (hcl : (s.calls.channel c).line = some l) (hcr : (s.calls.channel c).row = some r)
    (hr : s.calls.row r = some ⟨c, l, b⟩) (hl : s.calls.line l = ⟨.offered, some c, some a, false⟩) (m : Option (Fin 24)) (drains : Bool) :
    (endOffer c m drains s).calls =
      ((s.calls.setRow r none).setLine l ⟨if drains then .draining else .offered, none, none, false⟩).setOpen a (s.calls.openCount a - 1) := by
  have hcl : (s.channel c).line = some l := hcl
  have hcr : (s.channel c).row = some r := hcr
  have hfreed : offerRowFreed c s = freeRow r c s := by unfold offerRowFreed; rw [hcr]
  have hcl' : ((freeRow r c s).channel c).line = some l := by simpa using hcl
  have hline : (freeRow r c s).calls.line l = ⟨.offered, some c, some a, false⟩ := by rw [freeRow_calls hr]; exact hl
  have hended : (notifyIf l m (endLineAdmission l (freeRow r c s))).calls =
      ((s.calls.setRow r none).setLine l ⟨.offered, some c, none, false⟩).setOpen a (s.calls.openCount a - 1) := by
    rw [notifyIf_calls, endLineAdmission_calls (a := a) (by rw [hline]), hline, freeRow_calls hr]
    rfl
  have hline' : (notifyIf l m (endLineAdmission l (freeRow r c s))).calls.line l = ⟨.offered, some c, none, false⟩ := by
    rw [hended]
    exact Function.update_self ..
  rw [endOffer_parts, hfreed]
  unfold offerLineLeaves
  rw [hcl']
  dsimp only
  split
  · rw [removeRequest_calls (by rw [hline']; exact .inr rfl), hline', hended, Calls.setOpen_setLine, Calls.setLine_setLine]
  · rw [State.calls_updLine]
    have hcall : ({ (notifyIf l m (endLineAdmission l (freeRow r c s))).line l with channel := none } : Line).call =
        { (notifyIf l m (endLineAdmission l (freeRow r c s))).calls.line l with channel := none } := rfl
    rw [hcall, hline', hended, Calls.setOpen_setLine, Calls.setLine_setLine]

end Offer

/-! ## Charges and the close of a session -/

@[simp] theorem warnLines_calls (a : Fin 256) (v : Int) (s : State) : (warnLines a v s).calls = s.calls := by
  unfold warnLines
  refine foldl_invariant (fun t => t.calls = s.calls) _ (fun t c h => ?_) allChannels s rfl
  split
  · split
    exacts [(notify_calls ..).trans h, h]
  · exact h

@[simp] theorem checkWarning_calls (a : Fin 256) (s : State) : (checkWarning a s).calls = s.calls := by
  unfold checkWarning
  split
  · rw [warnLines_calls, State.calls_updAccount]
    exact s.calls.setOpen_self a
  · rfl

@[simp] theorem debitAccount_calls (a : Fin 256) (n : Nat) (s : State) : (debitAccount a n s).1.calls = s.calls := by
  unfold debitAccount
  split
  · rfl
  · have hopen : ((s.account a).debit n).1.openCount = (s.account a).openCount := by
      unfold Account.debit
      split <;> rfl
    simp only [checkWarning_calls, State.calls_setAccount, hopen]
    exact s.calls.setOpen_self a

/-- A change of one meter that the laws do not see. -/
theorem State.calls_updMeter_same {s : State} (c : Fin 24) {f : Meter → Meter} (h : ∀ m, (f m).call = m.call := by exact fun _ => rfl) :
    (s.updMeter c f).calls = s.calls := by
  unfold State.updMeter
  rw [State.calls_setMeter, Option.map_map]
  have hsame : (s.meter c).map (Meter.call ∘ f) = s.calls.meter c := by
    simp only [Function.comp_def, h]
    rfl
  rw [hsame]
  exact s.calls.setMeter_self c

theorem State.calls_setMeter_same {s : State} {c : Fin 24} {m x : Meter} (hm : s.meter c = some m) (h : x.call = m.call) :
    (s.setMeter c (some x)).calls = s.calls := by
  have hself : (some x).map Meter.call = s.calls.meter c := by simp [State.calls, hm, h]
  rw [State.calls_setMeter, hself]
  exact s.calls.setMeter_self c

@[simp] theorem chargeUnits_calls (c : Fin 24) (n : Nat) (s : State) : (chargeUnits c n s).1.calls = s.calls := by
  unfold chargeUnits
  split
  · rfl
  · next m hm =>
    dsimp only
    rw [State.calls_updMeter_same, debitAccount_calls]
    exact State.calls_setMeter_same hm rfl

@[simp] theorem roundOff_calls (c : Fin 24) (m : Meter) (s : State) : (roundOff c m s).calls = s.calls := by
  unfold roundOff
  split
  exacts [chargeUnits_calls .., rfl]

theorem State.calls_serials (s : State) (n : Nat) (q : List (Fin 64)) :
    State.calls { s with tickets := { s.tickets with serial := n, closeList := q } } = s.calls := rfl

theorem closeTicket_calls {s : State} {c : Fin 24} {m : Meter} {l : Fin 32} {b : Bool} (h : s.calls.row m.row = some ⟨c, l, b⟩) (e : Bool)
    (why : CloseReason) : (closeTicket c m e why s).calls = s.calls.setRow m.row none := by
  have h : (s.row m.row).call = some ⟨c, l, b⟩ := h
  unfold closeTicket
  cases hrow : s.row m.row with
  | free => rw [hrow] at h; cases h
  | closed t => rw [hrow] at h; cases h
  | reserved x =>
    rw [hrow] at h
    have hc : x.channel = c := congrArg RowCall.channel (Option.some.inj h)
    simp only [if_pos hc]
    rw [State.calls_serials, State.calls_setRow]
    rfl

/-- The state of a line whose session was closed with reason `why`. -/
def closedState (why : CloseReason) : LineState := if why = .carrierLost then .connected else .draining

theorem sessionClosed_calls {s : State} {l : Fin 32} (h : (s.calls.line l).state = .connected) (why : CloseReason) :
    (sessionClosed l why s).calls = s.calls.setLine l { s.calls.line l with state := closedState why, channel := none } := by
  have h : (s.line l).state = .connected := h
  have hdraining : ∀ u : State, u.calls = s.calls → (toDraining l (u.updLine l fun ln => { ln with channel := none })).calls =
      s.calls.setLine l { s.calls.line l with state := .draining, channel := none } := fun u hu => by
    rw [toDraining_calls, State.calls_updLine, Calls.setLine_setLine, Calls.setLine_line_same, ← hu]
    rfl
  unfold sessionClosed
  rw [if_pos h]
  cases why with
  | carrierLost =>
    refine (State.calls_updLine ..).trans (congrArg _ ?_)
    exact LineCall.ext h rfl rfl rfl
  | hostLogoff => exact hdraining s rfl
  | _ => exact hdraining _ (notify_calls ..)

/-- R138, R139: the channel of a closed session is FREE or CLOSING. -/
theorem channelClosed_calls (c : Fin 24) (why : CloseReason) (s : State) : ∃ x, Calls.ChannelIdle x ∧
    (channelClosed c why s).calls = s.calls.setChannel c x := by
  have hleft : ∀ f : Channel → Channel, ((leaveConnected c why s).updChannel c f).calls =
      s.calls.setChannel c (f { s.channel c with hostFlow := .go, row := none, lastClose := why.code }).call := fun f => by
    simp [leaveConnected, dropSessionControls]
  have hfree : Calls.ChannelIdle ⟨.free, none, none, false⟩ := ⟨rfl, .inr (.inr ⟨rfl, rfl, rfl⟩)⟩
  have hclosing : ∀ l b, Calls.ChannelIdle ⟨.closing, l, none, b⟩ := fun l b => ⟨rfl, .inl rfl⟩
  unfold channelClosed
  split
  · exact ⟨_, hfree, (handControl_calls ..).trans (hleft _)⟩
  · exact ⟨_, hfree, hleft _⟩
  all_goals exact ⟨_, hclosing _ _, (handControl_calls ..).trans (hleft _)⟩

section Session
variable {s : State} {c : Fin 24} {l : Fin 32} {a : Fin 256} {r : Fin 64} {b : Bool}

/-- R121, R138, R139: a closed session leaves its line, its row, its meter and its channel. -/
theorem closeSession_calls (hm : s.calls.meter c = some ⟨l, a, r⟩) (hr : s.calls.row r = some ⟨c, l, b⟩)
    (hl : s.calls.line l = ⟨.connected, some c, some a, false⟩) (why : CloseReason) : ∃ x, Calls.ChannelIdle x ∧
      (closeSession c why s).calls = ((((s.calls.setRow r none).setMeter c none).setChannel c x).setLine l
        ⟨closedState why, none, none, false⟩).setOpen a (s.calls.openCount a - 1) := by
  obtain ⟨m, hm, hcall⟩ := Option.map_eq_some_iff.mp hm
  obtain ⟨hml, hma, hmr⟩ := MeterCall.mk.inj hcall
  have hround : (roundOff c m s).calls = s.calls := roundOff_calls ..
  have hmeter : (roundOff c m s).calls.meter c = some ⟨l, a, r⟩ := by
    rw [hround]
    simp [State.calls, hm, hcall]
  obtain ⟨m', hm', hcall'⟩ := Option.map_eq_some_iff.mp hmeter
  obtain ⟨-, -, hmr'⟩ := MeterCall.mk.inj hcall'
  unfold closeSession
  rw [hm]
  dsimp only
  rw [hm']
  dsimp only
  generalize hu : closeTicket c m' m.exhausted why (roundOff c m s) = u
  have hticket : u.calls = s.calls.setRow r none := by
    rw [← hu, closeTicket_calls (l := l) (b := b) (by rw [hmr', hround, hr]), hmr', hround]
  have hended : ((endAdmission m.line m.account u).setMeter c none).calls =
      (((s.calls.setRow r none).setLine l ⟨.connected, some c, none, false⟩).setOpen a (s.calls.openCount a - 1)).setMeter c none := by
    rw [State.calls_setMeter, endAdmission_calls, hticket, hml, hma, show (s.calls.setRow r none).line l = _ from hl]
    rfl
  generalize (endAdmission m.line m.account u).setMeter c none = v at hended
  have hline : v.calls.line l = ⟨.connected, some c, none, false⟩ := by rw [hended]; exact Function.update_self ..
  obtain ⟨x, hx, hclosed⟩ := channelClosed_calls c why (sessionClosed m.line why v)
  refine ⟨x, hx, ?_⟩
  rw [hclosed, hml, sessionClosed_calls (by rw [hline]), hline, hended]
  refine Eq.trans ?_ (congrArg (fun y => Calls.setOpen y a _) (Calls.setLine_setLine _ l ⟨.connected, some c, none, false⟩ _))
  rfl

end Session

/-! ## The start of a session -/

theorem stampRow_calls {s : State} {r : Fin 64} {c : Fin 24} {l : Fin 32} (h : s.calls.row r = some ⟨c, l, false⟩) :
    (stampRow r c s).calls = s.calls.setRow r (some ⟨c, l, true⟩) := by
  have h : (s.row r).call = some ⟨c, l, false⟩ := h
  unfold stampRow
  cases hrow : s.row r with
  | free => rw [hrow] at h; cases h
  | closed t => rw [hrow] at h; cases h
  | reserved x =>
    rw [hrow] at h
    obtain ⟨hc, hl, hstart⟩ := RowCall.mk.inj (Option.some.inj h)
    have hnone : x.start = none := by simpa using hstart
    simp only [hc, hnone, and_self, if_true, State.calls_setRow]
    congr 1
    simp only [Row.call, hl, Option.isSome_some]

theorem connectRequest_calls {s : State} {l : Fin 32} (h : (s.calls.line l).state = .offered) :
    (connectRequest l s).calls = s.calls.setLine l { s.calls.line l with state := .connected } := by
  have h : (s.line l).state = .offered := h
  unfold connectRequest
  rw [if_pos h]
  exact State.calls_updLine ..

end Sys2Proof.Machine
end

section
/-! Every effect keeps the call path coherent (CallsKept). -/

namespace Sys2Proof.Machine

open Sys2Proof

/-- The laws of the call path and the capacity of the queue. -/
def State.CallsOk (s : State) : Prop := s.calls.Coherent ∧ s.calls.queue.length ≤ 16

theorem State.callsOk_iff {s : State} : s.CallsOk ↔ s.Coherent ∧ s.QueueBounded := by
  rw [State.coherent_iff, State.queueBounded_iff]
  rfl

/-- R36 step 8: a call that no check refuses finds room in the queue. -/
theorem State.queue_room {s : State} {e : Entry} (h : s.callRefusal e = none) : s.queue.length < 16 := by
  unfold State.callRefusal at h
  repeat' split at h
  all_goals first | (cases h; done) | simpa [Config.queueCapacity] using ‹¬ Config.queueCapacity ≤ s.queue.length›

theorem Calls.join_length (C : Calls) (l : Fin 32) (p : Bool) : (C.join l p).queue.length = C.queue.length + 1 := by
  unfold Calls.join
  dsimp only
  split
  · rw [List.length_append, List.length_cons, ← Nat.add_assoc, ← List.length_append, List.takeWhile_append_dropWhile]
  · rw [List.length_append, List.length_singleton]

section Kept
variable {s t : State}

theorem State.CallsOk.congr (hs : s.CallsOk) (h : t.calls = s.calls) : t.CallsOk := by
  unfold State.CallsOk
  rw [h]
  exact hs

/-! ## Lines without a call -/

theorem LineState.quiet_of_inDialogue {x : LineState} (h : x.inDialogue = true) : x.quiet = true := by
  revert h
  cases x <;> simp [LineState.inDialogue, LineState.quiet]

/-- A line that takes no part in a call, written anew with its fields of a call as they were, and no new lookup. -/
theorem State.CallsOk.quietLine (hs : s.CallsOk) {l : Fin 32} (hl : (s.line l).state.quiet = true) {st : LineState} (hst : st.quiet = true)
    {lk : Bool} (hlk : lk = true → st = .checking) (h : t.calls = s.calls.setLine l { s.calls.line l with state := st, lookup := lk }) :
    t.CallsOk := by
  obtain ⟨hchannel, haccount⟩ := hs.1.quiet_line (l := l) hl
  have hline : ({ s.calls.line l with state := st, lookup := lk } : LineCall) = ⟨st, none, none, lk⟩ := LineCall.ext rfl hchannel haccount rfl
  unfold State.CallsOk
  rw [h, hline]
  exact ⟨hs.1.quietLine hl hst hlk, hs.2⟩

theorem endDialogue_callsOk (hs : s.CallsOk) (l : Fin 32) : (endDialogue l s).CallsOk := by
  unfold State.CallsOk
  rw [endDialogue_calls]
  exact ⟨hs.1.lookupDropped l, hs.2⟩

theorem clearLookup_calls (l : Fin 32) (s : State) : (clearLookup l s).calls = s.calls.setLine l { s.calls.line l with lookup := false } :=
  State.calls_updLine ..

theorem clearLookup_callsOk (hs : s.CallsOk) (l : Fin 32) : (clearLookup l s).CallsOk := by
  unfold State.CallsOk
  rw [clearLookup_calls]
  exact ⟨hs.1.lookupDropped l, hs.2⟩

/-- R16: a line refused after its dialogue ended. -/
theorem refuseRequest_callsOk (hs : s.CallsOk) {l : Fin 32} (hlk : (s.calls.line l).lookup = false) : (refuseRequest l s).CallsOk := by
  by_cases h : (s.line l).state.inDialogue = true
  · refine hs.quietLine (LineState.quiet_of_inDialogue h) (st := .draining) rfl (lk := false) nofun ?_
    rw [refuseRequest_calls h, ← hlk]
  · rw [refuseRequest_idle h]
    exact hs

theorem endDialogue_lookup (l : Fin 32) (s : State) : ((endDialogue l s).calls.line l).lookup = false := by
  rw [endDialogue_calls, Calls.setLine_line_same]

theorem refuseCall_callsOk (hs : s.CallsOk) (l : Fin 32) (m : Fin 24) : (refuseCall l m s).CallsOk :=
  refuseRequest_callsOk (endDialogue_callsOk (hs.congr (placeMessage_calls ..)) l) (endDialogue_lookup ..)

theorem abandon_callsOk (hs : s.CallsOk) (l : Fin 32) (m : Option (Fin 24)) : (abandon l m s).CallsOk := by
  have htold : (match m with | some m => placeMessage l m s | none => s).CallsOk := by
    cases m with
    | none => exact hs
    | some m => exact hs.congr (placeMessage_calls ..)
  unfold abandon
  split
  · exact refuseRequest_callsOk (endDialogue_callsOk htold l) (endDialogue_lookup ..)
  · exact hs

theorem enterSignon_callsOk (hs : s.CallsOk) {l : Fin 32} (hl : (s.line l).state.quiet = true) : (enterSignon l s).CallsOk := by
  refine hs.quietLine hl (st := .signon) rfl (lk := false) nofun ?_
  unfold enterSignon beginDialogue
  rw [tryPrompt_calls, placeMessage_calls, State.calls_updLine, State.calls_updLine, Calls.setLine_setLine, State.updLine_line_same]
  rfl

theorem answerDecision_callsOk (hs : s.CallsOk) {l : Fin 32} (hl : (s.line l).state = .ringing) : (answerDecision l s).CallsOk := by
  have hquiet : (s.line l).state.quiet = true := by rw [hl]; rfl
  have hlookup : (s.calls.line l).lookup = false := by
    refine Bool.eq_false_iff.mpr fun h => ?_
    have := hs.1.2.2.2.2.1 l h
    change (s.line l).state = .checking at this
    rw [hl] at this
    cases this
  unfold answerDecision
  split
  · dsimp only
    have hanswering : (s.updLine l fun ln => { ln with
        state := .answering
        timers := { ln.timers with ringGap := none, answer := s.after ((s.groupOf ln).answerTimeout * Config.second) } }).CallsOk := by
      refine hs.quietLine hquiet (st := .answering) rfl (lk := false) nofun ?_
      rw [State.calls_updLine, ← hlookup]
      rfl
    split
    · exact enterSignon_callsOk hanswering (by simp [LineState.quiet])
    · exact hanswering
  · exact hs

/-- A line whose state is quiet and is not CHECKING has no lookup in flight. -/
theorem State.CallsOk.no_lookup (hs : s.CallsOk) {l : Fin 32} (h : (s.line l).state ≠ .checking) : (s.calls.line l).lookup = false :=
  Bool.eq_false_iff.mpr fun hk => h (hs.1.2.2.2.2.1 l hk)

/-- A quiet line that is not CHECKING moves to another quiet state. -/
theorem State.CallsOk.quietMove (hs : s.CallsOk) {l : Fin 32} (hl : (s.line l).state.quiet = true) (hnot : (s.line l).state ≠ .checking)
    {st : LineState} (hst : st.quiet = true) (h : t.calls = s.calls.setLine l { s.calls.line l with state := st }) : t.CallsOk :=
  hs.quietLine hl hst (lk := false) nofun (by rw [h, ← hs.no_lookup hnot])

theorem ring_callsOk (hs : s.CallsOk) (l : Fin 32) : (ring l s).CallsOk := by
  unfold ring
  split
  · next hstate =>
    refine answerDecision_callsOk ?_ (by simp)
    exact hs.quietMove (by rw [hstate]; rfl) (by rw [hstate]; decide) (st := .ringing) rfl (State.calls_updLine ..)
  · next hstate =>
    refine answerDecision_callsOk (hs.congr (State.calls_updLine_same l rfl)) ?_
    simpa using hstate
  all_goals exact hs

theorem carrierUp_callsOk (hs : s.CallsOk) (l : Fin 32) : (carrierUp l s).CallsOk := by
  unfold carrierUp
  split
  · next h => exact enterSignon_callsOk hs (by rw [h]; rfl)
  split
  · exact hs.congr (State.calls_updLine_same l rfl)
  · exact hs

theorem dialogueChar_callsOk (hs : s.CallsOk) {l : Fin 32} (hl : (s.line l).state = .signon) (c : Byte) : (dialogueChar l c s).CallsOk := by
  have hquiet : (s.line l).state.quiet = true := by rw [hl]; rfl
  unfold dialogueChar
  split
  · unfold takeUserChar
    exact hs.congr ((tryPrompt_calls ..).trans (State.calls_updLine_same l (Line.placeAll_dialogue_call _ _ rfl)))
  · unfold takePasswordChar
    split
    · exact hs.quietLine hquiet (st := .checking) rfl (lk := true) (fun _ => rfl) (State.calls_updLine ..)
    · exact hs.congr (State.calls_updLine_same l rfl)
  all_goals exact hs

theorem stopRinging_callsOk (hs : s.CallsOk) {l : Fin 32} {st : LineState} (hst : st = .idle ∨ st = .blocked)
    (h : (s.line l).state = .idle ∨ (s.line l).state = .ringing) : (s.updLine l (stopRinging st)).CallsOk := by
  refine hs.quietMove ?_ ?_ (st := st) ?_ (State.calls_updLine ..)
  · rcases h with h | h <;> rw [h] <;> rfl
  · rcases h with h | h <;> rw [h] <;> decide
  · rcases hst with h | h <;> rw [h] <;> rfl

/-! ## Lookups and admissions -/

theorem countAttempt_calls (l : Fin 32) (s : State) : (countAttempt l s).calls = s.calls := State.calls_updLine_same l rfl

theorem recordFailure_calls (i : Nat) (s : State) : (recordFailure i s).calls = s.calls := rfl

theorem afterRefusedAttempt_callsOk (hs : s.CallsOk) {l : Fin 32} (hlk : (s.calls.line l).lookup = false) : (afterRefusedAttempt l s).CallsOk := by
  unfold afterRefusedAttempt
  split
  · refine State.CallsOk.congr ?_ (tryPrompt_calls ..)
    unfold retryRequest
    have hasked : (s.updLine l fun ln => { ln with dialogue := { ln.dialogue with phase := .userPrompt, user := [], password := [] } }).calls = s.calls :=
      State.calls_updLine_same l rfl
    split
    · next h =>
      have h : (s.line l).state = .checking := by simpa using h
      refine hs.quietLine (by rw [h]; rfl) (st := .signon) rfl (lk := false) nofun ?_
      rw [State.calls_updLine, hasked, ← hlk, State.updLine_line_same]
      rfl
    · exact hs.congr hasked
  · exact refuseRequest_callsOk (endDialogue_callsOk hs l) (endDialogue_lookup ..)

theorem refusePassword_callsOk (hs : s.CallsOk) {l : Fin 32} (hlk : (s.calls.line l).lookup = false) (found : Option Nat) :
    (refusePassword l found s).CallsOk := by
  have hcounted : (countAttempt l (placeMessage l Config.mInvalid s)).calls = s.calls := by rw [countAttempt_calls, placeMessage_calls]
  unfold refusePassword
  dsimp only
  have hresult : (match found with
      | some i => recordFailure i (countAttempt l (placeMessage l Config.mInvalid s))
      | none => countAttempt l (placeMessage l Config.mInvalid s)).calls = s.calls := by
    cases found with
    | none => exact hcounted
    | some i => exact (recordFailure_calls ..).trans hcounted
  exact afterRefusedAttempt_callsOk (hs.congr hresult) (by rw [hresult, hlk])

theorem refuseLocked_callsOk (hs : s.CallsOk) {l : Fin 32} (hlk : (s.calls.line l).lookup = false) : (refuseLocked l s).CallsOk := by
  have hcounted : (countAttempt l (placeMessage l Config.mLocked s)).calls = s.calls := by rw [countAttempt_calls, placeMessage_calls]
  exact afterRefusedAttempt_callsOk (hs.congr hcounted) (by rw [hcounted, hlk])

theorem joinQueue_calls (l : Fin 32) (p : Bool) (s : State) : (joinQueue l p s).calls = s.calls.join l p := by
  unfold joinQueue
  dsimp only
  rw [notify_calls]
  split
  · next hp =>
    refine Calls.ext rfl rfl rfl rfl ?_ rfl
    simp [State.calls, Calls.join, hp, Waiter.call, List.takeWhile_map, List.dropWhile_map, Function.comp_def]
  · next hp =>
    refine Calls.ext rfl rfl rfl rfl ?_ rfl
    simp [State.calls, Calls.join, hp, Waiter.call]

/-- R46: the admission of a line in CHECKING. -/
theorem admitCaller_calls {l : Fin 32} (hl : (s.line l).state = .checking) (hchannel : (s.line l).channel = none) (i : Nat) (e : Entry) :
    (admitCaller l i e s).calls = ((s.calls.setLine l ⟨.waiting, none, some e.account, false⟩).setOpen e.account
      (s.calls.openCount e.account + 1)).join l s.cal.classes[e.cls].priority := by
  unfold admitCaller
  dsimp only
  rw [joinQueue_calls]
  congr 1
  generalize hu : ((resetFailures i s).updLine l fun ln =>
    { ln with admission := some ⟨(s.line l).dialogue.code, e.account, e.cls, s.cal.classes[e.cls].priority⟩ }).updAccount e.account
      (fun a => { a with openCount := a.openCount + 1 }) = u
  have hadmitted : u.calls = (s.calls.setLine l ⟨.checking, none, some e.account, (s.calls.line l).lookup⟩).setOpen e.account
      (s.calls.openCount e.account + 1) := by
    rw [← hu, State.calls_updAccount, State.calls_updLine]
    refine congrArg (fun x => Calls.setOpen (Calls.setLine s.calls l x) _ _) ?_
    exact LineCall.ext hl hchannel rfl rfl
  have hstate : ((endDialogue l u).line l).state = .checking := by
    have hline : (endDialogue l u).calls.line l = ⟨.checking, none, some e.account, false⟩ := by
      rw [endDialogue_calls, Calls.setLine_line_same, hadmitted, Calls.setOpen_line, Calls.setLine_line_same]
    exact congrArg LineCall.state hline
  unfold admitRequest
  rw [if_pos hstate]
  have hwaiting : ({ (endDialogue l u).line l with state := .waiting, timers := { ((endDialogue l u).line l).timers with signOn := none } } : Line).call =
      { (endDialogue l u).calls.line l with state := .waiting } := rfl
  rw [State.calls_updLine, hwaiting, endDialogue_calls, Calls.setLine_line_same, Calls.setLine_setLine, hadmitted, Calls.setOpen_line,
    Calls.setLine_line_same, Calls.setOpen_setLine, Calls.setLine_setLine]

theorem decideLookup_callsOk (hs : s.CallsOk) {l : Fin 32} (hl : (s.line l).state = .checking) (hlk : (s.calls.line l).lookup = false)
    (found : Option (Nat × Entry)) : (decideLookup l found s).CallsOk := by
  unfold decideLookup
  split
  · exact refuseCall_callsOk hs l _
  split
  · exact refusePassword_callsOk hs hlk none
  next i e =>
  split
  · exact refusePassword_callsOk hs hlk (some i)
  split
  · exact refuseLocked_callsOk hs hlk
  split
  · exact refuseCall_callsOk hs l _
  · next hrefusal =>
    obtain ⟨hchannel, -⟩ := hs.1.quiet_line (l := l) (by change (s.line l).state.quiet = true; rw [hl]; rfl)
    unfold State.CallsOk
    rw [admitCaller_calls hl hchannel]
    refine ⟨hs.1.admittedLine hl e.account _, ?_⟩
    have hroom : s.queue.length < 16 := State.queue_room hrefusal
    rw [Calls.join_length]
    simpa [State.calls, Calls.setLine, Calls.setOpen] using hroom

/-! ## Waiters and grants -/

theorem State.CallsOk.waiter_line (hs : s.CallsOk) {l : Fin 32} (hw : (s.waiter l).isSome = true) :
    ∃ a, s.calls.line l = ⟨.waiting, none, some a, false⟩ :=
  hs.1.waiting_line ((hs.1.2.2.2.1.2.1 l).mp (State.waiter_isSome_iff.mp hw))

theorem Calls.leave_length (C : Calls) (l : Fin 32) : (C.leave l).queue.length ≤ C.queue.length := List.length_filter_le _ _

theorem removeWaiter_idle {l : Fin 32} (h : s.waiter l = none) (m : Option (Fin 24)) (drains : Bool) : removeWaiter l m drains s = s := by
  unfold removeWaiter
  rw [h]

theorem removeWaiter_callsOk (hs : s.CallsOk) (l : Fin 32) (m : Option (Fin 24)) : (removeWaiter l m true s).CallsOk := by
  cases hw : s.waiter l with
  | none => rw [removeWaiter_idle hw]; exact hs
  | some w =>
    have hw : (s.waiter l).isSome = true := by rw [hw]; rfl
    obtain ⟨a, hl⟩ := hs.waiter_line hw
    unfold State.CallsOk
    rw [removeWaiter_calls hl hw]
    exact ⟨hs.1.waiterLeft hl rfl, (Calls.leave_length _ l).trans hs.2⟩

theorem grantTo_callsOk (hs : s.CallsOk) {w : Waiter} {c : Fin 24} {r : Fin 64} {a : Admission} (h : s.grantable = some (w, c, r))
    (ha : (s.line w.line).admission = some a) : (grantTo w.line a c r s).CallsOk := by
  obtain ⟨hqueue, husable, hrow⟩ := State.grantable_some h
  have hwaiting : (s.calls.line w.line).state = .waiting := by
    refine (hs.1.2.2.2.1.2.1 w.line).mp ?_
    obtain ⟨rest, hrest⟩ := hqueue
    simp [State.calls, Waiter.call, hrest]
  obtain ⟨b, hl⟩ := hs.1.waiting_line hwaiting
  have hb : b = a.account := by
    have haccount : (s.line w.line).admission.map (·.account) = some b := congrArg LineCall.account hl
    rw [ha] at haccount
    exact (Option.some.inj haccount).symm
  subst hb
  have hfree : (s.calls.channel c).state = .free := by
    simp only [State.usable, Bool.and_eq_true, decide_eq_true_eq] at husable
    exact husable.1.1
  have hnone : s.calls.row r = none := by
    have hcall : s.calls.row r = (s.row r).call := rfl
    rw [hcall]
    rw [hrow]
    rfl
  unfold State.CallsOk
  rw [grantTo_calls c r hl]
  exact ⟨hs.1.grantedTo hl hfree hnone true, (Calls.leave_length _ _).trans hs.2⟩

theorem updWaiter_calls (l : Fin 32) (t : Timer) (s : State) : (updWaiter l (fun w => { w with notice := t }) s).calls = s.calls := by
  refine Calls.ext rfl rfl rfl rfl ?_ rfl
  simp only [State.calls, updWaiter, List.map_map]
  refine List.map_congr_left fun w _ => ?_
  simp only [Function.comp_apply]
  split <;> rfl

/-! ## Channels without a call -/

theorem State.CallsOk.idleChannel (hs : s.CallsOk) {c : Fin 24} (hoff : (s.channel c).state ≠ .offered) (hconn : (s.channel c).state ≠ .connected)
    {f : Channel → Channel} (hf : Calls.ChannelIdle (f (s.channel c)).call) : (s.updChannel c f).CallsOk := by
  unfold State.CallsOk
  rw [State.calls_updChannel]
  exact ⟨hs.1.idleChannel hoff hconn hf, hs.2⟩

theorem State.calls_updChannel_same (s : State) (c : Fin 24) {f : Channel → Channel} (h : ∀ x, (f x).call = x.call := by exact fun _ => rfl) :
    (s.updChannel c f).calls = s.calls := by
  rw [State.calls_updChannel, h]
  exact s.calls.setChannel_self c

/-- What is left of the row, the line and the channel of a call keeps the queue. -/
theorem Calls.setAll_queue (C : Calls) (r : Fin 64) (c : Fin 24) (x : ChannelCall) (l : Fin 32) (y : LineCall) (a : Fin 256) (n : Nat) :
    (((((C.setRow r none).setMeter c none).setChannel c x).setLine l y).setOpen a n).queue = C.queue := rfl

/-! ## Offers -/

/-- R135 to R137: an offer ended and its channel moved on. -/
theorem endOffer_callsOk (hs : s.CallsOk) {c : Fin 24} (hc : (s.channel c).state = .offered) (m : Option (Fin 24)) {x : ChannelCall}
    (hx : Calls.ChannelIdle x) (h : t.calls = (endOffer c m true s).calls.setChannel c x) : t.CallsOk := by
  obtain ⟨hmeter, l, a, r, hcl, hcr, hr, hl⟩ := hs.1.offer hc
  have hended := hs.1.callEnded hl hr (st := .draining) rfl hx
  unfold State.CallsOk
  rw [h, endOffer_calls hcl hcr hr hl]
  have hsame : s.calls.setMeter c none = s.calls := by rw [← hmeter]; exact Calls.setMeter_self ..
  have hform : (((s.calls.setRow r none).setLine l ⟨.draining, none, none, false⟩).setOpen a (s.calls.openCount a - 1)).setChannel c x =
      (((((s.calls.setMeter c none).setRow r none).setChannel c x).setLine l ⟨.draining, none, none, false⟩).setOpen a (s.calls.openCount a - 1)) := by
    rw [hsame]
    rfl
  exact ⟨hform ▸ hended, hs.2⟩

theorem rejectOffer_callsOk (hs : s.CallsOk) {c : Fin 24} (hc : (s.channel c).state = .offered) (a : Byte) : (rejectOffer c a s).CallsOk := by
  have hnoted : (s.updChannel c fun x => { x with lastReject := a }).CallsOk := hs.congr (State.calls_updChannel_same s c)
  refine endOffer_callsOk hnoted (c := c) (by simpa using hc) (some Config.mHostRefused) (x := ⟨.free, none, none, false⟩)
    ⟨rfl, .inr (.inr ⟨rfl, rfl, rfl⟩)⟩ ?_
  unfold rejectOffer freeChannel
  exact State.calls_updChannel ..

theorem abandonOffer_calls (c : Fin 24) (why : CloseReason) (m : Option (Fin 24)) (drains : Bool) (s : State) :
    (abandonOffer c why m drains s).calls = (endOffer c m drains s).calls.setChannel c ⟨.closing, (s.channel c).line, none, true⟩ := by
  unfold abandonOffer
  rw [handControl_calls, State.calls_updChannel]
  simp [Channel.call, State.after]

theorem abandonOffer_callsOk (hs : s.CallsOk) {c : Fin 24} (hc : (s.channel c).state = .offered) (why : CloseReason) (m : Option (Fin 24)) :
    (abandonOffer c why m true s).CallsOk :=
  endOffer_callsOk hs hc m ⟨rfl, .inl rfl⟩ (abandonOffer_calls c why m true s)

theorem offerExpired_callsOk (hs : s.CallsOk) {c : Fin 24} (hc : (s.channel c).state = .offered) :
    (dropOpen c ((endOffer c (some Config.mHostRefused) true s).updChannel c fun x =>
      { x with state := .quarantined, row := none, timer := none })).CallsOk := by
  refine endOffer_callsOk hs hc (some Config.mHostRefused) (x := ⟨.quarantined, (s.channel c).line, none, false⟩)
    ⟨rfl, .inr (.inl ⟨rfl, rfl⟩)⟩ ?_
  rw [dropOpen_calls, State.calls_updChannel]
  simp [Channel.call]

/-! ## Sessions -/

/-- What a close request for a running session leaves: its channel has no call, and the other channels stand as they were. -/
theorem closeSession_callsOk (hs : s.CallsOk) (c : Fin 24) {why : CloseReason} (h : why ≠ .carrierLost) : (closeSession c why s).CallsOk := by
  by_cases hm : s.calls.meter c = none
  · have hidle : closeSession c why s = s := by
      unfold closeSession
      rw [State.meter_none_iff.mpr hm]
    rw [hidle]
    exact hs
  · obtain ⟨l, a, r, -, hmeter, hr, hl⟩ := hs.1.session (hs.1.connected_of_meter hm)
    obtain ⟨x, hx, hclosed⟩ := closeSession_calls hmeter hr hl why
    unfold State.CallsOk
    rw [hclosed, closedState, if_neg h]
    exact ⟨hs.1.callEnded hl hr rfl hx, hs.2⟩

theorem closeRequest_callsOk (hs : s.CallsOk) (c : Fin 24) (l : Fin 32) {why : CloseReason} (h : why ≠ .carrierLost) : (closeRequest c l why s).CallsOk := by
  unfold closeRequest
  split
  · split
    exacts [closeSession_callsOk hs c h, hs]
  · exact hs

theorem becomeExhausted_callsOk (hs : s.CallsOk) (c : Fin 24) (m : Meter) : (becomeExhausted c m s).CallsOk := by
  have htold : (notify m.line Config.mExhausted (s.cal.classes[m.cls].grace) (s.updMeter c fun m => { m with exhausted := true })).CallsOk :=
    hs.congr ((notify_calls ..).trans (State.calls_updMeter_same c))
  unfold becomeExhausted
  dsimp only
  split
  · exact closeSession_callsOk htold c (by decide)
  · exact htold.congr (State.calls_updMeter_same c)

theorem chargeSession_callsOk (hs : s.CallsOk) (c : Fin 24) (n : Nat) : (chargeSession c n s).CallsOk := by
  have hcharged : (chargeUnits c n s).1.CallsOk := hs.congr (chargeUnits_calls ..)
  unfold chargeSession
  dsimp only
  split
  · split
    exacts [becomeExhausted_callsOk hcharged c _, hcharged]
  · exact hcharged

theorem startExpel_calls (c : Fin 24) (m : Meter) (s : State) : (startExpel c m s).calls = s.calls := by
  unfold startExpel
  exact (State.calls_updMeter_same c).trans (notify_calls ..)

theorem checkLimits_callsOk (hs : s.CallsOk) (c : Fin 24) : (checkLimits c s).CallsOk := by
  unfold checkLimits
  split
  · exact hs
  next m hm =>
  dsimp only
  generalize hu : (if Config.timeWarning < m.maximum ∧ m.elapsed = m.maximum - Config.timeWarning then
    (notify m.line Config.mTime 5 s).updMeter c fun m => { m with timeWarned := true } else s) = u
  have hwarned : u.CallsOk := by
    rw [← hu]
    split
    exacts [hs.congr ((State.calls_updMeter_same c).trans (notify_calls ..)), hs]
  split
  exacts [closeSession_callsOk hwarned c (by decide), hwarned]

theorem State.CallsOk.setMeter (hs : s.CallsOk) {c : Fin 24} {m x : Meter} (hm : s.meter c = some m) (h : x.call = m.call) :
    (s.setMeter c (some x)).CallsOk := hs.congr (State.calls_setMeter_same hm h)

theorem meterBoundary_callsOk (hs : s.CallsOk) (p q : Fin 8) (c : Fin 24) : (meterBoundary p q c s).CallsOk := by
  unfold meterBoundary
  split
  · exact hs
  next m hm =>
  dsimp only
  have hcharged : ∀ n a, (chargeSession c n (s.setMeter c (some { m with
      accumulator := a, elapsed := m.elapsed + 1, segments := onLast (fun g => { g with seconds := g.seconds + 1 }) m.segments }))).CallsOk :=
    fun n a => by
      refine chargeSession_callsOk (hs.setMeter hm ?_) c n
      rfl
  split
  · exact hcharged _ _
  · next x hx =>
    refine checkLimits_callsOk ((hcharged _ _).setMeter hx ?_) c
    rfl

theorem meterPermit_calls (k : Fin 8) (x : Permit) (c : Fin 24) (s : State) : (meterPermit k x c s).calls = s.calls := by
  unfold meterPermit
  split
  · rfl
  next m hm =>
  split
  · cases x with
    | expel =>
      dsimp only
      split
      exacts [startExpel_calls .., rfl]
    | opened => exact State.calls_setMeter_same hm rfl
    | closed => exact State.calls_setMeter_same hm rfl
  · rfl

/-- R134: the channel, the row, the meter and the line of an accepted offer. -/
theorem acceptOffer_callsOk (hs : s.CallsOk) {c : Fin 24} (hc : (s.channel c).state = .offered) : (acceptOffer c s).CallsOk := by
  obtain ⟨-, l, b, r, hcl, hcr, hr, hl⟩ := hs.1.offer hc
  have hcl : (s.channel c).line = some l := hcl
  have hcr : (s.channel c).row = some r := hcr
  have haccount : (s.line l).admission.map (·.account) = some b := congrArg LineCall.account hl
  obtain ⟨a, ha, rfl⟩ := Option.map_eq_some_iff.mp haccount
  unfold acceptOffer
  rw [hcl, hcr]
  dsimp only
  rw [ha]
  dsimp only
  generalize hu : connectRequest l (setAnnounced c .go (s.updChannel c fun x => { x with state := .connected, hostFlow := .go, timer := none })) = u
  have hconnected : u.calls = (s.calls.setChannel c ⟨.connected, some l, some r, false⟩).setLine l ⟨.connected, some c, some a.account, false⟩ := by
    have hchannel : (setAnnounced c .go (s.updChannel c fun x => { x with state := .connected, hostFlow := .go, timer := none })).calls =
        s.calls.setChannel c ⟨.connected, some l, some r, false⟩ := by
      rw [setAnnounced_calls, State.calls_updChannel]
      simp [Channel.call, hcl, hcr]
    have hline : (s.calls.setChannel c ⟨.connected, some l, some r, false⟩).line l = ⟨.offered, some c, some a.account, false⟩ := hl
    rw [← hu, connectRequest_calls (by rw [hchannel, hline]), hchannel, hline]
  have hstarted : (stampRow r c (u.setMeter c (some (newMeter u l a r)))).CallsOk := by
    have hmeter : (some (newMeter u l a r)).map Meter.call = some ⟨l, a.account, r⟩ := rfl
    have hrow : (u.setMeter c (some (newMeter u l a r))).calls.row r = some ⟨c, l, false⟩ := by
      rw [State.calls_setMeter, hconnected]
      exact hr
    unfold State.CallsOk
    rw [stampRow_calls hrow, State.calls_setMeter, hmeter, hconnected]
    exact ⟨hs.1.callConnected hl hr, hs.2⟩
  unfold startMeter
  dsimp only
  have hcharged := chargeSession_callsOk hstarted c
  split
  · exact hcharged _
  · split
    · exact (hcharged _).congr ((startExpel_calls ..).trans (notify_calls ..))
    · exact (hcharged _).congr (notify_calls ..)

/-! ## Carrier loss -/

theorem toClearing_ended {D : Calls} {l : Fin 32} {st : LineState} {a : Fin 256} {n : Nat}
    (h : s.calls = (D.setLine l ⟨st, none, none, false⟩).setOpen a n) :
    (toClearing l s).calls = (D.setLine l ⟨.clearing, none, none, false⟩).setOpen a n := by
  rw [toClearing_calls, h, Calls.setOpen_line, Calls.setLine_line_same, Calls.setOpen_setLine, Calls.setLine_setLine]

theorem loseCarrier_waiting (hs : s.CallsOk) {l : Fin 32} (hl : (s.line l).state = .waiting) : (toClearing l (removeWaiter l none false s)).CallsOk := by
  have hw : (s.waiter l).isSome = true := State.waiter_isSome_iff.mpr ((hs.1.2.2.2.1.2.1 l).mpr hl)
  obtain ⟨a, hline⟩ := hs.waiter_line hw
  unfold State.CallsOk
  rw [toClearing_ended (removeWaiter_calls hline hw none false)]
  exact ⟨hs.1.waiterLeft hline rfl, (Calls.leave_length _ l).trans hs.2⟩

theorem loseCarrier_offered (hs : s.CallsOk) {l : Fin 32} {c : Fin 24} (hlc : (s.line l).channel = some c) (hl : (s.line l).state = .offered) :
    (toClearing l (abandonOffer c .carrierLost none false s)).CallsOk := by
  obtain ⟨hcl, ⟨hc, -⟩ | ⟨-, hl'⟩⟩ := hs.1.line_of_channel (l := l) (c := c) hlc
  · obtain ⟨hmeter, k, a, r, hck, hcr, hr, hline⟩ := hs.1.offer hc
    obtain rfl : k = l := Option.some.inj (hck.symm.trans hcl)
    have hsame : s.calls.setMeter c none = s.calls := by rw [← hmeter]; exact Calls.setMeter_self ..
    have hended : (abandonOffer c .carrierLost none false s).calls =
        ((((s.calls.setRow r none).setMeter c none).setChannel c ⟨.closing, (s.channel c).line, none, true⟩).setLine k
          ⟨.offered, none, none, false⟩).setOpen a (s.calls.openCount a - 1) := by
      rw [abandonOffer_calls, endOffer_calls hck hcr hr hline]
      conv_lhs => rw [← hsame]
      rfl
    unfold State.CallsOk
    rw [toClearing_ended hended]
    exact ⟨hs.1.callEnded hline hr rfl ⟨rfl, .inl rfl⟩, hs.2⟩
  · exact absurd (hl'.symm.trans hl) (by decide)

theorem loseCarrier_connected (hs : s.CallsOk) {l : Fin 32} {c : Fin 24} (hlc : (s.line l).channel = some c) (hl : (s.line l).state = .connected) :
    (toClearing l (closeRequest c l .carrierLost s)).CallsOk := by
  obtain ⟨hcl, ⟨-, hl'⟩ | ⟨hc, -⟩⟩ := hs.1.line_of_channel (l := l) (c := c) hlc
  · exact absurd (hl'.symm.trans hl) (by decide)
  · obtain ⟨k, a, r, hchannel, hmeter, hr, hline⟩ := hs.1.session hc
    obtain rfl : k = l := by
      rw [hchannel] at hcl
      exact Option.some.inj hcl
    obtain ⟨x, hx, hclosed⟩ := closeSession_calls hmeter hr hline .carrierLost
    obtain ⟨m, hm, hcall⟩ := Option.map_eq_some_iff.mp hmeter
    have hrequest : closeRequest c k .carrierLost s = closeSession c .carrierLost s := by
      unfold closeRequest
      rw [hm]
      exact if_pos (congrArg MeterCall.line hcall)
    unfold State.CallsOk
    rw [hrequest, toClearing_ended hclosed]
    exact ⟨hs.1.callEnded hline hr rfl hx, hs.2⟩

theorem loseCarrier_callsOk (hs : s.CallsOk) (l : Fin 32) : (loseCarrier l s).CallsOk := by
  have hdialogue : (s.line l).state.quiet = true → (drainEnd (toClearing l (endDialogue l s))).CallsOk := fun h => by
    refine hs.quietLine h (st := .clearing) rfl (lk := false) nofun ?_
    rw [drainEnd_calls, toClearing_calls, endDialogue_calls, Calls.setLine_line_same, Calls.setLine_setLine]
  have hnamed : (s.line l).state = .offered ∨ (s.line l).state = .connected → (s.line l).channel ≠ none := fun h hnone => by
    have hok := hs.1.2.1 l
    unfold Calls.LineOk at hok
    rcases h with h | h
    all_goals
      rw [show (s.calls.line l).state = _ from h] at hok
      obtain ⟨c, hc, -⟩ := hok
      rw [show (s.calls.line l).channel = _ from hnone] at hc
      cases hc
  unfold loseCarrier
  split
  · next h => exact hdialogue (by rw [h]; rfl)
  · next h => exact hdialogue (by rw [h]; rfl)
  · next h => exact loseCarrier_waiting hs h
  · next h =>
    split
    · next c hc => exact loseCarrier_offered hs hc h
    · next hnone => exact absurd hnone (hnamed (.inl h))
  · next h =>
    split
    · next c hc => exact loseCarrier_connected hs hc h
    · next hnone => exact absurd hnone (hnamed (.inr h))
  · next h => exact hs.quietMove (by rw [h]; rfl) (by rw [h]; decide) (st := .clearing) rfl (toClearing_calls l s)
  all_goals exact hs

/-! ## Teardown -/

theorem loseChannel_callsOk (hs : s.CallsOk) (c : Fin 24) : (loseChannel c s).CallsOk := by
  have hfree : Calls.ChannelIdle ⟨.free, none, none, false⟩ := ⟨rfl, .inr (.inr ⟨rfl, rfl, rfl⟩)⟩
  unfold loseChannel
  split
  · next h => exact endOffer_callsOk hs h _ hfree (State.calls_updChannel ..)
  · split
    exacts [closeRequest_callsOk (hs.congr (notify_calls ..)) c _ (by decide), hs]
  · next h => exact hs.idleChannel (by rw [h]; decide) (by rw [h]; decide) hfree
  · next h => exact hs.idleChannel (by rw [h]; decide) (by rw [h]; decide) hfree
  · exact hs

theorem serviceCloseChannel_callsOk (hs : s.CallsOk) (c : Fin 24) {why : CloseReason} (h : why ≠ .carrierLost) : (serviceCloseChannel why c s).CallsOk := by
  unfold serviceCloseChannel
  split
  · next hc => exact abandonOffer_callsOk hs hc why _
  · split
    exacts [closeRequest_callsOk (hs.congr (notify_calls ..)) c _ h, hs]
  all_goals exact hs

/-- A channel without a call. -/
def State.Uncalled (s : State) (c : Fin 24) : Prop := (s.channel c).state ≠ .offered ∧ (s.channel c).state ≠ .connected

theorem State.uncalled_of_idle {c : Fin 24} (h : Calls.ChannelIdle (s.calls.channel c)) : s.Uncalled c := by
  obtain ⟨-, h | ⟨h, -⟩ | ⟨h, -⟩⟩ := h
  all_goals
    have h : (s.channel c).state = _ := h
    unfold State.Uncalled
    rw [h]
    decide

/-- R192: once taken, a channel has no call, and the others stand as they were. -/
theorem serviceCloseChannel_uncalled (hs : s.CallsOk) (c : Fin 24) {why : CloseReason} : (serviceCloseChannel why c s).Uncalled c ∧
    ∀ d, d ≠ c → (serviceCloseChannel why c s).calls.channel d = s.calls.channel d := by
  unfold serviceCloseChannel
  split
  · next hc =>
    obtain ⟨-, l, a, r, hcl, hcr, hr, hl⟩ := hs.1.offer hc
    have hcalls := abandonOffer_calls c why (some Config.mClosing) true s
    rw [endOffer_calls hcl hcr hr hl] at hcalls
    refine ⟨State.uncalled_of_idle ?_, fun d hd => ?_⟩
    · rw [hcalls, show (Calls.setChannel _ c _).channel c = _ from Function.update_self ..]
      exact ⟨rfl, .inl rfl⟩
    · rw [hcalls]
      exact Function.update_of_ne hd ..
  · next hc =>
    obtain ⟨l, a, r, hchannel, hmeter, hr, hl⟩ := hs.1.session hc
    have hcl : (s.channel c).line = some l := congrArg ChannelCall.line hchannel
    have htold : (notify l Config.mClosing 0 s).calls = s.calls := notify_calls ..
    obtain ⟨x, hx, hclosed⟩ := closeSession_calls (s := notify l Config.mClosing 0 s) (by rw [htold]; exact hmeter) (by rw [htold]; exact hr)
      (by rw [htold]; exact hl) why
    obtain ⟨m, hm, hcall⟩ := Option.map_eq_some_iff.mp hmeter
    have hrequest : closeRequest c l why (notify l Config.mClosing 0 s) = closeSession c why (notify l Config.mClosing 0 s) := by
      unfold closeRequest
      rw [show (notify l Config.mClosing 0 s).meter c = some m from hm]
      exact if_pos (congrArg MeterCall.line hcall)
    rw [hcl]
    dsimp only
    rw [hrequest]
    refine ⟨State.uncalled_of_idle ?_, fun d hd => ?_⟩
    · rw [hclosed, show (Calls.setOpen (Calls.setLine (Calls.setChannel _ c _) _ _) _ _).channel c = _ from Function.update_self ..]
      exact hx
    · rw [hclosed, htold]
      exact Function.update_of_ne hd ..
  · next hc => exact ⟨by unfold State.Uncalled; rw [hc]; decide, fun _ _ => rfl⟩
  · next hc => exact ⟨by unfold State.Uncalled; rw [hc]; decide, fun _ _ => rfl⟩
  · next hc => exact ⟨by unfold State.Uncalled; rw [hc]; decide, fun _ _ => rfl⟩

theorem foldl_serviceClose (why : CloseReason) (hwhy : why ≠ .carrierLost) (cs : List (Fin 24)) : ∀ s : State, s.CallsOk →
    (cs.foldl (fun s c => serviceCloseChannel why c s) s).CallsOk ∧
      ∀ c, c ∈ cs ∨ s.Uncalled c → (cs.foldl (fun s c => serviceCloseChannel why c s) s).Uncalled c := by
  induction cs with
  | nil => exact fun s hs => ⟨hs, fun c h => h.resolve_left List.not_mem_nil⟩
  | cons d cs ih =>
    intro s hs
    obtain ⟨hd, hothers⟩ := serviceCloseChannel_uncalled hs d (why := why)
    obtain ⟨hok, hall⟩ := ih _ (serviceCloseChannel_callsOk hs d hwhy)
    refine ⟨hok, fun c hc => hall c ?_⟩
    by_cases hcd : c = d
    · exact .inr (hcd ▸ hd)
    · rcases hc with hc | hc
      · exact .inl ((List.mem_cons.mp hc).resolve_left hcd)
      · have hstate : ((serviceCloseChannel why d s).channel c).state = (s.channel c).state := congrArg ChannelCall.state (hothers c hcd)
        exact .inr (by unfold State.Uncalled; rw [hstate]; exact hc)

/-- R146: every channel, without a call, becomes FREE. -/
theorem freeAllChannels_callsOk (hs : s.CallsOk) (h : ∀ c, s.Uncalled c) : (freeAllChannels s).CallsOk := by
  refine (foldl_invariant (fun t : State => t.CallsOk ∧ ∀ c, t.Uncalled c) _ (fun t c ⟨ht, hall⟩ => ⟨?_, fun d => ?_⟩) allChannels s ⟨hs, h⟩).1
  · exact ht.idleChannel (hall c).1 (hall c).2 ⟨rfl, .inr (.inr ⟨rfl, rfl, rfl⟩)⟩
  · unfold State.Uncalled freeChannel
    rw [State.updChannel_channel]
    split
    · exact ⟨nofun, nofun⟩
    · exact hall d

theorem callsRestarted_callsOk (hs : s.CallsOk) : (freeAllChannels (serviceCloseAll .restart s)).CallsOk := by
  obtain ⟨hok, hall⟩ := foldl_serviceClose .restart (by decide) allChannels s hs
  exact freeAllChannels_callsOk hok fun c => hall c (.inl (List.mem_finRange c))

/-! ## Power-on and the tickets -/

theorem releaseRow_callsOk (hs : s.CallsOk) {r : Fin 64} (h : (s.row r).serial.isSome = true) : (releaseRow r s).CallsOk := by
  refine hs.congr ?_
  have hnone : s.calls.row r = none := by
    change (s.row r).call = none
    cases hrow : s.row r with
    | free => rfl
    | closed t => rfl
    | reserved x => rw [hrow] at h; cases h
  have hcalls : (releaseRow r s).calls = s.calls.setRow r none := State.calls_setRow s r .free
  rw [hcalls, ← hnone]
  exact Calls.setRow_self ..

/-- The view after power-on: nothing calls, nothing waits. -/
theorem Calls.Coherent.empty {C : Calls} (hline : ∀ l, C.line l = ⟨.idle, none, none, false⟩) (hchannel : ∀ c, C.channel c = ⟨.free, none, none, false⟩)
    (hmeter : ∀ c, C.meter c = none) (hrow : ∀ r, C.row r = none) (hqueue : C.queue = []) (hopen : ∀ a, C.openCount a = 0) : C.Coherent := by
  refine ⟨fun c => ?_, fun l => ?_, fun r x hx => ?_, ⟨?_, fun l => ?_, ?_⟩, fun l hl => ?_, fun a => ?_⟩
  · exact Calls.ChannelOk.of_idle (by rw [hchannel]; exact ⟨rfl, .inr (.inr ⟨rfl, rfl, rfl⟩)⟩) (hmeter c)
  · exact Calls.LineOk.of_quiet (by rw [hline]; rfl) (by rw [hline]) (by rw [hline])
  · rw [hrow] at hx
    cases hx
  · rw [hqueue]
    exact List.nodup_nil
  · rw [hqueue, hline]
    exact iff_of_false List.not_mem_nil (by decide)
  · rw [hqueue]
    exact List.Pairwise.nil
  · rw [hline] at hl
    cases hl
  · rw [hopen]
    simp [Calls.admitted, hline]

theorem powerOn_callsOk (w : Byte) (s : State) : (powerOnValues w s).CallsOk := by
  refine ⟨Calls.Coherent.empty (fun l => ?_) (fun c => ?_) (fun c => ?_) (fun r => ?_) rfl (fun a => ?_), Nat.zero_le _⟩
  · change ((powerOnValues w s).line l).call = _
    rw [powerOnValues_line]
    rfl
  · simp [State.calls, State.channel, powerOnValues, State.reset, Channel.call, Channel.powerOn]
  · simp [State.calls, State.meter, powerOnValues, State.reset]
  · change ((powerOnValues w s).row r).call = _
    rw [powerOnValues_row]
    rfl
  · change ((powerOnValues w s).account a).openCount = 0
    rw [powerOnValues_account]
    rfl

/-! ## Effects -/

/-- A change of every meter that the laws do not see. -/
theorem State.calls_meters (s : State) {f : Meter → Meter} (h : ∀ m, (f m).call = m.call) :
    State.calls { s with meters := Vector.ofFn fun c => (s.meter c).map f } = s.calls := by
  refine State.calls_congr (fun l => by simp only [State.line]) (fun c => by simp only [State.channel]) (fun c => ?_)
    (fun r => by simp only [State.row]) rfl fun a => by simp only [State.account]
  simp only [State.meter_ofFn, Option.map_map, Function.comp_def, h]

theorem restoreAccount_calls (a : Fin 256) (s : State) : (restoreAccount a s).calls = s.calls :=
  s.calls_meters fun m => by split <;> rfl

theorem restoreIfAbove_calls (a : Fin 256) (s : State) : (restoreIfAbove a s).calls = s.calls := by
  unfold restoreIfAbove
  split
  exacts [restoreAccount_calls a s, rfl]

theorem Account.rearm_openCount (x : Account) : x.rearm.openCount = x.openCount := by
  unfold Account.rearm
  split <;> rfl

/-- A change of one account that leaves its open count. -/
theorem State.calls_updAccount_same (s : State) (a : Fin 256) {f : Account → Account} (h : (f (s.account a)).openCount = (s.account a).openCount) :
    (s.updAccount a f).calls = s.calls := by
  rw [State.calls_updAccount, h]
  exact s.calls.setOpen_self a

theorem restartLines_calls (s : State) : (restartLines s).calls = s.calls := by
  refine State.calls_congr (fun l => ?_) (by simp) (by simp) (by simp) (by simp) (by simp)
  unfold restartLines
  rw [State.line_ofFn]
  rfl

theorem takeData_calls (c : Fin 24) (cs : List Byte) (s : State) : (takeData c cs s).calls = s.calls := by
  unfold takeData
  split
  · split
    · next l _ =>
      have hplaced : (s.updLine l fun ln => ln.placeAll cs).calls = s.calls := State.calls_updLine_same l (Line.placeAll_call ..)
      unfold flowStop
      split
      exacts [hplaced, hplaced]
    · rfl
  all_goals rfl

theorem giveSegment_calls (r : State × List Byte) (c : Fin 24) : (giveSegment r c).1.calls = r.1.calls := by
  unfold giveSegment
  split
  · rfl
  · split
    · next l _ _ =>
      dsimp only
      rw [State.calls_updTrunk]
      exact State.calls_updLine_same l (f := fun ln => { ln with rx := ln.rx.drop _ }) rfl
    · rfl

theorem sendBlock_calls (s : State) : (sendBlock s).calls = s.calls := by
  unfold sendBlock
  rw [State.calls_updTrunk]
  exact foldl_invariant (fun r : State × List Byte => r.1.calls = s.calls) giveSegment (fun r c h => (giveSegment_calls r c).trans h)
    (turn s.trunk.pointer) _ rfl

theorem sendService_calls (s : State) : (sendService s).calls = s.calls := by
  unfold sendService
  rw [State.calls_updTrunk, State.calls_updMgt]

theorem Line.endCall_quiet (ln : Line) : ln.endCall.state.quiet = true := by
  unfold Line.endCall
  dsimp only
  split <;> rfl

theorem carrierDown_calls (l : Fin 32) (s : State) : (carrierDown l s).calls = s.calls := by
  unfold carrierDown
  split
  exacts [State.calls_updLine_same l rfl, rfl]

theorem activity_calls (l : Fin 32) (k : Nat) (s : State) : (activity l k s).calls = s.calls := by
  unfold activity
  dsimp only
  split
  exacts [State.calls_setLine_same l rfl, rfl]

theorem flowGo_calls (l : Fin 32) (s : State) : (flowGo l s).calls = s.calls := by
  unfold flowGo
  dsimp only
  split
  · split <;> rfl
  · rfl

theorem restartStage_calls (s : State) : (restartStage s).calls = s.calls := by
  unfold restartStage
  split <;> rfl

/-- A channel that leaves CLOSING, or is cleared, has no row and, once QUARANTINED, no timer. -/
theorem State.CallsOk.closing_row (hs : s.CallsOk) {c : Fin 24} (h : (s.channel c).state = .closing) : (s.channel c).row = none := by
  have hok := hs.1.1 c
  unfold Calls.ChannelOk at hok
  rw [show (s.calls.channel c).state = _ from h] at hok
  exact hok.2

theorem State.CallsOk.quarantined_channel (hs : s.CallsOk) {c : Fin 24} (h : (s.channel c).state = .quarantined) :
    (s.channel c).row = none ∧ (s.calls.channel c).timed = false := by
  have hok := hs.1.1 c
  unfold Calls.ChannelOk at hok
  rw [show (s.calls.channel c).state = _ from h] at hok
  exact hok.2

theorem Effect.callsOk (h : Effect s t) (hs : s.CallsOk) : t.CallsOk := by
  cases h with
  | powerOn w => exact powerOn_callsOk w s
  | ringLevel l b => exact hs.congr (State.calls_updLine_same l rfl)
  | carrierLevel l b => exact hs.congr (State.calls_updLine_same l rfl)
  | ring l => exact ring_callsOk hs l
  | carrierUp l => exact carrierUp_callsOk hs l
  | carrierDown l => exact hs.congr (carrierDown_calls l s)
  | dialogueChar l c h => exact dialogueChar_callsOk hs h c
  | received l c => exact hs.congr (State.calls_updLine_same l (Line.receive_call ..))
  | activity l k => exact hs.congr (activity_calls l k s)
  | sent l c rest => exact hs.congr (State.calls_setLine_same l rfl)
  | flowGo l => exact hs.congr (flowGo_calls l s)
  | noticeTaken l x rest => exact hs.congr (State.calls_setLine_same l rfl)
  | prompt l => exact hs.congr (tryPrompt_calls ..)
  | cleared l h =>
    refine hs.quietMove ?_ ?_ (st := .clearing) rfl (toClearing_calls l s)
    · rcases h with h | h <;> rw [h] <;> rfl
    · rcases h with h | h <;> rw [h] <;> decide
  | ringingStops l st hst h => exact stopRinging_callsOk hs hst h
  | callRefused l m => exact refuseCall_callsOk hs l m
  | carrierLost l => exact loseCarrier_callsOk hs l
  | callEnds l h => exact hs.quietMove (by rw [h]; rfl) (by rw [h]; decide) (s.line l).endCall_quiet (State.calls_updLine ..)
  | idleWarning l => exact hs.congr ((State.calls_updLine_same l rfl).trans (notify_calls ..))
  | lookupCleared l => exact clearLookup_callsOk hs l
  | lookupDecided l h =>
    have hchecking : (s.line l).state = .checking := hs.1.2.2.2.2.1 l (decide_eq_true h)
    refine decideLookup_callsOk (clearLookup_callsOk hs l) ?_ ?_ _
    · unfold clearLookup
      simpa using hchecking
    · rw [clearLookup_calls, Calls.setLine_line_same]
  | granted w c r a h ha => exact grantTo_callsOk hs h ha
  | positionTold l v x => exact hs.congr ((updWaiter_calls ..).trans (notify_calls ..))
  | waiterRemoved l m => exact removeWaiter_callsOk hs l m
  | offerExpired c h => exact offerExpired_callsOk hs h
  | closeExpired c h => exact hs.idleChannel (by rw [h]; decide) (by rw [h]; decide) ⟨hs.closing_row h, .inr (.inl ⟨rfl, rfl⟩)⟩
  | sessionClosed c why h => exact closeSession_callsOk hs c h
  | notified l m v => exact hs.congr (notify_calls ..)
  | drainChecked => exact hs.congr (drainEnd_calls s)
  | boundary p q c => exact meterBoundary_callsOk hs p q c
  | periodReported q c => exact hs.congr (State.calls_updMeter_same c)
  | permitReported k x c => exact hs.congr (meterPermit_calls ..)
  | clockFlagged => exact hs.congr (s.calls_meters fun _ => rfl)
  | channelLost c => exact loseChannel_callsOk hs c
  | dataPlaced c cs => exact hs.congr (takeData_calls ..)
  | offerAccepted c h => exact acceptOffer_callsOk hs h
  | offerRejected c a h => exact rejectOffer_callsOk hs h a
  | closeConfirmed c h => exact hs.idleChannel (by rw [h]; decide) (by rw [h]; decide) ⟨hs.closing_row h, .inr (.inr ⟨rfl, rfl, rfl⟩)⟩
  | hostFlow c f => exact hs.congr (State.calls_updChannel_same s c)
  | outOfService l b => exact hs.congr (State.calls_updLine_same l rfl)
  | lineReturned l h => exact hs.quietMove (by rw [h]; rfl) (by rw [h]; decide) (st := .idle) rfl (State.calls_updLine ..)
  | countersCleared l => exact hs.congr (State.calls_updLine_same l rfl)
  | abandoned l m => exact abandon_callsOk hs l m
  | offerAbandoned l c why m h hc =>
    obtain ⟨-, ⟨hc, -⟩ | ⟨-, hl⟩⟩ := hs.1.line_of_channel (l := l) (c := c) hc
    · exact abandonOffer_callsOk hs hc why m
    · exact absurd (hl.symm.trans h) (by decide)
  | accountLoaded a st b o w l =>
    exact hs.congr ((restoreIfAbove_calls ..).trans (State.calls_updAccount_same s a (Account.rearm_openCount _)))
  | accountState a st => exact hs.congr (State.calls_updAccount_same s a rfl)
  | accountCredited a n =>
    exact hs.congr ((restoreIfAbove_calls ..).trans (State.calls_updAccount_same s a (Account.rearm_openCount _)))
  | channelPriority c f => exact hs.congr (State.calls_updChannel_same s c)
  | channelCleared c h =>
    obtain ⟨hrow, htimed⟩ := hs.quarantined_channel h
    exact hs.idleChannel (by rw [h]; decide) (by rw [h]; decide) ⟨hrow, .inr (.inr ⟨rfl, rfl, htimed⟩)⟩
  | ticketReleased r h => exact releaseRow_callsOk hs h
  | serviceClosed why c h => exact serviceCloseChannel_callsOk hs c h
  | callsRestarted => exact callsRestarted_callsOk hs
  | linesRestarted => exact hs.congr (restartLines_calls s)
  | blockSent => exact hs.congr (sendBlock_calls s)
  | serviceSent => exact hs.congr (sendService_calls s)
  | stageTimed => exact hs.congr (restartStage_calls s)
  | _ => exact hs

end Kept

theorem deferLookups_calls (s : State) : (deferLookups s).calls = s.calls := by
  refine State.calls_congr (fun l => ?_) (by simp) (by simp) (by simp) (by simp) (by simp)
  unfold deferLookups
  rw [State.line_ofFn]
  dsimp only
  split <;> rfl

theorem resumeLookups_calls (s : State) : (resumeLookups s).calls = s.calls := by
  refine State.calls_congr (fun l => ?_) (by simp) (by simp) (by simp) (by simp) (by simp)
  unfold resumeLookups
  rw [State.line_ofFn]
  rfl

/-- Settles O59: each effect is one move of a call, or touches nothing that the laws of the call path see. -/
theorem callsKept : Obligations.CallsKept := by
  intro s t hcoherent hbounded h
  rw [← State.callsOk_iff]
  refine step_keeps (P := State.CallsOk) (fun _ _ h => h) (fun s t h hs => ?_) h (State.callsOk_iff.mpr ⟨hcoherent, hbounded⟩)
  exact h.keeps (fun _ _ => Effect.callsOk) (fun _ _ h => h) (fun s h => h.congr (deferLookups_calls _)) (fun _ _ h => h)
    (fun s h => h.congr (resumeLookups_calls _)) (fun _ h => h) hs

end Sys2Proof.Machine
end

section
/-! A step, the completion of every command, and the reset state (EveryCommandCompletes, StepTakesFront, ResetState). -/

namespace Sys2Proof.Machine

open Sys2Proof

/-! ## Steps -/

/-- Settles O1: both halves are the two cases of `step`. -/
theorem stepTakesFront : Obligations.StepTakesFront :=
  ⟨fun _ _ _ => rfl, fun s h => by simp only [step, h, State.idle]⟩

/-! ## Every command completes -/

/-- No effect looks at the commands that wait. -/
theorem Effect.pending {s t : State} (h : Effect s t) : t.pending = s.pending := by
  cases h with
  | powerOn w => rfl
  | _ => simp

theorem Act.pending {s t : State} (h : Act s t) : t.pending = s.pending :=
  h.keeps_apart (P := fun u => u.pending = s.pending) (fun _ _ h hs => h.pending.trans hs) (fun _ _ _ _ hs => hs) rfl

theorem Acts.pending {s t : State} (h : Acts s t) : t.pending = s.pending := by
  induction h with
  | refl => rfl
  | tail _ hlast ih => exact hlast.pending.trans ih

/-- Settles O2: every command is a chain of acts, none of which touches the queue of commands; in reset every other arm is held by `whenRunning`. -/
theorem everyCommandCompletes : Obligations.EveryCommandCompletes := by
  refine ⟨fun i s => ?_, fun i s h => ?_⟩
  · obtain ⟨t, ht, hacts⟩ := exec_completes i s
    exact ⟨t, ht, hacts.pending⟩
  · cases i
    case powerOn | resetN => trivial
    case resetNRelease => exact congrArg Host.Outcome.next (if_pos h)
    case ringBurst l => exact whenRunning_held (s := setRing l true s) h _
    case dcdUp l => exact whenRunning_held (s := setCarrier l true s) h _
    case dcdDown l => exact whenRunning_held (s := setCarrier l false s) h _
    all_goals
      dsimp only [exec, execCarrierLoss, execCharacterReceived, execCharacterSent, execExpelExpiry, execGraceExpiry, execGrant,
        execLookupCompletion, execNoticeBegin, execNoticeTimerExpiry, execProtectionWriteCompletion, execSampleExpiry, execStageExpiry,
        execTrunkLoss, execWaitExpiry, execWriteCompletion]
      exact whenRunning_held h _

/-! ## The reset state -/

@[simp] theorem reset_line (l : Fin 32) : State.reset.line l = Line.powerOn false false := by
  simp [State.reset, State.line]

theorem reset_afterReset (w : Byte) : State.reset.dir.afterReset w = State.reset.dir := by
  simp [State.reset, Directory.afterReset, Directory.interrupted, Directory.interruptedFlags, Directory.protectedBy, Stage.powerOn]

theorem reset_lines : (Vector.ofFn fun l => Line.powerOn (State.reset.line l).ri (State.reset.line l).dcd) = State.reset.lines := by
  refine Vector.ext fun i hi => ?_
  rw [Vector.getElem_ofFn, reset_line]
  simp [State.reset, Line.powerOn]

/-- The reset state is what the release leaves of a part as shipped and powered on. -/
theorem reset_eq_released (w : Byte) : { powerOnValues w State.reset with inReset := false, sample := some Config.second } = State.reset := by
  unfold powerOnValues
  rw [reset_lines, reset_afterReset]
  rfl

theorem reset_released (w : Byte) : Effect (powerOnValues w State.reset) State.reset := by
  have h := Effect.released (s := powerOnValues w State.reset)
  rwa [show (powerOnValues w State.reset).after Config.second = some Config.second from rfl, reset_eq_released] at h

theorem reset_lineOk (l : Fin 32) : (State.reset.line l).Ok := by
  rw [reset_line]
  exact Line.powerOn_ok false false

theorem reset_slots : State.reset.RepliesBounded ∧ State.reset.PartialSound ∧ State.reset.SlotsDistinct ∧ State.reset.CycleSound ∧
    State.reset.CountersBounded ∧ State.reset.WeekdaysSound :=
  ⟨Nat.zero_le _, nofun, List.nodup_nil, (by decide : 0 ≤ 15 ∧ 1 ≤ 15 ∧ 15 ≤ 64 ∧ 1 ≤ 15 ∧ 15 ≤ 64),
    (by decide : 0 ≤ 65535 ∧ 0 ≤ 65535 ∧ 0 ≤ 65535 ∧ 0 ≤ 65535), (by decide : 0 < 7 ∧ 0 < 7 ∧ 0 < 7)⟩

theorem reset_storeOk : State.reset.StoreOk := ⟨rfl, Stage.powerOn_sound, by decide⟩

/-- Settles O60: the release of a powered-on part gives the reset state back, and the laws hold of a part powered on. -/
theorem resetState : Obligations.ResetState := by
  have hbalances : State.reset.BalancesInRange := fun a => by
    simp [State.reset, State.account, Account.powerOn, Account.floor]
  have hmoney : State.reset.MoneyFor none := (reset_released 0).money (powerOn_moneyFor 0 _)
  have hcalls : State.reset.CallsOk := (reset_released 0).callsOk (powerOn_callsOk 0 _)
  have hserials : State.reset.SerialsOk := State.serialsOk_of_tickets (s := powerOnValues 0 State.reset) rfl (powerOn_serialsOk 0 _)
  obtain ⟨hmeters, htickets⟩ := State.moneyFor_none.mp hmoney
  obtain ⟨hcoherent, hqueue⟩ := State.callsOk_iff.mp hcalls
  obtain ⟨hbounded, hdistinct⟩ := State.linesOk_iff.mp reset_lineOk
  refine ⟨fun w => ⟨powerOnValues w State.reset, rfl, ?_⟩, ⟨reset_storeOk.1, reset_storeOk.2, hbounded, hdistinct⟩, reset_slots,
    ⟨hbalances, hmeters, htickets⟩, hserials, hcoherent, hqueue⟩
  exact congrArg Host.Outcome.next (reset_eq_released w)

end Sys2Proof.Machine
end

section
/-! Commands that read or set one field: READ LINE (R23), the protection commands (R61 to R64), the tariff reads (R96 to R106) and the channel commands (R142 to R145). -/

namespace Sys2Proof.Machine

open Sys2Proof

/-- A command row whose owner answers with a reply. -/
theorem command_answers {tag code : Byte} {ps : List Byte} {own : State → State × Answer} {s t : State} {r : Result} {data : List Byte}
    (h : s.Ready) (ho : own s = (t, .reply r data)) : command tag code ps own s = .next (t.replied tag code r data) := by
  rw [command_ready tag code ps own s h, ho, finish_reply]

/-- A command row whose owner begins a write. -/
theorem command_writes {tag code : Byte} {ps : List Byte} {own : State → State × Answer} {s t : State} (h : s.Ready) (ho : own s = (t, .writing)) :
    command tag code ps own s = .next { t with mgt := { t.mgt with writing := some (tag, code) } } := by
  rw [command_ready tag code ps own s h, ho, finish_writing]

/-! ## READ LINE (R23) -/

/-- Section 1.4: DTR is high from ANSWERING to DRAINING. -/
theorem LineState.dtr_eq (st : LineState) :
    st.dtr = decide (st ∈ [LineState.answering, .signon, .checking, .waiting, .offered, .connected, .draining]) := by
  cases st <;> rfl

theorem flagSet_three (a b c : Bool) :
    flagSet [a, b, c] = (if a then 1 else 0) + (if b then 2 else 0) + if c then 4 else 0 := by
  cases a <;> cases b <;> cases c <;> rfl

theorem cmdReadLine_none {line : Byte} (h : 31 < line.toNat) (ring : Fin 32 → Bool) (s : State) : cmdReadLine line ring s = (s, badValue) := by
  unfold cmdReadLine
  rw [finOf_none h]

theorem cmdReadLine_some {line : Byte} {l : Fin 32} (h : l.val = line.toNat) (ring : Fin 32 → Bool) (s : State) : cmdReadLine line ring s =
    (s.setLine l { s.line l with ri := ring l, counters := ⟨0, 0, 0, 0⟩ }, .reply .done (lineData { s.line l with ri := ring l })) := by
  unfold cmdReadLine setRing
  rw [finOf_eq h]
  simp only [State.updLine, State.setLine_line_same, State.setLine_setLine]
  rfl

/-- Settles O12: the level of RI is written, the counters are cleared, and the record is answered as it stood before. -/
theorem readLine : Obligations.ReadLine := by
  intro s tag line ring hr
  refine ⟨fun h => command_answers hr (cmdReadLine_none h _ s), fun l hl => ?_⟩
  refine (command_answers hr (cmdReadLine_some hl (fun _ => ring) s)).trans ?_
  simp only [lineData, flagSet_three, LineState.dtr_eq, decide_eq_true_eq]
  rfl

/-! ## Protection (R61, R62, R64) -/

/-- Settles O22: each command is its checks in order; the key is read before those of UNPROTECT ALL. -/
theorem protectionCommands : Obligations.ProtectionCommands := by
  intro s tag block key hr g
  refine ⟨fun h => ?range, fun b hb => ⟨fun h => ?busy, fun h hp => ?already, fun h hp => ?begins⟩, command_answers hr rfl,
    fun hk => ?nokey, fun hk h => ?unbusy, fun hk h hp => ?nothing, fun hk h hp => ?clears⟩
  case range => exact command_answers hr (by unfold cmdProtectBlock; rw [finOf_none h]; rfl)
  case busy => exact command_answers hr (by unfold cmdProtectBlock; rw [finOf_eq hb]; exact if_pos h)
  case already => exact command_answers hr (by unfold cmdProtectBlock; rw [finOf_eq hb]; exact (if_neg h).trans (if_pos hp))
  case begins =>
    exact command_writes (own := cmdProtectBlock block) (t := beginProtection (.protectBlock b) s) hr (by unfold cmdProtectBlock; rw [finOf_eq hb]; exact (if_neg h).trans (if_neg (by rw [hp]; decide)))
  case nokey => exact command_answers hr (if_pos hk)
  case unbusy => exact command_answers hr ((if_neg (by rw [show (readKey key s).key = key from rfl, hk]; decide)).trans (if_pos h))
  case nothing =>
    exact command_answers hr ((if_neg (by rw [show (readKey key s).key = key from rfl, hk]; decide)).trans ((if_neg h).trans (if_pos hp)))
  case clears =>
    exact command_writes (own := cmdUnprotectAll key) (t := beginProtection .unprotectAll (setTariffs false (readKey key s))) hr ((if_neg (by rw [show (readKey key s).key = key from rfl, hk]; decide)).trans ((if_neg h).trans (if_neg hp)))

/-! ## Tariff reads (R96 to R106) -/

theorem Vector.toList_eq_map_finRange {α : Type} {n : Nat} (v : Vector α n) : v.toList = (List.finRange n).map fun i => v[i] := by
  refine List.ext_getElem (by simp) fun i h1 h2 => ?_
  simp

/-- Settles O28: a number in range selects the record that is answered; the state stays. -/
theorem tariffReads : Obligations.TariffReads := by
  intro s tag n hr c
  refine ⟨fun h => ⟨?_, ?_⟩, fun e he => ⟨?_, ?_⟩, ?_, fun h => ⟨?_, ?_, ?_⟩, fun p hp => ⟨?_, ?_, ?_⟩⟩
  · exact command_answers hr (by unfold cmdReadHoliday; rw [finOf_none h]; rfl)
  · exact command_answers hr (by unfold cmdReadSchedule; rw [finOf_none h]; rfl)
  · refine command_answers hr ?_
    unfold cmdReadHoliday
    rw [finOf_eq he]
    dsimp only
    cases hc : s.cal.holidays[e] with
    | none => rfl
    | some d => rfl
  · exact command_answers hr (by unfold cmdReadSchedule; rw [finOf_eq he])
  · exact command_answers hr (by unfold cmdReadDaystart; rw [Vector.toList_eq_map_finRange, List.map_map]; rfl)
  · exact command_answers hr (by unfold cmdReadRate; rw [finOf_none h]; rfl)
  · exact command_answers hr (by unfold cmdReadPermit; rw [finOf_none h]; rfl)
  · exact command_answers hr (by unfold cmdReadClass; rw [finOf_none h]; rfl)
  · exact command_answers hr (by unfold cmdReadRate; rw [finOf_eq hp]; dsimp only; rw [Vector.toList_eq_map_finRange, List.flatMap_map]; rfl)
  · exact command_answers hr (by unfold cmdReadPermit; rw [finOf_eq hp]; dsimp only; rw [Vector.toList_eq_map_finRange, List.map_map]; rfl)
  · exact command_answers hr (by unfold cmdReadClass; rw [finOf_eq hp]; rfl)

/-! ## Channels (R142 to R145) -/

/-- Settles O39: a channel in range is written or read as it stands; READ QUEUE answers from the queue. -/
theorem channelCommands : Obligations.ChannelCommands := by
  intro s tag channel flag hr
  refine ⟨fun h => ⟨?_, ?_, ?_⟩, fun h => ?_, fun c hc => ⟨fun hf => ?_, fun hq => ?_, fun hq => ?_, ?_⟩, ?_⟩
  · exact command_answers hr (by unfold cmdSetChannelPriority; rw [channelOf_none h]; rfl)
  · exact command_answers hr (by unfold cmdClearChannel; rw [channelOf_none h]; rfl)
  · exact command_answers hr (by unfold cmdReadChannel; rw [channelOf_none h]; rfl)
  · refine command_answers hr ?_
    unfold cmdSetChannelPriority
    rw [flagOf_none h]
    cases channelOf channel <;> rfl
  · exact command_answers hr (by unfold cmdSetChannelPriority; rw [channelOf_eq hc, flagOf_some hf]; rfl)
  · exact command_answers hr (by unfold cmdClearChannel; rw [channelOf_eq hc]; exact if_pos hq)
  · exact command_answers hr (by unfold cmdClearChannel; rw [channelOf_eq hc]; exact if_neg hq)
  · refine command_answers hr ?_
    unfold cmdReadChannel
    rw [channelOf_eq hc]
    refine congrArg (fun data => (s, Answer.reply .done data)) ?_
    have hflow : (s.channel c).hostFlow.code = match (s.channel c).hostFlow with | .go => 1 | .stop => 0 := by
      cases (s.channel c).hostFlow <;> rfl
    have hleft : byteOf (s.secondsLeft (s.channel c).timer) = match (s.channel c).timer with | some d => byteOf ((d - s.now) / 10) | none => 0 := by
      cases (s.channel c).timer <;> rfl
    unfold channelData
    dsimp only
    rw [hflow, hleft]
    cases (s.channel c).line <;> cases (s.channel c).row <;> rfl
  · exact command_answers hr (by unfold cmdReadQueue; rfl)

end Sys2Proof.Machine
end

section
/-! Blocks on the trunk: their layout and the CRC (R196 to R198), the checks of a downward block (R169 to R171), the service block (R186 to R188, R201). -/

namespace Sys2Proof.Machine

open Sys2Proof

/-! ## Layout (R196 to R198) -/

theorem be16_toNat (w : BitVec 16) : be16 w.toNat = [w.extractLsb' 8 8, w.extractLsb' 0 8] := by
  have hhigh : byteOf (w.toNat / 256) = w.extractLsb' 8 8 :=
    BitVec.eq_of_toNat_eq (by simp [byteOf, BitVec.extractLsb'_toNat, Nat.shiftRight_eq_div_pow])
  have hlow : byteOf w.toNat = w.extractLsb' 0 8 := BitVec.eq_of_toNat_eq (by simp [byteOf, BitVec.extractLsb'_toNat])
  rw [be16, hhigh, hlow]

theorem zeroTo_of_le {n : Nat} {cs : List Byte} (h : cs.length ≤ n) : zeroTo n cs = cs ++ List.replicate (n - cs.length) 0 := by
  rw [zeroTo, List.take_append, List.take_of_length_le h, List.take_replicate, Nat.min_eq_left (Nat.sub_le ..)]

theorem blockBytes_length (kind : Byte) (pay : List Byte) : (blockBytes kind pay).length = 64 := by
  simp [blockBytes, zeroTo_length, be16, Config.payload]

theorem blockBytes_take (kind : Byte) (pay : List Byte) : (blockBytes kind pay).take 62 = kind :: zeroTo 61 pay := by
  simp only [blockBytes]
  rw [List.take_append_of_le_length (by simp [zeroTo_length, Config.payload]), List.take_of_length_le (by simp [zeroTo_length, Config.payload])]

theorem blockBytes_drop (kind : Byte) (pay : List Byte) :
    (blockBytes kind pay).drop 62 = be16 (crc ((blockBytes kind pay).take 62)).toNat := by
  rw [blockBytes_take]
  simp only [blockBytes]
  rw [List.drop_append_of_le_length (by simp [zeroTo_length, Config.payload]), List.drop_of_length_le (by simp [zeroTo_length, Config.payload])]
  rfl

theorem crcShift_eq (r : BitVec 16) : crcShift r = if r.getLsbD 15 = true then (r <<< 1) ^^^ 0x1021 else r <<< 1 := by
  simp [crcShift, BitVec.msb_eq_getLsbD_last]

/-- R198: a byte is taken into the register bit by bit. -/
theorem crc_concat (bs : List Byte) (x : Byte) : crc (bs ++ [x]) =
    (List.range 8).foldl (fun r _ => crcShift r) (crc bs ^^^ ((x.setWidth 16) <<< 8)) := by
  rw [crc, List.foldl_append]
  rfl

/-- Settles O51: the layout is that of `blockBytes`, the CRC that of `crcShift`, and the codes are evaluated. -/
theorem blockLayout : Obligations.BlockLayout := by
  refine ⟨fun kind pay h => ⟨blockBytes_length kind pay, ?_, ?_⟩, ⟨rfl, fun bs x => ?_⟩, by decide⟩
  · rw [blockBytes_take, zeroTo_of_le h]
  · rw [blockBytes_drop, be16_toNat]
  · simp only [crc_concat, crcShift_eq]

/-! ## Downward blocks (R169 to R171) -/

theorem trunkAlive_eq (s : State) : trunkAlive s = s.heard := by
  unfold trunkAlive State.heard
  dsimp only
  split
  · next h =>
    simp only [h, Bool.not_true, Bool.or_false]
    rfl
  · next h =>
    simp only [Bool.eq_false_iff.mpr h, Bool.not_false, Bool.or_true]
    rfl

theorem raise_eq (n : Nat) : raise n = if n < 65535 then n + 1 else n := rfl

theorem crcGood_iff (bytes : List Byte) : crcGood bytes = true ↔ (bytes.drop 62).take 2 = be16 (crc (bytes.take 62)).toNat :=
  decide_eq_true_iff

theorem takeDownward_bad {bytes : List Byte} (h : ¬ (64 ≤ bytes.length ∧ crcGood bytes = true)) (lv : InputLevels) (s : State) :
    takeDownward bytes lv s = countCrc s := if_pos (by simpa [Decidable.or_iff_not_imp_left] using h)

theorem takeDownward_good {bytes : List Byte} (h : 64 ≤ bytes.length ∧ crcGood bytes = true) (lv : InputLevels) (s : State) :
    takeDownward bytes lv s = takeGood lv (bytes.getD 0 0) ((bytes.drop 1).take 61) s :=
  if_neg (by simpa using h)

theorem exec_downwardBlock {s : State} (h : s.inReset = false) (bytes : List Byte) (lv : InputLevels) :
    exec (.downwardBlock bytes lv) s = .next (takeDownward bytes lv s) := whenRunning_run h _

/-- Settles O50: the length and the CRC are checked first, then the kind. -/
theorem downwardBlock : Obligations.DownwardBlock := by
  intro s bytes lv hr n good
  have hgood : good ↔ 64 ≤ bytes.length ∧ crcGood bytes = true := by rw [crcGood_iff]
  refine ⟨fun h => ?_, fun k rest hb h => ⟨fun hk => ?_, fun hk => ?_⟩⟩
  · rw [exec_downwardBlock hr, takeDownward_bad (mt hgood.mpr h)]
    rfl
  · simp only [List.mem_cons, List.not_mem_nil, or_false, not_or] at hk
    obtain ⟨h21, h22, h23⟩ := hk
    rw [exec_downwardBlock hr, takeDownward_good (hgood.mp h), hb, takeGood]
    simp only [List.getD_cons_zero, if_neg h21, if_neg h22, if_neg h23]
    rfl
  · rw [exec_downwardBlock hr, takeDownward_good (hgood.mp h), hb, hk]
    exact congrArg Host.Outcome.next (trunkAlive_eq s)

/-! ## The service block (R186 to R188, R201) -/

theorem State.statusByte_eq (s : State) : s.statusByte = byteOf (s.mgt.service.code.toNat + (if s.alert then 4 else 0) +
    (if s.cal.valid then 8 else 0) + (if s.mgt.sticky.overflow then 16 else 0) + (if s.mgt.sticky.warning then 32 else 0) +
    (if s.mgt.sticky.restarted then 64 else 0) + if s.mgt.sticky.stageExpired then 128 else 0) := by
  simp only [State.statusByte, flagSet, List.foldr_cons, List.foldr_nil, Nat.mul_add, mul_ite, Nat.reduceMul, Nat.add_assoc, Nat.add_zero]

theorem Watch.flagBits_eq (w : Watch) : w.flagBits = (if w.high then 1 else 0) + (if w.low then 2 else 0) + (if w.crit then 4 else 0) +
    if w.event then 8 else 0 := by
  simp only [Watch.flagBits, flagSet, List.foldr_cons, List.foldr_nil, Nat.mul_add, mul_ite, Nat.reduceMul, Nat.add_assoc, Nat.add_zero]

theorem exec_serviceBlock_waits {s : State} (hr : s.inReset = false) (h : s.trunk.counter ≠ s.trunk.nd) : exec .serviceBlock s = .next s :=
  (whenRunning_run hr _).trans (congrArg Host.Outcome.next (if_neg h))

theorem exec_serviceBlock {s : State} (hr : s.inReset = false) (h : s.trunk.counter = s.trunk.nd) : exec .serviceBlock s = .next (sendService s) :=
  (whenRunning_run hr _).trans (congrArg Host.Outcome.next (if_pos h))

theorem sendService_eq (s : State) : sendService s = { s with
    mgt := { s.mgt with sticky := ⟨false, false, false, false⟩, replies := s.mgt.replies.drop 1 }
    trunk := { s.trunk with counter := 0, nd := s.params.nd, sent := blockBytes 0x13 s.servicePayload } } := rfl

/-- Settles O49: the payload is the status byte with the oldest reply, or with the two selected items. -/
theorem serviceBlock : Obligations.ServiceBlock := by
  intro s hr bit alert service status rows flags item sends
  have halert : s.alert = alert := by
    rw [Bool.eq_iff_iff, State.alert_iff]
    exact decide_eq_true_iff.symm
  have hservice : s.mgt.service.code.toNat = service := by
    simp only [service]
    cases s.mgt.service <;> rfl
  have hcode : s.mgt.service.code = byteOf service := by
    simp only [service]
    cases s.mgt.service <;> rfl
  have hstatus : s.statusByte = status := by
    rw [State.statusByte_eq, halert, hservice]
  have hitem : ∀ i, s.item i = item i := fun i => match i with
    | 0 => by rw [State.item, hcode]
    | 1 => rfl
    | 2 => rfl
    | 3 => by rw [State.item, State.closedRows_eq]; rfl
    | 4 => by rw [State.item, State.freeRows_eq]; rfl
    | 5 => by simp only [State.item, Watch.flagBits_eq]; rfl
    | 6 => rfl
    | 7 => by
      simp only [State.item, item]
      cases s.dir.stage.state <;> rfl
  refine ⟨exec_serviceBlock_waits hr, fun h => ⟨fun r rest hq => ?_, fun hq => ?_⟩⟩
  · have hpay : s.servicePayload = status :: ([0x00, r.tag, r.code, r.result.code] ++ r.data) := by
      rw [State.servicePayload, hq, hstatus]
      rfl
    rw [exec_serviceBlock hr h, sendService_eq, hpay, hq]
    rfl
  · have hpay : s.servicePayload = status :: ([0x01, byteOf s.params.selector1.val] ++ item s.params.selector1 ++ [byteOf s.params.selector2.val] ++ item s.params.selector2) := by
      rw [State.servicePayload, hq, hstatus, ← hitem, ← hitem]
      simp only [List.cons_append, List.nil_append, List.append_assoc]
    rw [exec_serviceBlock hr h, sendService_eq, hpay, hq]
    rfl

end Sys2Proof.Machine
end

section
/-! The bounded queues: the transmit buffer (R3, R27), the uplink controls (R175) and the notices of a line (R18). -/

namespace Sys2Proof.Machine

open Sys2Proof

/-! ## The transmit buffer (R3, R27) -/

theorem Line.placeAll_cons (ln : Line) (c : Byte) (cs : List Byte) : ln.placeAll (c :: cs) = (ln.place c).placeAll cs := rfl

theorem Line.place_room {ln : Line} (h : ln.tx.length < 128) (c : Byte) : ln.place c = { ln with tx := ln.tx ++ [c] } := if_pos h

theorem Line.place_full {ln : Line} (h : 128 ≤ ln.tx.length) (c : Byte) :
    ln.place c = { ln with counters := { ln.counters with discards := raise ln.counters.discards } } := if_neg (Nat.not_lt.mpr h)

theorem raise_eq_min {n : Nat} (h : n ≤ 65535) : raise n = min 65535 (n + 1) := by
  unfold raise Config.counterLimit
  split <;> omega

/-- R3, R27: the buffer takes what fits, and each character that does not is counted. -/
theorem Line.placeAll_eq {ln : Line} (htx : ln.tx.length ≤ 128) (hd : ln.counters.discards ≤ 65535) (cs : List Byte) :
    ln.placeAll cs = { ln with
      tx := (ln.tx ++ cs).take 128
      counters := { ln.counters with discards := min 65535 (ln.counters.discards + (ln.tx.length + cs.length - 128)) } } := by
  induction cs generalizing ln with
  | nil =>
    have hkept : (ln.tx ++ []).take 128 = ln.tx := by rw [List.append_nil, List.take_of_length_le htx]
    have hnone : min 65535 (ln.counters.discards + (ln.tx.length + ([] : List Byte).length - 128)) = ln.counters.discards := by
      simp only [List.length_nil]
      omega
    rw [hkept, hnone]
    rfl
  | cons c cs ih =>
    rw [Line.placeAll_cons]
    by_cases h : ln.tx.length < 128
    · have hlen : (ln.tx ++ [c]).length = ln.tx.length + 1 := by simp
      rw [Line.place_room h, ih (ln := { ln with tx := ln.tx ++ [c] }) (hlen.trans_le h) hd]
      simp only [hlen, List.append_assoc, List.singleton_append, List.length_cons, Nat.add_assoc, Nat.add_comm 1]
    · have hfull : ln.tx.length = 128 := by omega
      rw [Line.place_full hfull.ge, ih (ln := { ln with counters := { ln.counters with discards := raise ln.counters.discards } }) htx (raise_le hd)]
      have hbuf : ∀ xs : List Byte, (ln.tx ++ xs).take 128 = ln.tx := fun xs => by
        rw [List.take_append_of_le_length hfull.ge, List.take_of_length_le htx]
      have hcount : min 65535 (raise ln.counters.discards + (ln.tx.length + cs.length - 128)) =
          min 65535 (ln.counters.discards + (ln.tx.length + (c :: cs).length - 128)) := by
        rw [raise_eq_min hd, List.length_cons]
        omega
      simp only [hbuf, hcount]

/-! ## The uplink controls (R175) -/

theorem joinControls_fresh {q : List Control} {c : Control} (h : ∀ x ∈ q, x.place ≠ c.place) : joinControls q c = q ++ [c] :=
  if_neg (by
    rw [Bool.not_eq_true, List.any_eq_false]
    exact fun x hx e => h x hx (Control.sameSlot_iff.mp e).symm)

theorem joinControls_replaces {a b : List Control} {x c : Control} (hx : x.place = c.place) (hnodup : ((a ++ x :: b).map Control.place).Nodup) :
    joinControls (a ++ x :: b) c = a ++ c :: b := by
  have hhit : c.sameSlot x = true := Control.sameSlot_iff.mpr hx.symm
  rw [List.map_append, List.map_cons, List.nodup_append] at hnodup
  obtain ⟨_, hb, hab⟩ := hnodup
  have hothers : ∀ q : List Control, (∀ y ∈ q, y.place ≠ x.place) → q.map (fun y => if c.sameSlot y then c else y) = q := fun q hq =>
    (List.map_congr_left fun y hy => if_neg fun e => hq y hy ((Control.sameSlot_iff.mp e).symm.trans hx.symm)).trans (List.map_id' q)
  have hfront := hothers a fun y hy => hab _ (List.mem_map_of_mem hy) _ List.mem_cons_self
  have hback := hothers b fun y hy e => (List.nodup_cons.mp hb).1 (e ▸ List.mem_map_of_mem hy)
  rw [joinControls, if_pos (List.any_eq_true.mpr ⟨x, by simp, hhit⟩), List.map_append, List.map_cons, hfront, hback, if_pos hhit]

/-! ## The notices of a line (R18) -/

theorem LineState.takesNotices_iff (st : LineState) :
    st.takesNotices = true ↔ st ∈ [LineState.signon, .checking, .waiting, .offered, .connected, .draining] := by
  cases st <;> decide

theorem joinNotices_fresh {q : List Notice} {n : Notice} (h : ∀ x ∈ q, x.msg ≠ n.msg) :
    joinNotices q n = if 4 ≤ q.length then (q.drop 1 ++ [n], true) else (q ++ [n], false) :=
  if_neg (by
    rw [Bool.not_eq_true, List.any_eq_false]
    exact fun x hx e => h x hx (of_decide_eq_true e))

theorem joinNotices_replaces {a b : List Notice} {x n : Notice} (hx : x.msg = n.msg) (hnodup : ((a ++ x :: b).map (·.msg)).Nodup) :
    joinNotices (a ++ x :: b) n = (a ++ { x with value := n.value } :: b, false) := by
  rw [List.map_append, List.map_cons, List.nodup_append] at hnodup
  obtain ⟨_, hb, hab⟩ := hnodup
  have hothers : ∀ q : List Notice, (∀ y ∈ q, y.msg ≠ x.msg) → q.map (fun y => if y.msg = n.msg then { y with value := n.value } else y) = q :=
    fun q hq => (List.map_congr_left fun y hy => if_neg fun e => hq y hy (e.trans hx.symm)).trans (List.map_id' q)
  have hfront := hothers a fun y hy => hab _ (List.mem_map_of_mem hy) _ List.mem_cons_self
  have hback := hothers b fun y hy e => (List.nodup_cons.mp hb).1 (e ▸ List.mem_map_of_mem hy)
  rw [joinNotices, if_pos (List.any_eq_true.mpr ⟨x, by simp, decide_eq_true hx⟩), List.map_append, List.map_cons, hfront, hback, if_pos hx]

theorem Line.request_deaf {ln : Line} (h : ln.state.takesNotices = false) (now : Nat) (m : Fin 24) (v : Int) : Line.request now m v ln = ln :=
  if_neg (by rw [h]; decide)

theorem Line.request_takes {ln : Line} (h : ln.state.takesNotices = true) {now : Nat} {m : Fin 24} {v : Int} {ns : List Notice} {dropped : Bool}
    (hj : joinNotices ln.notices ⟨m, v, now⟩ = (ns, dropped)) : Line.request now m v ln = { ln with
      notices := ns, counters := if dropped then { ln.counters with drops := raise ln.counters.drops } else ln.counters } := by
  rw [Line.request, if_pos h, hj]

/-- Settles O7: each queue's one operation is brought to the form of the statement. -/
theorem boundedQueues : Obligations.BoundedQueues := by
  refine ⟨fun ln cs htx hd => Line.placeAll_eq htx hd cs, fun s c k => ⟨fun h => ?_, fun a x b hq hx hd => ?_⟩,
    fun now m v ln => ⟨fun h => ?_, fun h => ⟨fun a n b hq hn hd => ?_, fun hfresh hroom => ?_, fun n rest hfresh hq hrest => ?_⟩⟩⟩
  · rw [handControl, State.updTrunk, joinControls_fresh h]
  · have hd' : ((a ++ x :: b).map Control.place).Nodup := hq ▸ hd
    rw [handControl, State.updTrunk, hq, joinControls_replaces (c := ⟨c, k⟩) hx hd']
  · exact Line.request_deaf (Bool.not_eq_true _ ▸ mt (LineState.takesNotices_iff _).mp h) ..
  · have hd' : ((a ++ n :: b).map (·.msg)).Nodup := hq ▸ hd
    exact Line.request_takes ((LineState.takesNotices_iff _).mpr h) (by rw [hq, joinNotices_replaces (n := ⟨m, v, now⟩) hn hd'])
  · exact Line.request_takes ((LineState.takesNotices_iff _).mpr h) (by rw [joinNotices_fresh hfresh, if_neg (Nat.not_le.mpr hroom)])
  · have hfull : 4 ≤ ln.notices.length := by rw [hq, List.length_cons, hrest]
    refine Line.request_takes (dropped := true) ((LineState.takesNotices_iff _).mpr h) ?_
    rw [joinNotices_fresh hfresh, if_pos hfull, hq]
    rfl

end Sys2Proof.Machine
end

section
/-! The line ports and the line supervisor: rings and answers (R5, R7, R8), carrier reports (R9, R10), characters and breaks (R2, R17, R178, R180), notices (R19) and the line timers (R8 to R12, R17). -/

namespace Sys2Proof.Machine

open Sys2Proof

/-! ## The first of a numbered list -/

theorem find_finRange_eq_some {n : Nat} {p : Fin n → Bool} {k : Fin n} (hk : p k = true) (hmin : ∀ j, j < k → p j = false) :
    (List.finRange n).find? p = some k := by
  rw [List.find?_eq_some_iff_getElem]
  refine ⟨hk, k.val, by simp, by simp, fun j hj => ?_⟩
  rw [List.getElem_finRange, hmin _ hj, Bool.not_false]

theorem find_finRange_eq_none {n : Nat} {p : Fin n → Bool} (h : ∀ k, p k = false) : (List.finRange n).find? p = none :=
  List.find?_eq_none.mpr fun k _ => by rw [h k]; decide

/-! ## Rings and answers (R5, R7, R8) -/

theorem Group.covers_iff (s : State) (l : Fin 32) (k : Fin 4) : s.groups[k].covers l = true ↔ s.CoversAt l k := by
  simp only [Group.covers, State.CoversAt, Bool.and_eq_true, decide_eq_true_eq]

theorem State.captureGroup_eq {s : State} {l : Fin 32} {g : Option (Fin 4)} (h : s.CapturesAt l g) : s.captureGroup l = g := by
  have hfalse : ∀ k, ¬ s.CoversAt l k → s.groups[k].covers l = false := fun k hk => by
    rw [← Bool.not_eq_true, Group.covers_iff]
    exact hk
  cases g with
  | none => exact find_finRange_eq_none fun k => hfalse k (h k)
  | some k => exact find_finRange_eq_some ((Group.covers_iff s l k).mpr h.1) fun j hj => hfalse j (h.2 j hj)

theorem State.answers_iff {s : State} {l : Fin 32} : s.answers l = true ↔ ∃ k, (s.line l).group = some k ∧ s.AnswersAt k (s.line l).rings := by
  unfold State.answers
  cases (s.line l).group with
  | none => simp
  | some k => simp only [Bool.and_eq_true, decide_eq_true_eq, State.AnswersAt, Option.some.injEq, exists_eq_left', and_assoc]

/-- R8: a line that answers. -/
def Line.answering (timeout : Nat) (ln : Line) : Line :=
  { ln with state := .answering, timers := { ln.timers with ringGap := none, answer := some timeout } }

theorem answerDecision_waits {l : Fin 32} {s : State} (h : ¬ s.answers l = true) : answerDecision l s = s := if_neg h

theorem answerDecision_answers {l : Fin 32} {s : State} (h : s.answers l = true) : answerDecision l s =
    let t := s.setLine l ((s.line l).answering (s.now + (s.groupOf (s.line l)).answerTimeout * 10))
    if (t.line l).dcd then enterSignon l t else t := if_pos h

theorem exec_ringBurst {s : State} (h : s.inReset = false) (l : Fin 32) : exec (.ringBurst l) s = .next (ring l (setRing l true s)) :=
  whenRunning_run (s := setRing l true s) h _

theorem exec_dcdUp {s : State} (h : s.inReset = false) (l : Fin 32) : exec (.dcdUp l) s = .next (carrierUp l (setCarrier l true s)) :=
  whenRunning_run (s := setCarrier l true s) h _

theorem exec_dcdDown {s : State} (h : s.inReset = false) (l : Fin 32) : exec (.dcdDown l) s = .next (carrierDown l (setCarrier l false s)) :=
  whenRunning_run (s := setCarrier l false s) h _

theorem setRing_eq (l : Fin 32) (b : Bool) (s : State) : setRing l b s = s.setLine l { s.line l with ri := b } := rfl

theorem setCarrier_eq (l : Fin 32) (b : Bool) (s : State) : setCarrier l b s = s.setLine l { s.line l with dcd := b } := rfl

/-- R7, R8: a line after a ring burst that finds it captured by `g` and leaves `n` rings. -/
def Line.ringing (now : Nat) (g : Option (Fin 4)) (n : Nat) (ln : Line) : Line :=
  { ln with state := .ringing, rings := n, group := g, ri := true, timers := { ln.timers with ringGap := some (now + 80) } }

theorem ring_idle {s : State} {l : Fin 32} (h : (s.line l).state = .idle) :
    ring l (setRing l true s) = answerDecision l (s.setLine l ((s.line l).ringing s.now (s.captureGroup l) 1)) := by
  have hstate : ((setRing l true s).line l).state = .idle := by rw [setRing_eq, State.setLine_line_same]; exact h
  unfold ring
  rw [hstate]
  dsimp only
  rw [setRing_eq, State.updLine_setLine]
  rfl

theorem ring_ringing {s : State} {l : Fin 32} (h : (s.line l).state = .ringing) :
    ring l (setRing l true s) = answerDecision l (s.setLine l ((s.line l).ringing s.now (s.line l).group (countRing (s.line l).rings))) := by
  have hstate : ((setRing l true s).line l).state = .ringing := by rw [setRing_eq, State.setLine_line_same]; exact h
  unfold ring
  rw [hstate]
  dsimp only
  rw [setRing_eq, State.updLine_setLine]
  simp only [h, Line.ringing, State.setLine_now, State.after]
  rfl

theorem ring_other {s : State} {l : Fin 32} (hi : (s.line l).state ≠ .idle) (hr : (s.line l).state ≠ .ringing) : ring l s = s := by
  unfold ring
  cases h : (s.line l).state
  case idle => exact absurd h hi
  case ringing => exact absurd h hr
  all_goals rfl

theorem carrierUp_answering {s : State} {l : Fin 32} (h : (s.line l).state = .answering) : carrierUp l s = enterSignon l s := if_pos h

/-- A ring that does not answer leaves the line ringing; one that answers leaves it ANSWERING, or moves it on when DCD is up. -/
theorem ring_outcome {s : State} {l : Fin 32} {g : Option (Fin 4)} {n : Nat} (hr : s.inReset = false)
    (hring : ring l (setRing l true s) = answerDecision l (s.setLine l ((s.line l).ringing s.now g n))) :
    ((∀ k, g = some k → ¬ s.AnswersAt k n) → exec (.ringBurst l) s = .next (s.setLine l ((s.line l).ringing s.now g n))) ∧
    ∀ k, g = some k → s.AnswersAt k n →
      let t := s.setLine l (((s.line l).ringing s.now g n).answering (s.now + s.groups[k].answerTimeout * 10))
      ((s.line l).dcd = false → exec (.ringBurst l) s = .next t) ∧ ((s.line l).dcd = true → exec (.ringBurst l) s = exec (.dcdUp l) t) := by
  have hanswers : (s.setLine l ((s.line l).ringing s.now g n)).answers l = true ↔ ∃ k, g = some k ∧ s.AnswersAt k n := by
    rw [State.answers_iff, State.setLine_line_same]
    rfl
  rw [exec_ringBurst hr, hring]
  refine ⟨fun h => ?_, fun k hg hk => ?_⟩
  · rw [answerDecision_waits (mt hanswers.mp fun ⟨k, hg, hk⟩ => h k hg hk)]
  · subst hg
    have htimeout : ((s.setLine l ((s.line l).ringing s.now (some k) n)).groupOf ((s.line l).ringing s.now (some k) n)).answerTimeout =
        s.groups[k].answerTimeout := rfl
    rw [answerDecision_answers (hanswers.mpr ⟨k, rfl, hk⟩)]
    simp only [State.setLine_line_same, State.setLine_setLine, State.setLine_now, htimeout]
    refine ⟨fun hd => congrArg Host.Outcome.next (if_neg (by exact hd ▸ Bool.false_ne_true)), fun hd => ?_⟩
    have hup : ∀ u : State, (u.line l).dcd = true → setCarrier l true u = u := fun u hu => by
      rw [setCarrier_eq, ← hu]
      exact State.setLine_self u l
    have hcarrier := hup (s.setLine l (((s.line l).ringing s.now (some k) n).answering (s.now + s.groups[k].answerTimeout * 10)))
      (by rw [State.setLine_line_same]; exact hd)
    rw [exec_dcdUp (s := s.setLine l _) hr, hcarrier, carrierUp_answering (by rw [State.setLine_line_same]; rfl)]
    exact congrArg Host.Outcome.next (if_pos hd)

/-- Settles O5: the two ring bursts differ in the captured group and the count alone; `ring_outcome` is what follows. -/
theorem ringsCountedAndAnswered : Obligations.RingsCountedAndAnswered := by
  intro s l hr
  refine ⟨fun g n h => ?_, fun hi hrg => ?_, fun d h hd => ?_⟩
  · rcases h with ⟨hi, hcapt, rfl⟩ | ⟨hrg, rfl, rfl⟩
    · exact ring_outcome hr (State.captureGroup_eq hcapt ▸ ring_idle hi)
    · exact ring_outcome hr (ring_ringing hrg)
  · rw [exec_ringBurst hr, setRing_eq, ring_other]
    · rw [State.setLine_line_same]; exact hi
    · rw [State.setLine_line_same]; exact hrg
  · have hexec : exec (.ringGapExpiry l) s = .next (whenDue (s.line l).timers.ringGap s fun s => s.updLine l (stopRinging .idle)) :=
      (whenRunning_run hr _).trans (congrArg Host.Outcome.next (if_pos h))
    rw [hexec, hd, whenDue_some]
    rfl

/-! ## Carrier reports (R9, R10) -/

theorem exec_prompt {s : State} (h : s.inReset = false) {l : Fin 32} (hl : (s.line l).state = .signon) : exec (.prompt l) s = .next (tryPrompt l s) :=
  (whenRunning_run h _).trans (congrArg Host.Outcome.next (if_pos hl))

theorem placeMessage_setLine (l : Fin 32) (m : Fin 24) (s : State) (ln : Line) :
    placeMessage l m (s.setLine l ln) = s.setLine l (ln.placeAll (framedText (s.message m))) := by
  rw [placeMessage, State.updLine_setLine]
  rfl

theorem LineState.watched_iff (st : LineState) :
    st.watched = true ↔ st ∈ [LineState.signon, .checking, .waiting, .offered, .connected, .draining] := by
  cases st <;> decide

/-- Settles O6: the start of a dialogue is the line's record with the banner, followed by PROMPT. -/
theorem carrierReports : Obligations.CarrierReports := by
  refine ⟨fun s l hr h => ?_, fun s l hr => ⟨fun h => ⟨?_, ?_⟩, fun h => ?_, fun h => ?_⟩⟩
  · rw [exec_dcdUp hr, setCarrier_eq, carrierUp_answering (by rw [State.setLine_line_same]; exact h), enterSignon, beginDialogue,
      State.updLine_setLine, State.updLine_setLine, placeMessage_setLine]
    exact (exec_prompt (s := s.setLine l _) hr (by rw [State.setLine_line_same, Line.placeAll_state])).symm
  · have hans : (s.line l).state ≠ .answering := fun e => by rw [e] at h; exact absurd h (by decide)
    have hw := (LineState.watched_iff _).mpr h
    rw [exec_dcdUp hr, setCarrier_eq, carrierUp, State.setLine_line_same, if_neg hans, if_pos hw, State.updLine_setLine]
  · have hw := (LineState.watched_iff _).mpr h
    rw [exec_dcdDown hr, setCarrier_eq, carrierDown, State.setLine_line_same, if_pos hw, State.updLine_setLine]
    rfl
  · have hans : (s.line l).state ≠ .answering := fun e => by rw [e] at h; exact absurd h (by decide)
    have hw : ¬ (s.line l).state.watched = true := fun hw => by cases e : (s.line l).state <;> rw [e] at h hw <;> revert h hw <;> decide
    rw [exec_dcdUp hr, setCarrier_eq, carrierUp, State.setLine_line_same, if_neg hans, if_neg hw]
  · have hw : ¬ (s.line l).state.watched = true := fun hw => by cases e : (s.line l).state <;> rw [e] at h hw <;> revert h hw <;> decide
    rw [exec_dcdDown hr, setCarrier_eq, carrierDown, State.setLine_line_same, if_neg hw]

end Sys2Proof.Machine
end

section
/-! The line ports: characters and breaks (R2, R17, R178, R180), notices (R19) and the line timers (R8 to R12, R17). -/

namespace Sys2Proof.Machine

open Sys2Proof

/-! ## Idle supervision (R17) -/

theorem activity_connected {l : Fin 32} {s : State} (h : (s.line l).state = .connected) (k : Nat) :
    activity l k s = s.setLine l (Line.supervised (s.groupOf (s.line l)) s.now k (s.line l)) := by
  unfold activity Line.supervised
  dsimp only
  by_cases hs : (s.line l).timers.idle.isSome = true ∧ (s.groupOf (s.line l)).activity.getLsbD k = true
  · rw [if_pos ⟨h, hs⟩, if_pos hs]
    rfl
  · rw [if_neg (mt And.right hs), if_neg hs, State.setLine_self]

theorem activity_other {l : Fin 32} {s : State} (h : (s.line l).state ≠ .connected) (k : Nat) : activity l k s = s :=
  if_neg (mt And.left h)

/-! ## Characters and breaks (R2, R178, R180) -/

theorem Line.receive_state (ln : Line) (c : Byte) : (ln.receive c).state = ln.state := by
  unfold Line.receive
  split <;> rfl

theorem Line.receive_group (ln : Line) (c : Byte) : (ln.receive c).group = ln.group := by
  unfold Line.receive
  split <;> rfl

theorem State.groupOf_congr {s : State} {x y : Line} (h : x.group = y.group) : s.groupOf x = s.groupOf y := by
  rw [State.groupOf, State.groupOf, h]

theorem exec_characterReceived_signon {s : State} (h : s.inReset = false) {l : Fin 32} (hl : (s.line l).state = .signon) (c : Byte) :
    exec (.characterReceived l c) s = .next (dialogueChar l c s) := by
  dsimp only [exec, execCharacterReceived]
  rw [whenRunning_run h, hl]

theorem exec_characterReceived_connected {s : State} (h : s.inReset = false) {l : Fin 32} (hl : (s.line l).state = .connected) (c : Byte) :
    exec (.characterReceived l c) s = .next (s.setLine l (Line.supervised (s.groupOf (s.line l)) s.now 0 ((s.line l).receive c))) := by
  have hstate : ((s.setLine l ((s.line l).receive c)).line l).state = .connected := by
    rw [State.setLine_line_same, Line.receive_state, hl]
  dsimp only [exec, execCharacterReceived]
  rw [whenRunning_run h, hl]
  dsimp only
  rw [State.updLine_eq, activity_connected hstate, State.setLine_setLine, State.setLine_line_same]
  exact congrArg (fun g => Host.Outcome.next (s.setLine l (Line.supervised g s.now 0 ((s.line l).receive c)))) (State.groupOf_congr (Line.receive_group ..))

theorem exec_characterReceived_other {s : State} (h : s.inReset = false) {l : Fin 32} (hc : (s.line l).state ≠ .connected)
    (hs : (s.line l).state ≠ .signon) (c : Byte) : exec (.characterReceived l c) s = .next s := by
  dsimp only [exec, execCharacterReceived]
  rw [whenRunning_run h]
  cases hl : (s.line l).state
  case signon => exact absurd hl hs
  case connected => exact absurd hl hc
  all_goals rfl

theorem ControlKind.eq_lineBreak {k : ControlKind} (h : k.slot = 2) : k = .lineBreak := by
  cases k with
  | lineBreak => rfl
  | opened | close | closed | flow => cases h

theorem Control.place_lineBreak {x : Control} {c : Fin 24} (h : x.place = (⟨c, .lineBreak⟩ : Control).place) : x = ⟨c, .lineBreak⟩ := by
  obtain ⟨d, k⟩ := x
  obtain ⟨rfl, hslot⟩ := Prod.mk.inj h
  exact congrArg _ (ControlKind.eq_lineBreak hslot)

theorem handControl_eq (c : Fin 24) (k : ControlKind) (s : State) :
    handControl c k s = { s with trunk := { s.trunk with controls := joinControls s.trunk.controls ⟨c, k⟩ } } := rfl

/-- R180: a second BREAK of a channel merges with the pending one. -/
theorem joinControls_lineBreak (q : List Control) (c : Fin 24) :
    joinControls q ⟨c, .lineBreak⟩ = if (⟨c, .lineBreak⟩ : Control) ∈ q then q else q ++ [⟨c, .lineBreak⟩] := by
  by_cases h : (⟨c, .lineBreak⟩ : Control) ∈ q
  · rw [if_pos h, joinControls, if_pos (List.any_eq_true.mpr ⟨_, h, Control.sameSlot_iff.mpr rfl⟩)]
    refine (List.map_congr_left fun x _ => ?_).trans (List.map_id' q)
    split
    · next hx => exact (Control.place_lineBreak (Control.sameSlot_iff.mp hx).symm).symm
    · rfl
  · rw [if_neg h, joinControls_fresh fun x hx e => h (Control.place_lineBreak e ▸ hx)]

theorem exec_lineBreak {s : State} (h : s.inReset = false) {l : Fin 32} {c : Fin 24} (hl : (s.line l).state = .connected)
    (hc : (s.line l).channel = some c) : exec (.lineBreak l) s = .next (activity l 2 (handControl c .lineBreak s)) := by
  refine (whenRunning_run h _).trans (congrArg Host.Outcome.next ((if_pos hl).trans ?_))
  rw [hc]

/-- R3: the transmitter takes the oldest character. -/
def Line.sent (b : Byte) (rest : List Byte) (ln : Line) : Line := { ln with tx := rest, lastSent := some b }

theorem exec_characterSent {s : State} (h : s.inReset = false) {l : Fin 32} {b : Byte} {rest : List Byte} (htx : (s.line l).tx = b :: rest)
    (hs : (s.line l).sending = none) : exec (.characterSent l) s = .next (activity l 1 (flowGo l (s.setLine l ((s.line l).sent b rest)))) := by
  dsimp only [exec, execCharacterSent]
  rw [whenRunning_run h, htx]
  exact congrArg Host.Outcome.next (if_pos hs)

theorem exec_characterSent_waits {s : State} (h : s.inReset = false) {l : Fin 32} (hw : (s.line l).tx = [] ∨ (s.line l).sending ≠ none) :
    exec (.characterSent l) s = .next s := by
  dsimp only [exec, execCharacterSent]
  rw [whenRunning_run h]
  cases htx : (s.line l).tx with
  | nil => rfl
  | cons b rest => exact congrArg Host.Outcome.next (if_neg (hw.resolve_left (by rw [htx]; exact List.cons_ne_nil b rest)))

theorem flowGo_announces {s : State} {l : Fin 32} {c : Fin 24} (hc : (s.line l).channel = some c)
    (h : (s.line l).state = .connected ∧ (s.line l).tx.length = 32 ∧ s.trunk.announced[c] = .stop) :
    flowGo l s = handControl c (.flow .go) (setAnnounced c .go s) := by
  unfold flowGo
  dsimp only
  rw [hc]
  exact if_pos h

theorem flowGo_silent {s : State} {l : Fin 32}
    (h : ∀ c, (s.line l).state = .connected → (s.line l).channel = some c → (s.line l).tx.length = 32 → s.trunk.announced[c] ≠ .stop) :
    flowGo l s = s := by
  unfold flowGo
  dsimp only
  split
  · next c hc => exact if_neg fun ⟨hs, hlen, ha⟩ => h c hs hc hlen ha
  · rfl

/-- Settles O8: the activity event of R17 comes after what the report itself does. -/
theorem lineActivity : Obligations.LineActivity := by
  refine ⟨fun s l c hr => ⟨fun hl => exec_characterReceived_connected hr hl c, fun hc hs => exec_characterReceived_other hr hc hs c,
    fun hl hu hp => ?_⟩, fun s l hr => ⟨fun c hl hc => ?_, fun hl => ?_⟩, fun s l hr => ⟨fun b rest htx hs => ?_, exec_characterSent_waits hr⟩⟩
  · rw [exec_characterReceived_signon hr hl, dialogueChar]
    cases hphase : (s.line l).dialogue.phase
    case user => exact absurd hphase hu
    case password => exact absurd hphase hp
    all_goals rfl
  · rw [exec_lineBreak hr hl hc, activity_connected (s := handControl c .lineBreak s) hl, handControl_eq, joinControls_lineBreak]
    rfl
  · exact (whenRunning_run hr _).trans (congrArg Host.Outcome.next (if_neg hl))
  · rw [exec_characterSent hr htx hs]
    have hline : (s.setLine l ((s.line l).sent b rest)).line l = (s.line l).sent b rest := State.setLine_line_same ..
    refine ⟨fun c hl hc hlen ha => ?_, fun hno => ?_⟩
    · have hcomm : handControl c (.flow .go) (setAnnounced c .go (s.setLine l ((s.line l).sent b rest))) =
          (handControl c (.flow .go) (setAnnounced c .go s)).setLine l ((s.line l).sent b rest) := rfl
      rw [flowGo_announces (c := c) (by rw [hline]; exact hc) (by rw [hline]; exact ⟨hl, hlen, ha⟩), hcomm,
        activity_connected (by rw [State.setLine_line_same]; exact hl), State.setLine_setLine, State.setLine_line_same]
      exact congrArg (fun x => Host.Outcome.next ((handControl c (.flow .go) (setAnnounced c .go s)).setLine l x)) (if_pos hl).symm
    · rw [flowGo_silent (l := l) (s := s.setLine l ((s.line l).sent b rest)) fun c hl hc hlen => hno c (by rw [hline] at hl; exact hl) (by rw [hline] at hc; exact hc) (by rw [hline] at hlen; exact hlen)]
      by_cases hl : (s.line l).state = .connected
      · rw [activity_connected (by rw [hline]; exact hl), State.setLine_setLine, hline]
        exact congrArg Host.Outcome.next (congrArg (s.setLine l) (if_pos hl).symm)
      · rw [activity_other (by rw [hline]; exact hl)]
        exact congrArg Host.Outcome.next (congrArg (s.setLine l) (if_neg hl).symm)

/-! ## The notice sender (R19) -/

theorem Line.mayBegin_iff (now : Nat) (ln : Line) (n : Notice) : ln.mayBegin now n = true ↔
    (ln.state ∈ [LineState.connected, .draining] ∧ (ln.lastSent = some 0x0D ∨ ln.tx = [] ∨ n.joined + 20 ≤ now)) ∨
      (ln.state ∈ [LineState.signon, .checking, .waiting, .offered] ∧ ln.tx = []) := by
  unfold Line.mayBegin
  cases ln.state <;> simp [Config.cr, Config.noticeHold, Config.second, or_assoc]

theorem exec_noticeBegin {s : State} (h : s.inReset = false) {l : Fin 32} {n : Notice} {rest : List Notice} (hq : (s.line l).notices = n :: rest) :
    exec (.noticeBegin l) s = .next (if (s.line l).sending = none ∧ (s.line l).mayBegin s.now n = true then
      s.setLine l { s.line l with
        notices := rest
        sending := if s.message n.msg = [] then none else some ⟨n.msg, noticeText (s.message n.msg) n.value⟩ }
      else s) := by
  dsimp only [exec, execNoticeBegin]
  rw [whenRunning_run h, hq]

theorem exec_noticeBegin_waits {s : State} (h : s.inReset = false) {l : Fin 32} (hw : (s.line l).notices = [] ∨ (s.line l).sending ≠ none) :
    exec (.noticeBegin l) s = .next s := by
  cases hq : (s.line l).notices with
  | nil =>
    dsimp only [exec, execNoticeBegin]
    rw [whenRunning_run h, hq]
  | cons n rest =>
    have hs : (s.line l).sending ≠ none := hw.resolve_left (by rw [hq]; exact List.cons_ne_nil n rest)
    rw [exec_noticeBegin h hq, if_neg (mt And.left hs)]

/-- R19: empty messages are passed over; the first message with a text is the next to be sent. -/
theorem nextNotice_eq (text : Vector (List Byte) 24) (ns : List Notice) :
    nextNotice text ns = match ns.dropWhile (fun x => decide (text[x.msg] = [])) with
      | [] => (none, [])
      | n :: rest => (some ⟨n.msg, noticeText text[n.msg] n.value⟩, rest) := by
  induction ns with
  | nil => rfl
  | cons n rest ih =>
    rw [nextNotice, List.dropWhile_cons]
    by_cases h : text[n.msg] = []
    · rw [if_pos h, if_pos (decide_eq_true h), ih]
    · rw [if_neg h, if_neg (by simpa using h)]

theorem exec_noticeEnd {s : State} (h : s.inReset = false) {l : Fin 32} (hs : (s.line l).sending ≠ none) : exec (.noticeEnd l) s =
    .next (s.setLine l { s.line l with
      sending := (nextNotice s.messages (s.line l).notices).1, notices := (nextNotice s.messages (s.line l).notices).2 }) :=
  (whenRunning_run h _).trans (congrArg Host.Outcome.next (if_pos (Option.isSome_iff_ne_none.mpr hs)))

/-! ## Values in decimal (R19) -/

/-- R19: the decimal digits of `n`, as numbers. -/
def decimalPlaces : Nat → Nat → List Nat
  | 0, _ => []
  | fuel + 1, n => (if n < 10 then [] else decimalPlaces fuel (n / 10)) ++ [n % 10]

theorem decimalDigits_eq (fuel n : Nat) : decimalDigits fuel n = (decimalPlaces fuel n).map fun d => BitVec.ofNat 8 (0x30 + d) := by
  induction fuel generalizing n with
  | zero => rfl
  | succ fuel ih =>
    rw [decimalDigits, decimalPlaces, List.map_append, ih]
    split <;> rfl

theorem decimalPlaces_lt (fuel n : Nat) : ∀ d ∈ decimalPlaces fuel n, d < 10 := by
  induction fuel generalizing n with
  | zero => simp [decimalPlaces]
  | succ fuel ih =>
    intro d hd
    rw [decimalPlaces, List.mem_append, List.mem_singleton] at hd
    rcases hd with hd | rfl
    · split at hd
      · cases hd
      · exact ih _ d hd
    · exact Nat.mod_lt n (by decide)

theorem decimalPlaces_value {fuel n : Nat} (h : n < 10 ^ fuel) : (decimalPlaces fuel n).foldl (fun a d => 10 * a + d) 0 = n := by
  induction fuel generalizing n with
  | zero => simp_all [decimalPlaces]
  | succ fuel ih =>
    rw [decimalPlaces, List.foldl_append, List.foldl_cons, List.foldl_nil]
    split
    · next hn => rw [List.foldl_nil, Nat.mod_eq_of_lt hn, Nat.mul_zero, Nat.zero_add]
    · rw [ih (Nat.div_lt_of_lt_mul (by rwa [Nat.pow_succ, Nat.mul_comm] at h)), Nat.div_add_mod]

theorem decimalPlaces_ne_nil (fuel n : Nat) : decimalPlaces (fuel + 1) n ≠ [] := by simp [decimalPlaces]

/-- R19: there are no leading zeros. -/
theorem decimalPlaces_head {fuel n : Nat} (h : n < 10 ^ fuel) (h0 : (decimalPlaces fuel n).head? = some 0) : decimalPlaces fuel n = [0] := by
  induction fuel generalizing n with
  | zero => cases h0
  | succ fuel ih =>
    rw [decimalPlaces] at h0 ⊢
    by_cases hn : n < 10
    · rw [if_pos hn] at h0 ⊢
      exact congrArg (fun d => [d]) (Option.some.inj h0)
    · rw [if_neg hn] at h0
      have hdiv : n / 10 < 10 ^ fuel := Nat.div_lt_of_lt_mul (by rwa [Nat.pow_succ, Nat.mul_comm] at h)
      have hvalue := decimalPlaces_value hdiv
      cases hp : decimalPlaces fuel (n / 10) with
      | nil =>
        rw [hp, List.foldl_nil] at hvalue
        omega
      | cons d ds =>
        rw [hp, List.cons_append, List.head?_cons] at h0
        rw [ih hdiv (by rw [hp, List.head?_cons]; exact h0)] at hvalue
        simp only [List.foldl_cons, List.foldl_nil] at hvalue
        omega

/-- Settles O9: what NOTICE_BEGIN and NOTICE_END send is `noticeText`, and its value is spelled by `decimalPlaces`. -/
theorem noticesSent : Obligations.NoticesSent := by
  refine ⟨fun s l hr => ⟨fun n rest hq hs => ⟨fun hmay htext => ?_, fun hmay htext => ?_, fun hno => ?_⟩, exec_noticeBegin_waits hr,
    fun hs => ⟨fun n rest hd => ?_, fun hd => ?_⟩, fun hs => ?_⟩, fun v hv => ?_⟩
  · rw [exec_noticeBegin hr hq, if_pos ⟨hs, (Line.mayBegin_iff ..).mpr hmay⟩, if_neg htext]
    rfl
  · rw [exec_noticeBegin hr hq, if_pos ⟨hs, (Line.mayBegin_iff ..).mpr hmay⟩, if_pos htext, ← hs]
  · rw [exec_noticeBegin hr hq, if_neg fun h => hno ((Line.mayBegin_iff ..).mp h.2)]
  · have hnext : nextNotice s.messages (s.line l).notices = (some ⟨n.msg, noticeText s.messages[n.msg] n.value⟩, rest) := by
      rw [nextNotice_eq, show (s.line l).notices.dropWhile (fun x => decide (s.messages[x.msg] = [])) = n :: rest from hd]
    rw [exec_noticeEnd hr hs, hnext]
    rfl
  · have hnext : nextNotice s.messages (s.line l).notices = (none, []) := by
      rw [nextNotice_eq, show (s.line l).notices.dropWhile (fun x => decide (s.messages[x.msg] = [])) = [] from hd]
    rw [exec_noticeEnd hr hs, hnext]
  · exact (whenRunning_run hr _).trans (congrArg Host.Outcome.next (if_neg (by rw [hs]; decide)))
  · refine ⟨decimalPlaces 7 v.natAbs, decimalPlaces_lt _ _, decimalPlaces_value hv, decimalPlaces_ne_nil _ _, decimalPlaces_head hv, ?_⟩
    rw [decimalText, decimalDigits_eq]
    split <;> rfl

/-! ## The line timers (R8 to R12, R17) -/

theorem exec_idleTimerExpiry {s : State} (h : s.inReset = false) {l : Fin 32} (hl : (s.line l).state = .connected) {d : Nat}
    (hd : (s.line l).timers.idle = some d) : exec (.idleTimerExpiry l) s = .next (idleExpired l { s with now := max s.now d }) := by
  refine ((whenRunning_run h _).trans (congrArg Host.Outcome.next (if_pos hl))).trans ?_
  rw [hd, whenDue_some]

theorem idleExpired_warns {l : Fin 32} {s : State} (h : (s.line l).idleWarned = false) : idleExpired l s =
    let ln := Line.request s.now 14 (s.groupOf (s.line l)).idleClear (s.line l)
    s.setLine l { ln with
      idleWarned := true, timers := { ln.timers with idle := some (s.now + (s.groupOf (s.line l)).idleClear * 600) } } := by
  unfold idleExpired
  dsimp only
  rw [if_neg (by rw [h]; decide), notify, State.updLine_eq (f := Line.request _ _ _), State.updLine_setLine]
  simp only [State.after, State.groupOf_congr (Line.request_group ..), show Config.minute = 600 from rfl]

/-- Settles O10: each expiry moves the line alone, with the time of its deadline. -/
theorem lineTimers : Obligations.LineTimers := by
  refine ⟨fun s l hr => ⟨fun hl htx hn hs => ?_, fun d hl hd => ?_, fun d hl hd => ?_⟩, fun s l d hr hl hd => ?_, fun s l d hr hl hd hw => ?_⟩
  · exact (whenRunning_run hr _).trans (congrArg Host.Outcome.next (if_pos ⟨hl, htx, hn, hs⟩))
  · refine ((whenRunning_run hr _).trans (congrArg Host.Outcome.next (if_pos hl))).trans ?_
    rw [hd, whenDue_some]
    rfl
  · refine ((whenRunning_run hr _).trans (congrArg Host.Outcome.next (if_pos hl))).trans ?_
    rw [hd, whenDue_some]
    rfl
  · refine ((whenRunning_run hr _).trans (congrArg Host.Outcome.next (if_pos hl))).trans ?_
    rw [hd, whenDue_some]
    rfl
  · rw [exec_idleTimerExpiry hr hl hd]
    exact congrArg Host.Outcome.next (idleExpired_warns hw)

end Sys2Proof.Machine
end

section
/-! The tables of the lines: LOAD GROUP (R4), LOAD MESSAGE (R20) and BROADCAST (R21). -/

namespace Sys2Proof.Machine

open Sys2Proof

/-- A command row whose owner keeps the first block of a command that runs on (R184). -/
theorem command_continues {tag code : Byte} {ps : List Byte} {own : State → State × Answer} {s t : State} {n : Nat} {bs : List Byte}
    (h : s.Ready) (ho : own s = (t, .partly n bs)) :
    command tag code ps own s = .next { t with mgt := { t.mgt with held := some ⟨tag, code, n, bs⟩ } } := by
  rw [command_ready tag code ps own s h, ho, finish_partly]

/-! ## LOAD GROUP (R4) -/

section LoadGroup

variable {e f z r t c g a w k m x p : Byte}

/-- R4: the fields of a descriptor are in range. -/
abbrev GroupFieldsOk (e f z r t c g a k m x : Byte) : Prop :=
  e.toNat ≤ 1 ∧ f.toNat ≤ 31 ∧ z.toNat ∈ [1, 2, 4, 8, 16, 32] ∧ f.toNat % z.toNat = 0 ∧ r.toNat ≤ 15 ∧
    5 ≤ t.toNat ∧ t.toNat ≤ 60 ∧ 1 ≤ c.toNat ∧ c.toNat ≤ 20 ∧ 10 ≤ g.toNat ∧ 1 ≤ a.toNat ∧ a.toNat ≤ 7 ∧ 1 ≤ k.toNat ∧
    m.toNat ≤ 7 ∧ x.toNat ≤ 63

theorem groupRecord_of_enabled (he : e.toNat ≤ 1) : groupRecord e f z r t c g a w k m x p =
    if GroupFieldsOk e f z r t c g a k m x then
      some ⟨decide (e = 1), f.toNat, z.toNat, r.toNat, t.toNat, c.toNat, g.toNat, a.toNat, w.toNat, k.toNat, m.setWidth 3, x.toNat, p⟩
    else none := by
  unfold groupRecord keepIf GroupFieldsOk
  rw [flagOf_some he]
  simp only [Option.bind_eq_bind, Option.bind_some, Bool.and_eq_true, decide_eq_true_eq, List.contains_iff_mem, and_assoc, he, true_and]

theorem groupRecord_ok (h : GroupFieldsOk e f z r t c g a k m x) : groupRecord e f z r t c g a w k m x p =
    some ⟨decide (e = 1), f.toNat, z.toNat, r.toNat, t.toNat, c.toNat, g.toNat, a.toNat, w.toNat, k.toNat, m.setWidth 3, x.toNat, p⟩ := by
  rw [groupRecord_of_enabled h.1, if_pos h]

theorem groupRecord_refused (h : ¬ GroupFieldsOk e f z r t c g a k m x) : groupRecord e f z r t c g a w k m x p = none := by
  by_cases he : e.toNat ≤ 1
  · rw [groupRecord_of_enabled he, if_neg h]
  · rw [groupRecord, flagOf_none (Nat.not_le.mp he)]
    rfl

end LoadGroup

theorem cmdLoadGroup_badValue {group : Byte} {d : Option Group} (h : 3 < group.toNat ∨ d = none) (s : State) :
    cmdLoadGroup group d s = (s, badValue) := by
  unfold cmdLoadGroup
  rcases h with h | rfl
  · rw [finOf_none h]
  · cases finOf 4 group <;> rfl

theorem cmdLoadGroup_taken {group : Byte} {n : Fin 4} (h : n.val = group.toNat) (d : Group) (s : State) :
    cmdLoadGroup group (some d) s = ({ s with groups := s.groups.set n d }, done) := by
  unfold cmdLoadGroup
  rw [finOf_eq h]

/-! ## Parameters that run on (R183, R184) -/

theorem zeroTo_of_ge {n : Nat} {cs : List Byte} (h : n ≤ cs.length) : zeroTo n cs = cs.take n := by
  rw [zeroTo, List.take_append_of_le_length h]

section LengthStep

variable {n : Nat} {bytes : List Byte} {own : State → State × Answer} {s : State}

theorem lengthStep_short (h : n ≤ 58) : lengthStep n bytes own s = own s := by
  rw [lengthStep, if_neg (Nat.not_lt.mpr (h.trans (by decide))), if_neg (Nat.not_lt.mpr h)]

theorem lengthStep_continues (h : 58 < n) (hn : n ≤ 116) : lengthStep n bytes own s = (s, .partly n (zeroTo 58 bytes)) := by
  rw [lengthStep, if_neg (Nat.not_lt.mpr hn), if_pos h]

theorem lengthStep_long (h : 116 < n) : lengthStep n bytes own s = (s, badValue) := if_pos h

end LengthStep

/-! ## LOAD MESSAGE (R20) -/

theorem exec_loadMessage {s : State} (tag slot n : Byte) (text : List Byte) : exec (.loadMessage tag slot n text) s = command tag 0x11
    (slot :: n :: text) (lengthStep (text.length + 2) (slot :: n :: text) (cmdLoadMessage (slot :: n :: text))) s := rfl

section LoadMessage

variable {slot n : Byte} {text : List Byte} {s : State}

theorem cmdLoadMessage_taken {m : Fin 24} (hm : m.val = slot.toNat) (hn : text.length = n.toNat) (h : text.length ≤ 64) :
    cmdLoadMessage (slot :: n :: text) s = ({ s with messages := s.messages.set m text }, done) := by
  rw [cmdLoadMessage, if_pos ⟨hn, h⟩, finOf_eq hm]
  rfl

theorem cmdLoadMessage_badValue (h : 23 < slot.toNat ∨ text.length ≠ n.toNat) : cmdLoadMessage (slot :: n :: text) s = (s, badValue) := by
  rw [cmdLoadMessage]
  split
  · next hn => rw [finOf_none (h.resolve_right (not_not_intro hn.1))]
  · rfl

end LoadMessage

/-! ## BROADCAST (R21) -/

theorem exec_broadcast {s : State} (tag n : Byte) (text : List Byte) : exec (.broadcast tag n text) s =
    command tag 0x12 (n :: text) (lengthStep (text.length + 1) (n :: text) (cmdBroadcast (n :: text))) s := rfl

theorem foldl_notify (m : Fin 24) (v : Int) (ls : List (Fin 32)) (s : State) : ls.foldl (fun s l => notify l m v s) s =
    ls.foldl (fun t l => t.setLine l (Line.request s.now m v (t.line l))) s := by
  suffices h : ∀ t : State, t.now = s.now → ls.foldl (fun s l => notify l m v s) t =
      ls.foldl (fun t l => t.setLine l (Line.request s.now m v (t.line l))) t from h s rfl
  induction ls with
  | nil => exact fun _ _ => rfl
  | cons l ls ih =>
    intro t ht
    rw [List.foldl_cons, List.foldl_cons, notify, State.updLine_eq, ht]
    exact ih _ ht

theorem State.listeners_nodup (s : State) : s.listeners.Nodup := (List.nodup_finRange 32).filter _

theorem State.mem_listeners {s : State} {l : Fin 32} :
    l ∈ s.listeners ↔ (decide ((s.line l).state = .connected) || decide ((s.line l).state = .waiting)) = true := by
  rw [State.listeners, List.mem_filter, allLines, and_iff_right (List.mem_finRange l)]

theorem broadcastTo_eq {ls : List (Fin 32)} (h : ls.Nodup) (s : State) : broadcastTo ls s =
    { s with lines := Vector.ofFn fun l => if l ∈ ls then Line.request s.now 23 0 (s.line l) else s.line l } := by
  rw [broadcastTo, foldl_notify]
  exact foldl_setLine (Line.request s.now 23 0) ls h s

theorem cmdBroadcast_taken {n : Byte} {text : List Byte} (hn : text.length = n.toNat) (h : text.length ≤ 64) (s : State) :
    cmdBroadcast (n :: text) s = ({ s with
      messages := s.messages.set 23 text
      lines := Vector.ofFn fun l => if l ∈ s.listeners then Line.request s.now 23 0 (s.line l) else s.line l },
      .reply .done [byteOf s.listeners.length]) := by
  rw [cmdBroadcast, if_pos ⟨hn, h⟩]
  dsimp only
  rw [broadcastTo_eq (State.listeners_nodup _)]
  rfl

theorem cmdBroadcast_badValue {n : Byte} {text : List Byte} (hn : text.length ≠ n.toNat) (s : State) :
    cmdBroadcast (n :: text) s = (s, badValue) := if_neg (mt And.left hn)

/-- Settles O13: the fields are checked before the table is written; a text too long for one block is kept for its continuation. -/
theorem lineTables : Obligations.LineTables := by
  refine ⟨fun s tag group e f z r t c g a w k m x p hr => ⟨fun n hn hok => ?_, fun hno => ?_⟩,
    fun s tag slot n text hr => ⟨fun m hm hn hlen => ?_, fun hlen hbad => ?_, fun hlen hmax => ?_, fun hlen => ?_⟩,
    fun s tag n text hr => ⟨fun hn hlen => ?_, fun hlen hn => ?_, fun hlen hmax => ?_, fun hlen => ?_⟩⟩
  · exact command_answers hr (by rw [groupRecord_ok hok, cmdLoadGroup_taken hn]; rfl)
  · exact command_answers hr (cmdLoadGroup_badValue (hno.imp_right groupRecord_refused) s)
  · exact command_answers hr (by rw [lengthStep_short (by omega), cmdLoadMessage_taken hm hn (by omega)]; rfl)
  · exact command_answers hr (by rw [lengthStep_short (by omega), cmdLoadMessage_badValue hbad]; rfl)
  · refine (command_continues hr (lengthStep_continues (by omega) (by omega))).trans ?_
    rw [zeroTo_of_ge (by simp only [List.length_cons]; omega)]
    rfl
  · exact command_answers hr (lengthStep_long (by omega))
  · refine ⟨_, command_answers hr (by rw [lengthStep_short (by omega), cmdBroadcast_taken hn (by omega)]), ?_, fun l => ?_⟩
    · rfl
    · refine (State.line_ofFn s _ l).trans ?_
      simp only [State.mem_listeners]
  · exact command_answers hr (by rw [lengthStep_short (by omega), cmdBroadcast_badValue hn]; rfl)
  · refine (command_continues hr (lengthStep_continues (by omega) (by omega))).trans ?_
    rw [zeroTo_of_ge (by simp only [List.length_cons]; omega)]
    rfl
  · exact command_answers hr (lengthStep_long (by omega))

end Sys2Proof.Machine
end

section
/-! Where an admission ends (R84 to R86) and where a line leaves its dialogue (R33), with the end of a drain of the service that this can complete (R191). -/

namespace Sys2Proof.Machine

open Sys2Proof

/-! ## The end of a drain commutes with what it does not read (R191) -/

theorem State.drained_congr {s t : State}
    (h : ∀ l, (t.line l).admission.isNone = (s.line l).admission.isNone ∧ (t.line l).state.inDialogue = (s.line l).state.inDialogue) :
    t.drained = s.drained := by
  unfold State.drained
  simp only [h]

theorem drainEnd_commutes {s : State} {f : State → State}
    (hf : f (s.updMgt fun m => { m with service := .closed }) = (f s).updMgt fun m => { m with service := .closed })
    (hs : (f s).mgt.service = s.mgt.service) (hd : (f s).drained = s.drained) : f (drainEnd s) = drainEnd (f s) := by
  unfold drainEnd
  rw [hs, hd]
  split
  · exact hf
  · rfl

theorem setLine_drainEnd {s : State} {l : Fin 32} {ln : Line} (ha : ln.admission.isNone = (s.line l).admission.isNone)
    (hd : ln.state.inDialogue = (s.line l).state.inDialogue) : (drainEnd s).setLine l ln = drainEnd (s.setLine l ln) := by
  refine drainEnd_commutes (f := fun t => t.setLine l ln) rfl rfl (State.drained_congr fun k => ?_)
  rw [State.setLine_line]
  split
  · next hk => exact hk ▸ ⟨ha, hd⟩
  · exact ⟨rfl, rfl⟩

theorem drainEnd_line (s : State) (l : Fin 32) : (drainEnd s).line l = s.line l := by
  unfold drainEnd
  split <;> rfl

theorem drainEnd_drainEnd (s : State) : drainEnd (drainEnd s) = drainEnd s := by
  by_cases h : s.mgt.service = .draining ∧ s.drained = true
  · have he : drainEnd s = s.updMgt fun m => { m with service := .closed } := if_pos h
    rw [he]
    exact if_neg fun hc => absurd (show Service.closed = .draining from hc.1) (by decide)
  · have he : drainEnd s = s := if_neg h
    rw [he, he]

/-! ## The end of an admission (R84 to R86) -/

/-- R69: one admission less. -/
def Account.left (x : Account) : Account := { x with openCount := x.openCount - 1 }

theorem endLineAdmission_eq {s : State} {l : Fin 32} {a : Admission} (ha : (s.line l).admission = some a) : endLineAdmission l s =
    drainEnd ((s.setAccount a.account (s.account a.account).left).setLine l { s.line l with admission := none }) := by
  rw [endLineAdmission, ha]
  rfl

theorem State.setLine_updLine_setAccount (s : State) (l : Fin 32) (a : Fin 256) (x : Account) (f : Line → Line) (y : Line) :
    ((s.updLine l f).setAccount a x).setLine l y = (s.setAccount a x).setLine l y :=
  State.setLine_setLine (s.setAccount a x) l _ y

theorem Line.enterDraining_eq {ln : Line} (h : ln.state ≠ .connected) (now : Nat) : ln.enterDraining now = ln.draining now := by
  rw [Line.enterDraining, if_neg h]
  rfl

theorem removeRequest_eq {s : State} {l : Fin 32} (h : (s.line l).state = .waiting ∨ (s.line l).state = .offered) :
    removeRequest l s = s.setLine l (Line.draining s.now { s.line l with channel := none }) := by
  have hc : (s.line l).state ≠ .connected := by rcases h with h | h <;> rw [h] <;> decide
  rw [removeRequest, if_pos h, toDraining, State.updLine_eq s l (fun ln => { ln with channel := none }), State.updLine_setLine,
    Line.enterDraining_eq (ln := { s.line l with channel := none }) hc]
  rfl

/-- The line leaves WAITING or OFFERED with its admission: it drains, and so may the service. -/
theorem removeRequest_endLineAdmission {s : State} {l : Fin 32} {a : Admission} (ha : (s.line l).admission = some a)
    (h : (s.line l).state = .waiting ∨ (s.line l).state = .offered) : removeRequest l (endLineAdmission l s) =
    drainEnd ((s.setAccount a.account (s.account a.account).left).setLine l
      (Line.draining s.now { s.line l with admission := none, channel := none })) := by
  rw [endLineAdmission_eq ha, removeRequest_eq (by rw [drainEnd_line, State.setLine_line_same]; exact h), setLine_drainEnd,
    drainEnd_line, State.setLine_line_same, State.setLine_setLine]
  · simp [Line.draining]
  · rw [drainEnd_line, State.setLine_line_same]
    rfl
  · rw [State.setLine_line_same]
    rcases h with h | h <;> rw [h] <;> rfl

theorem notifyIf_line (l : Fin 32) (m : Option (Fin 24)) (s : State) : (notifyIf l m s).line l =
    match m with | some m => Line.request s.now m 0 (s.line l) | none => s.line l := by
  cases m with
  | none => rfl
  | some m => exact State.updLine_line_same ..

/-- R18: what a notice request, if one is made, leaves of the line. -/
def Line.requestIf (now : Nat) (m : Option (Fin 24)) (ln : Line) : Line :=
  match m with
  | some m => Line.request now m 0 ln
  | none => ln

theorem notifyIf_eq (l : Fin 32) (m : Option (Fin 24)) (s : State) : notifyIf l m s = s.setLine l ((s.line l).requestIf s.now m) := by
  cases m with
  | none => exact (State.setLine_self s l).symm
  | some m => rfl

@[simp] theorem Line.requestIf_state (now : Nat) (m : Option (Fin 24)) (ln : Line) : (ln.requestIf now m).state = ln.state := by
  cases m <;> simp [Line.requestIf]

@[simp] theorem Line.requestIf_admission (now : Nat) (m : Option (Fin 24)) (ln : Line) : (ln.requestIf now m).admission = ln.admission := by
  cases m <;> simp [Line.requestIf]

/-! ## A waiter leaves (R128, R129) -/

theorem State.waiter_of_mem {s : State} {l : Fin 32} (h : ∃ w ∈ s.queue, w.line = l) : ∃ w, s.waiter l = some w := by
  obtain ⟨w, hw, hl⟩ := h
  exact Option.isSome_iff_exists.mp (List.find?_isSome.mpr ⟨w, hw, decide_eq_true hl⟩)

section Waiter

variable {s : State} {l : Fin 32} {a : Admission} (hw : ∃ w ∈ s.queue, w.line = l) (ha : (s.line l).admission = some a) (m : Option (Fin 24))

include hw ha

/-- R10: the line supervisor clears the line itself. -/
theorem removeWaiter_stays : removeWaiter l m false s = drainEnd (((leaveQueue l s).setAccount a.account (s.account a.account).left).setLine l
    { (s.line l).requestIf s.now m with admission := none }) := by
  obtain ⟨w, hw⟩ := State.waiter_of_mem hw
  rw [removeWaiter, hw]
  dsimp only
  rw [if_neg Bool.false_ne_true, notifyIf_eq, endLineAdmission_eq (a := a) (by rw [State.setLine_line_same]; exact (Line.requestIf_admission ..).trans ha),
    State.setLine_line_same]
  exact congrArg drainEnd (State.setLine_setLine ((leaveQueue l s).setAccount a.account (s.account a.account).left) l _ _)

theorem removeWaiter_drains (hl : (s.line l).state = .waiting) : removeWaiter l m true s =
    drainEnd (((leaveQueue l s).setAccount a.account (s.account a.account).left).setLine l
      (Line.draining s.now { (s.line l).requestIf s.now m with admission := none, channel := none })) := by
  obtain ⟨w, hw⟩ := State.waiter_of_mem hw
  rw [removeWaiter, hw]
  dsimp only
  rw [if_pos rfl, notifyIf_eq, removeRequest_endLineAdmission (a := a) (by rw [State.setLine_line_same]; exact (Line.requestIf_admission ..).trans ha)
    (.inl (by rw [State.setLine_line_same]; exact (Line.requestIf_state ..).trans hl)), State.setLine_line_same]
  exact congrArg drainEnd (State.setLine_setLine ((leaveQueue l s).setAccount a.account (s.account a.account).left) l _ _)

end Waiter

/-! ## The end of a dialogue (R26, R33) -/

/-- R26: the line whose dialogue ends. -/
def Line.silenced (ln : Line) : Line := { ln with dialogue := ln.dialogue.ended }

theorem LineState.inDialogue_iff (st : LineState) : st.inDialogue = true ↔ st ∈ [LineState.signon, .checking] := by
  cases st <;> decide

theorem refuseRequest_eq {s : State} {l : Fin 32} (h : (s.line l).state.inDialogue = true) :
    refuseRequest l s = drainEnd (s.setLine l ((s.line l).draining s.now)) := by
  have hc : (s.line l).state ≠ .connected := fun e => by rw [e] at h; exact absurd h (by decide)
  rw [refuseRequest, if_pos h, toDraining, State.updLine_eq, Line.enterDraining_eq hc]

/-- Section 2.6: a refusal line, the end of the dialogue, and DRAINING. -/
theorem refuseCall_eq {s : State} {l : Fin 32} (h : (s.line l).state.inDialogue = true) (m : Fin 24) : refuseCall l m s =
    drainEnd (s.setLine l (((s.line l).placeAll (framedText (s.message m))).silenced.draining s.now)) := by
  have hline : endDialogue l (placeMessage l m s) = s.setLine l ((s.line l).placeAll (framedText (s.message m))).silenced := by
    rw [endDialogue, placeMessage, State.updLine_eq s, State.updLine_setLine]
    rfl
  rw [refuseCall, hline, refuseRequest_eq, State.setLine_line_same, State.setLine_setLine, State.setLine_now]
  rw [State.setLine_line_same]
  exact (congrArg LineState.inDialogue (Line.placeAll_state ..)).trans h

theorem Line.refused_eq (ln : Line) (text : List Byte) : (ln.placeAll (framedText text)).silenced =
    ln.refused text (if ln.dialogue.lookup = .inFlight then .discarded else ln.dialogue.lookup) := by
  rw [Line.silenced, Line.placeAll_dialogue, Line.refused]
  simp only [Dialogue.ended]

theorem abandon_quiet {s : State} {l : Fin 32} (h : (s.line l).state.inDialogue = true) :
    abandon l none s = drainEnd (s.setLine l ((s.line l).silenced.draining s.now)) := by
  rw [abandon, if_pos h, endDialogue, State.updLine_eq, refuseRequest_eq (by rw [State.setLine_line_same]; exact h), State.setLine_line_same, State.setLine_setLine]
  rfl

end Sys2Proof.Machine
end

section
/-! The sign-on dialogue: its prompts and fields (R28 to R31), its end before an admission (R32, R35), and the calls cleared at carrier loss and by FORCE CLEAR (R10, R15). -/

namespace Sys2Proof.Machine

open Sys2Proof

/-! ## Prompts (R28) -/

theorem tryPrompt_user {s : State} {l : Fin 32} (htx : (s.line l).tx = []) (hs : (s.line l).sending = none)
    (hp : (s.line l).dialogue.phase = .announce ∨ (s.line l).dialogue.phase = .userPrompt) : tryPrompt l s =
    s.setLine l { (s.line l).placeAll (promptText (s.message 1)) with dialogue := { (s.line l).dialogue with phase := .user } } := by
  unfold tryPrompt
  dsimp only
  rw [if_pos ⟨htx, hs⟩]
  rcases hp with hp | hp <;> rw [hp]

theorem tryPrompt_password {s : State} {l : Fin 32} (htx : (s.line l).tx = []) (hs : (s.line l).sending = none)
    (hp : (s.line l).dialogue.phase = .passwordPrompt) : tryPrompt l s =
    s.setLine l { (s.line l).placeAll (promptText (s.message 2)) with dialogue := { (s.line l).dialogue with phase := .password } } := by
  unfold tryPrompt
  dsimp only
  rw [if_pos ⟨htx, hs⟩, hp]

theorem tryPrompt_occupied {s : State} {l : Fin 32} (h : (s.line l).tx ≠ [] ∨ (s.line l).sending ≠ none) : tryPrompt l s = s :=
  if_neg fun ⟨htx, hs⟩ => h.elim (fun h => h htx) fun h => h hs

theorem tryPrompt_noPrompt {s : State} {l : Fin 32} (h : (s.line l).dialogue.phase ∉ [Phase.announce, .userPrompt, .passwordPrompt]) :
    tryPrompt l s = s := by
  unfold tryPrompt
  dsimp only
  split
  · cases hp : (s.line l).dialogue.phase <;> rw [hp] at h
    case announce | userPrompt | passwordPrompt => exact absurd (by decide) h
  · rfl

/-! ## Fields (R29, R30) -/

section Characters

variable {f : List Byte} {c : Byte}

theorem byte_eq {n : Byte} (h : c.toNat = n.toNat) : c = n := BitVec.eq_of_toNat_eq h

theorem userField_cr (h : c.toNat = 0x0D) : userField f c = (f, if f = [] then .userPrompt else .passwordPrompt, []) :=
  if_pos (byte_eq (n := 0x0D) h)

theorem erases_iff : (c = Config.bs ∨ c = Config.del) ↔ c.toNat = 0x08 ∨ c.toNat = 0x7F :=
  ⟨fun h => by rcases h with rfl | rfl; exacts [.inl rfl, .inr rfl], fun h => h.imp (byte_eq (n := 0x08)) (byte_eq (n := 0x7F))⟩

theorem ne_cr (h : c.toNat ≠ 0x0D) : c ≠ Config.cr := fun e => h (e ▸ rfl)

theorem userField_erase (h : c.toNat = 0x08 ∨ c.toNat = 0x7F) : userField f c =
    if f = [] then (f, .user, []) else (f.dropLast, .user, [0x08, 0x20, 0x08]) := by
  have hcr : c ≠ Config.cr := ne_cr (by omega)
  rw [userField, if_neg hcr, if_pos (erases_iff.mpr h)]

theorem userField_other (hcr : c.toNat ≠ 0x0D) (he : ¬ (c.toNat = 0x08 ∨ c.toNat = 0x7F)) : userField f c =
    if isCodeChar (fold c) then if f.length < 6 then (f ++ [fold c], .user, [fold c]) else (f, .user, []) else (f, .user, []) := by
  rw [userField, if_neg (ne_cr hcr), if_neg (mt erases_iff.mp he)]

theorem fold_lower (h : 0x61 ≤ c.toNat ∧ c.toNat ≤ 0x7A) : fold c = BitVec.ofNat 8 (c.toNat - 0x20) := by
  rw [fold, if_pos h]
  refine BitVec.eq_of_toNat_eq ?_
  simp only [BitVec.toNat_sub, BitVec.toNat_ofNat, show (0x20 : Byte).toNat = 32 from rfl]
  omega

theorem fold_other (h : ¬ (0x61 ≤ c.toNat ∧ c.toNat ≤ 0x7A)) : fold c = c := if_neg h

theorem passwordField_erase (h : c.toNat = 0x08 ∨ c.toNat = 0x7F) : passwordField f c = f.dropLast := if_pos (erases_iff.mpr h)

theorem passwordField_other (h : ¬ (c.toNat = 0x08 ∨ c.toNat = 0x7F)) :
    passwordField f c = if (0x21 ≤ c.toNat ∧ c.toNat ≤ 0x7E) ∧ f.length < 8 then f ++ [c] else f := by
  rw [passwordField, if_neg (mt erases_iff.mp h)]
  simp only [isPasswordChar_iff]

end Characters

/-! ## Characters in a dialogue (R28 to R31) -/

theorem dialogueChar_user {s : State} {l : Fin 32} (h : (s.line l).dialogue.phase = .user) (c : Byte) :
    dialogueChar l c s = takeUserChar l (strip c) s := by
  rw [dialogueChar, h]

theorem dialogueChar_password {s : State} {l : Fin 32} (h : (s.line l).dialogue.phase = .password) (c : Byte) :
    dialogueChar l c s = takePasswordChar l (strip c) s := by
  rw [dialogueChar, h]

/-- R29: a character that leaves phase USER leaves no prompt to be placed. -/
theorem takeUserChar_stays {s : State} {l : Fin 32} (h : (s.line l).dialogue.phase = .user) {c : Byte} {f echo : List Byte}
    (hf : userField (s.line l).dialogue.user c = (f, .user, echo)) : takeUserChar l c s =
    s.setLine l { (s.line l).placeAll echo with dialogue := { (s.line l).dialogue with user := f } } := by
  have hd : ({ (s.line l).dialogue with user := f, phase := .user } : Dialogue) = { (s.line l).dialogue with user := f } := by rw [← h]
  unfold takeUserChar
  dsimp only
  rw [hf, tryPrompt_noPrompt]
  · rw [State.updLine_eq]
    simp only [hd]
  · rw [State.updLine_line_same]
    exact (by decide : Phase.user ∉ [Phase.announce, .userPrompt, .passwordPrompt])

theorem takeUserChar_nothing {s : State} {l : Fin 32} (h : (s.line l).dialogue.phase = .user) {c : Byte}
    (hf : userField (s.line l).dialogue.user c = ((s.line l).dialogue.user, .user, [])) : takeUserChar l c s = s := by
  rw [takeUserChar_stays h hf]
  exact State.setLine_self s l

theorem takeUserChar_cr {s : State} {l : Fin 32} {c : Byte} (h : c.toNat = 0x0D) : takeUserChar l c s =
    tryPrompt l (s.setLine l { s.line l with dialogue := { (s.line l).dialogue with
      phase := if (s.line l).dialogue.user = [] then .userPrompt else .passwordPrompt } }) := by
  unfold takeUserChar
  rw [userField_cr h]
  rfl

theorem takePasswordChar_field {s : State} {l : Fin 32} {c : Byte} (h : c.toNat ≠ 0x0D) : takePasswordChar l c s =
    s.setLine l { s.line l with dialogue := { (s.line l).dialogue with password := passwordField (s.line l).dialogue.password c } } :=
  if_neg (ne_cr h)

theorem Directory.defers_iff (d : Directory) (code : List Byte) : d.defers code = true ↔ d.DefersCode code := by
  unfold Directory.defers Directory.DefersCode
  split
  · next p hw hp =>
    rw [hw, hp]
    simp only [Bool.or_eq_true, List.any_eq_true, decide_eq_true_eq, List.mem_range, true_and, Option.some.injEq, exists_eq_left']
  · next hno =>
    refine ⟨fun h => absurd h Bool.false_ne_true, fun ⟨hw, p, hp, _⟩ => ?_⟩
    exact absurd hp (hno p hw)

/-- Settles O14: the prompts are those of `tryPrompt`, the fields those of `userField` and `passwordField`. -/
theorem dialogueFields : Obligations.DialogueFields := by
  refine ⟨fun s l hr hl => ⟨fun htx hs => ⟨fun hp => ?_, fun hp => ?_⟩, fun h => ?_⟩, fun s l c hr hl hp => ?_, fun s l c hr hl hp => ?_⟩
  · rw [exec_prompt hr hl, tryPrompt_user htx hs hp]
    rfl
  · rw [exec_prompt hr hl, tryPrompt_password htx hs hp]
    rfl
  · rw [exec_prompt hr hl]
    rcases h with h | h | h
    · rw [tryPrompt_occupied (.inl h)]
    · rw [tryPrompt_occupied (.inr h)]
    · rw [tryPrompt_noPrompt h]
  · intro d n letter take
    have hstrip : (strip c).toNat = n := rfl
    have hchar : BitVec.ofNat 8 n = strip c := by rw [← hstrip, BitVec.ofNat_toNat, BitVec.setWidth_eq]
    rw [exec_characterReceived_signon hr hl, dialogueChar_user hp]
    refine ⟨fun h => ?cr, fun h hd => ?eraseNothing, fun h hd => ?erase, fun h hlen => ?upper, fun h hlen => ?lower, fun h hlen => ?full,
      fun h1 h2 h3 h4 h5 => ?other⟩
    case cr =>
      rw [takeUserChar_cr (c := strip c) h]
      exact (exec_prompt (s := s.setLine l _) hr (by rw [State.setLine_line_same]; exact hl)).symm
    case eraseNothing => rw [takeUserChar_nothing hp ((userField_erase (c := strip c) h).trans (if_pos hd))]
    case erase => rw [takeUserChar_stays hp ((userField_erase (c := strip c) h).trans (if_neg hd))]
    case upper =>
      have hfold : fold (strip c) = strip c := fold_other (c := strip c) (by omega)
      rw [takeUserChar_stays hp (by
        rw [userField_other (c := strip c) (by omega) (by omega), hfold, if_pos (isCodeChar_iff (c := strip c) |>.mpr h), if_pos hlen]), hchar]
    case lower =>
      have hfold := fold_lower (c := strip c) h
      have hcode : isCodeChar (fold (strip c)) = true := by
        rw [hfold]
        refine isCodeChar_iff.mpr (.inl ?_)
        rw [BitVec.toNat_ofNat]
        omega
      rw [takeUserChar_stays hp (by rw [userField_other (c := strip c) (by omega) (by omega), if_pos hcode, if_pos hlen]), hfold]
      rfl
    case full =>
      rw [takeUserChar_nothing hp (by
        rw [userField_other (c := strip c) (by omega) (by omega), if_neg (Nat.not_lt.mpr hlen)]
        exact ite_self _)]
    case other =>
      have hfold : fold (strip c) = strip c := fold_other (c := strip c) h5
      rw [takeUserChar_nothing hp (by rw [userField_other (c := strip c) h1 (by omega), hfold, if_neg (mt (isCodeChar_iff (c := strip c)).mp h4)])]
  · intro d n code
    have hstrip : (strip c).toNat = n := rfl
    have hchar : BitVec.ofNat 8 n = strip c := by rw [← hstrip, BitVec.ofNat_toNat, BitVec.setWidth_eq]
    rw [exec_characterReceived_signon hr hl, dialogueChar_password hp]
    refine ⟨fun h => ⟨s.dir.defers code, Directory.defers_iff .., ?cr⟩, fun h => ?erase, fun h hlen => ?taken, fun h hlen => ?full, fun h1 h2 h3 => ?other⟩
    case cr => exact congrArg Host.Outcome.next (if_pos (byte_eq (c := strip c) (n := 0x0D) h))
    case erase => rw [takePasswordChar_field (c := strip c) (by omega), passwordField_erase (c := strip c) h]
    all_goals rw [takePasswordChar_field (c := strip c) (by omega)]
    case taken => rw [passwordField_other (c := strip c) (by omega), if_pos ⟨h, hlen⟩, hchar]
    case full =>
      rw [passwordField_other (c := strip c) (by omega), if_neg fun hf => Nat.not_lt.mpr hlen hf.2]
      exact congrArg Host.Outcome.next (State.setLine_self s l)
    case other =>
      rw [passwordField_other (c := strip c) (by omega), if_neg (by omega)]
      exact congrArg Host.Outcome.next (State.setLine_self s l)

/-! ## The end of a dialogue (R32, R35) -/

theorem exec_signOnTimerExpiry {s : State} (h : s.inReset = false) {l : Fin 32} (hl : (s.line l).state.inDialogue = true) {d : Nat}
    (hd : (s.line l).timers.signOn = some d) : exec (.signOnTimerExpiry l) s = .next (refuseCall l 22 { s with now := max s.now d }) := by
  refine ((whenRunning_run h _).trans (congrArg Host.Outcome.next (if_pos hl))).trans ?_
  rw [hd, whenDue_some]

theorem exec_lookupCompletion_waits {s : State} (h : s.inReset = false) {l : Fin 32}
    (hw : (s.line l).dialogue.deferred = true ∨ (s.line l).dialogue.lookup = .none) : exec (.lookupCompletion l) s = .next s := by
  dsimp only [exec, execLookupCompletion]
  rw [whenRunning_run h]
  split
  · rfl
  · next hd => rw [hw.resolve_left hd]

theorem exec_lookupCompletion_discarded {s : State} (h : s.inReset = false) {l : Fin 32} (hd : (s.line l).dialogue.deferred = false)
    (hlk : (s.line l).dialogue.lookup = .discarded) : exec (.lookupCompletion l) s = .next (clearLookup l s) := by
  dsimp only [exec, execLookupCompletion]
  rw [whenRunning_run h, hd, if_neg Bool.false_ne_true, hlk]

/-- Settles O15: the expiry is the refusal of a call with M22; a completion reads the lookup field alone. -/
theorem dialogueCutShort : Obligations.DialogueCutShort := by
  refine ⟨fun s l d hr hl hd => ?_, fun s l hr => ⟨fun hd hlk => ?_, exec_lookupCompletion_waits hr⟩⟩
  · have hin := (LineState.inDialogue_iff _).mpr hl
    rw [exec_signOnTimerExpiry hr hin hd, refuseCall_eq (s := { s with now := max s.now d }) hin, Line.refused_eq]
    rfl
  · rw [exec_lookupCompletion_discarded hr hd hlk, clearLookup, State.updLine_eq]
    simp only [← hd]

/-! ## Carrier loss and FORCE CLEAR (R10, R15) -/

theorem exec_carrierLoss {s : State} (h : s.inReset = false) {l : Fin 32} {d : Nat} (hd : (s.line l).timers.carrier = some d) :
    exec (.carrierLoss l) s = .next (loseCarrier l { s with now := max s.now d }) := by
  dsimp only [exec, execCarrierLoss]
  rw [whenRunning_run h, hd, whenDue_some]

theorem toClearing_eq (l : Fin 32) (s : State) : toClearing l s = s.setLine l ((s.line l).clearing s.now) := rfl

section LoseCarrier

variable {s : State} {l : Fin 32}

theorem loseCarrier_dialogue (h : (s.line l).state.inDialogue = true) :
    loseCarrier l s = drainEnd (s.setLine l ((s.line l).silenced.clearing s.now)) := by
  have hlose : loseCarrier l s = drainEnd (toClearing l (endDialogue l s)) := by
    unfold loseCarrier
    rcases List.mem_pair.mp ((LineState.inDialogue_iff _).mp h) with h | h <;> rw [h]
  rw [hlose, endDialogue, State.updLine_eq, toClearing_eq, State.setLine_line_same, State.setLine_setLine]
  rfl

theorem loseCarrier_waiter {a : Admission} (hl : (s.line l).state = .waiting) (hw : ∃ w ∈ s.queue, w.line = l)
    (ha : (s.line l).admission = some a) : loseCarrier l s =
    drainEnd (((leaveQueue l s).setAccount a.account (s.account a.account).left).setLine l
      (Line.clearing s.now { s.line l with admission := none })) := by
  have hlose : loseCarrier l s = toClearing l (removeWaiter l none false s) := by
    unfold loseCarrier
    rw [hl]
  rw [hlose, removeWaiter_stays hw ha, toClearing_eq, setLine_drainEnd, drainEnd_line, State.setLine_line_same, State.setLine_setLine]
  · simp [Line.requestIf]
  · rw [drainEnd_line, State.setLine_line_same]
    rfl
  · rw [drainEnd_line, State.setLine_line_same]
    exact (congrArg LineState.inDialogue hl).symm

theorem loseCarrier_draining (hl : (s.line l).state = .draining) : loseCarrier l s = s.setLine l ((s.line l).clearing s.now) := by
  unfold loseCarrier
  rw [hl]
  rfl

end LoseCarrier

theorem exec_forceClear {s : State} (tag line : Byte) : exec (.forceClear tag line) s = command tag 0x15 [line] (cmdForceClear line) s := rfl

section ForceClear

variable {s : State} {l : Fin 32} {line : Byte} (hline : l.val = line.toNat)

include hline

theorem cmdForceClear_dialogue (h : (s.line l).state.inDialogue = true) : cmdForceClear line s = (abandon l none s, done) := by
  unfold cmdForceClear
  rw [finOf_eq hline]
  dsimp only
  rcases List.mem_pair.mp ((LineState.inDialogue_iff _).mp h) with h | h <;> rw [h]

theorem cmdForceClear_waiting (h : (s.line l).state = .waiting) : cmdForceClear line s = (removeWaiter l none true s, done) := by
  unfold cmdForceClear
  rw [finOf_eq hline]
  dsimp only
  rw [h]

theorem cmdForceClear_badState (h : (s.line l).state ∈ [LineState.idle, .ringing, .answering, .draining, .clearing, .blocked]) :
    cmdForceClear line s = (s, badState) := by
  unfold cmdForceClear
  rw [finOf_eq hline]
  dsimp only
  cases hs : (s.line l).state <;> rw [hs] at h
  case signon | checking | waiting | offered | connected => exact absurd h (by decide)

end ForceClear

theorem cmdForceClear_badValue {line : Byte} (h : 31 < line.toNat) (s : State) : cmdForceClear line s = (s, badValue) := by
  unfold cmdForceClear
  rw [finOf_none h]

/-- Settles O18: a call is cleared by the block that holds it, and the end of a drain comes last. -/
theorem callCleared : Obligations.CallCleared := by
  refine ⟨fun s l d hr hd => ⟨fun hl => ?_, fun a hl hw ha => ?_, fun hl => ?_⟩,
    fun s tag line hr => ⟨fun h => command_answers hr (cmdForceClear_badValue h s), fun l hline => ⟨fun hl => ?_, fun a hl hw ha => ?_, fun hl => ?_⟩⟩⟩
  · rw [exec_carrierLoss hr hd, loseCarrier_dialogue (s := { s with now := max s.now d }) ((LineState.inDialogue_iff _).mpr hl)]
    rfl
  · rw [exec_carrierLoss hr hd, loseCarrier_waiter (s := { s with now := max s.now d }) hl hw ha]
    rfl
  · rw [exec_carrierLoss hr hd, loseCarrier_draining (s := { s with now := max s.now d }) hl]
    rfl
  · have hin := (LineState.inDialogue_iff _).mpr hl
    exact command_answers hr (by rw [cmdForceClear_dialogue hline hin, abandon_quiet hin]; rfl)
  · exact command_answers hr (by rw [cmdForceClear_waiting hline hl, removeWaiter_drains hw ha none hl]; rfl)
  · exact command_answers hr (cmdForceClear_badState hline hl)

end Sys2Proof.Machine
end

section
/-! The channel allocator: grants (R131, R132), the end of an offer (R135 to R137), downward controls (R134 to R141, R178), the waiters' timers (R127, R128) and the causes of a close (R10, R15, R17, R116, R119, R138). -/

namespace Sys2Proof.Machine

open Sys2Proof

/-! ## Grants (R131, R132) -/

theorem State.exchangePending_eq_false {s : State} {c : Fin 24} :
    s.exchangePending c = false ↔ ∀ x ∈ s.trunk.controls, x.channel = c → x.kind.slot ≠ 0 := by
  simp only [State.exchangePending, List.any_eq_false, Bool.and_eq_true, decide_eq_true_eq, not_and, ne_eq]

theorem State.usable_iff {s : State} {p : Bool} {c : Fin 24} : s.usable p c = true ↔ (s.channel c).state = .free ∧
    (∀ x ∈ s.trunk.controls, x.channel = c → x.kind.slot ≠ 0) ∧ ((s.channel c).priorityOnly = true → p = true) := by
  rw [← State.exchangePending_eq_false]
  simp only [State.usable, Bool.and_eq_true, decide_eq_true_eq, Bool.not_eq_true', Bool.or_eq_true, and_assoc]
  cases (s.channel c).priorityOnly <;> simp

theorem Row.isFree_iff {x : Row} : x.isFree = true ↔ x = .free := by
  cases x <;> simp [Row.isFree]

theorem exec_grant {s : State} (h : s.inReset = false) {w : Waiter} {c : Fin 24} {r : Fin 64} {a : Admission} (hg : s.grantable = some (w, c, r))
    (ha : (s.line w.line).admission = some a) : exec .grant s = .next (grantTo w.line a c r s) := by
  dsimp only [exec, execGrant]
  rw [whenRunning_run h, hg]
  dsimp only
  rw [ha]

theorem exec_grant_none {s : State} (h : s.inReset = false) (hg : s.grantable = none) : exec .grant s = .next s := by
  dsimp only [exec, execGrant]
  rw [whenRunning_run h, hg]

theorem State.grantable_eq {s : State} {w : Waiter} {rest : List Waiter} (hq : s.queue = w :: rest) {c : Fin 24} (hc : s.usable w.priority c = true)
    (hc1 : ∀ j, j < c → s.usable w.priority j = false) {r : Fin 64} (hr : s.row r = .free) (hr1 : ∀ j, j < r → s.row j ≠ .free) :
    s.grantable = some (w, c, r) := by
  have hrow : allRows.find? (fun r => (s.row r).isFree) = some r := find_finRange_eq_some (Row.isFree_iff.mpr hr) fun j hj =>
    Bool.eq_false_iff.mpr (mt Row.isFree_iff.mp (hr1 j hj))
  have hchannel : allChannels.find? (s.usable w.priority) = some c := find_finRange_eq_some hc hc1
  rw [State.grantable, hq]
  dsimp only
  rw [hrow, hchannel]

theorem State.grantable_noChannel {s : State} {w : Waiter} {rest : List Waiter} (hq : s.queue = w :: rest)
    (h : ∀ c, s.usable w.priority c = false) : s.grantable = none := by
  have hchannel : allChannels.find? (s.usable w.priority) = none := find_finRange_eq_none h
  rw [State.grantable, hq]
  dsimp only
  rw [hchannel]

theorem State.grantable_noRow {s : State} (h : ∀ r, s.row r ≠ .free) : s.grantable = none := by
  have hrow : allRows.find? (fun r => (s.row r).isFree) = none := find_finRange_eq_none fun r =>
    Bool.eq_false_iff.mpr (mt Row.isFree_iff.mp (h r))
  rw [State.grantable]
  split
  · rfl
  · rw [hrow]
    cases allChannels.find? _ <;> rfl

theorem State.grantable_noWaiter {s : State} (h : s.queue = []) : s.grantable = none := by
  rw [State.grantable, h]

theorem grantRequest_eq {s : State} {l : Fin 32} (h : (s.line l).state = .waiting) (c : Fin 24) :
    grantRequest l c s = s.setLine l { s.line l with state := .offered, channel := some c } := if_pos h

theorem State.updChannel_of {t : State} {c : Fin 24} {x : Channel} (h : t.channel c = x) (f : Channel → Channel) :
    t.updChannel c f = t.setChannel c (f x) := by
  rw [State.updChannel_eq, h]

theorem leaveQueue_split {s : State} {l : Fin 32} {ahead behind : List Waiter} {w : Waiter} (hq : s.queue = ahead ++ w :: behind) (hw : w.line = l)
    (ha : ∀ v ∈ ahead, v.line ≠ l) (hb : ∀ v ∈ behind, v.line ≠ l) : leaveQueue l s = { s with queue := ahead ++ behind } := by
  have hkept : ∀ q : List Waiter, (∀ v ∈ q, v.line ≠ l) → (q.filter fun v => !decide (v.line = l)) = q := fun q h =>
    List.filter_eq_self.mpr fun v hv => by rw [decide_eq_false (h v hv), Bool.not_false]
  rw [leaveQueue, hq, List.filter_append, List.filter_cons_of_neg (by rw [hw]; simp), hkept ahead ha, hkept behind hb]

/-- R132: the grant, its control new in the queue. -/
theorem grantTo_eq {s : State} {l : Fin 32} {a : Admission} {c : Fin 24} (r : Fin 64) (hl : (s.line l).state = .waiting)
    (hx : ∀ x ∈ s.trunk.controls, x.channel = c → x.kind.slot ≠ 0) : grantTo l a c r s = { leaveQueue l s with
      lines := s.lines.set l { s.line l with state := .offered, channel := some c }
      channels := s.channels.set c { s.channel c with
        state := .offered, line := some l, row := some r, timer := some (s.now + s.params.offer * 10) }
      tickets := { s.tickets with rows := s.tickets.rows.set r (.reserved ⟨c, l, a.user, a.account, a.cls, none⟩) }
      trunk := { s.trunk with controls := s.trunk.controls ++ [⟨c, .opened l a.user a.account a.cls⟩] } } := by
  have hjoin : joinControls s.trunk.controls ⟨c, .opened l a.user a.account a.cls⟩ =
      s.trunk.controls ++ [⟨c, .opened l a.user a.account a.cls⟩] :=
    joinControls_fresh fun x hm e => hx x hm (Prod.mk.inj e).1 (Prod.mk.inj e).2
  let u := reserveRow r c l a (leaveQueue l s)
  let k : ControlKind := .opened l a.user a.account a.cls
  let x : Channel := { s.channel c with state := .offered, line := some l, row := some r }
  let y : Line := { s.line l with state := .offered, channel := some c }
  let timed (x : Channel) : Channel := { x with timer := some (s.now + s.params.offer * 10) }
  calc grantTo l a c r s
    _ = (let t := handControl c k (grantRequest l c (u.setChannel c x))
        t.updChannel c fun x => { x with timer := t.after (t.params.offer * Config.second) }) := rfl
    _ = (handControl c k ((u.setChannel c x).setLine l y)).updChannel c timed := by
        rw [grantRequest_eq (s := u.setChannel c x) hl]
        rfl
    _ = (handControl c k ((u.setChannel c x).setLine l y)).setChannel c (timed x) :=
        State.updChannel_of (t := handControl c k ((u.setChannel c x).setLine l y)) (State.setChannel_channel_same u c x) timed
    _ = (handControl c k (u.setLine l y)).setChannel c (timed x) := State.setChannel_setChannel (handControl c k (u.setLine l y)) c x _
    _ = _ := by
        rw [← hjoin]
        rfl

/-- Settles O34: the first waiter, the lowest usable channel and the lowest free row. -/
theorem grant : Obligations.Grant := by
  intro s hr usable
  have husable : ∀ w c, s.usable w.priority c = true ↔ usable w c := fun w c => State.usable_iff
  have hunusable : ∀ w c, ¬ usable w c → s.usable w.priority c = false := fun w c h => Bool.eq_false_iff.mpr (mt (husable w c).mp h)
  refine ⟨fun w rest hq hl hrest a ha c hc hc1 r hfree hr1 => ?_, fun hq => ?_, fun w rest hq h => ?_, fun h => ?_⟩
  · have hg := State.grantable_eq hq ((husable w c).mpr hc) (fun j hj => hunusable w j (hc1 j hj)) hfree hr1
    have hleave : leaveQueue w.line s = { s with queue := rest } := leaveQueue_split (ahead := []) hq rfl (fun _ h => absurd h List.not_mem_nil) hrest
    rw [exec_grant hr hg ha, grantTo_eq r hl hc.2.1, hleave]
  · exact exec_grant_none hr (State.grantable_noWaiter hq)
  · exact exec_grant_none hr (State.grantable_noChannel hq fun c => hunusable w c (h c))
  · exact exec_grant_none hr (State.grantable_noRow h)

/-! ## The end of an offer (R135 to R137) -/

theorem Line.request_gone (now : Nat) (m : Fin 24) (v : Int) (ln : Line) :
    Line.request now m v { ln with admission := none } = { Line.request now m v ln with admission := none } := by
  unfold Line.request
  dsimp only
  split <;> rfl

theorem Line.requestIf_gone (now : Nat) (m : Option (Fin 24)) (ln : Line) :
    Line.requestIf now m { ln with admission := none } = { ln.requestIf now m with admission := none } := by
  cases m with
  | none => rfl
  | some m => exact Line.request_gone ..

section EndOffer

variable {s : State} {c : Fin 24} {l : Fin 32} {r : Fin 64} {a : Admission} {x : Reservation}
  (hcl : (s.channel c).line = some l) (hcr : (s.channel c).row = some r) (hx : s.row r = .reserved x) (hxc : x.channel = c)
  (hl : (s.line l).state = .offered) (ha : (s.line l).admission = some a) (m : Option (Fin 24))

include hcr hx hxc in
theorem offerRowFreed_eq : offerRowFreed c s = s.setRow r .free := by
  unfold offerRowFreed freeRow
  rw [hcr]
  dsimp only
  rw [hx]
  exact if_pos hxc

/-- The state of an offer that ended, its line replaced by `ln`. -/
def State.offerGone (s : State) (l : Fin 32) (r : Fin 64) (a : Admission) (ln : Line) : State :=
  ((s.setRow r .free).setAccount a.account (s.account a.account).left).setLine l ln

include ha in
theorem notifyIf_endLineAdmission : notifyIf l m (endLineAdmission l (s.setRow r .free)) =
    drainEnd (s.offerGone l r a { (s.line l).requestIf s.now m with admission := none }) := by
  have hnow : ∀ t : State, (drainEnd t).now = t.now := fun t => (drainEnd_frame t).2.2.1
  rw [endLineAdmission_eq (a := a) (by exact ha), notifyIf_eq, hnow, drainEnd_line, State.setLine_line_same, setLine_drainEnd,
    State.setLine_setLine, Line.requestIf_gone]
  · rfl
  · rw [State.setLine_line_same, Line.requestIf_admission]
  · rw [State.setLine_line_same, Line.requestIf_state]

theorem State.offerGone_line (ln : Line) : (s.offerGone l r a ln).line l = ln := State.setLine_line_same ..

theorem State.offerGone_setLine (x y : Line) : (s.offerGone l r a x).setLine l y = s.offerGone l r a y := State.setLine_setLine ..

include hcl hcr hx hxc ha

include hl in
theorem endOffer_drains : endOffer c m true s =
    drainEnd (s.offerGone l r a (Line.draining s.now { (s.line l).requestIf s.now m with admission := none, channel := none })) := by
  have hcl' : ((s.setRow r .free).channel c).line = some l := hcl
  rw [endOffer_parts, offerRowFreed_eq hcr hx hxc, offerLineLeaves, hcl']
  dsimp only
  rw [if_pos rfl, notifyIf_endLineAdmission ha, removeRequest_eq, setLine_drainEnd, drainEnd_line, State.offerGone_line, State.offerGone_setLine]
  · exact congrArg (fun n => drainEnd (s.offerGone l r a (Line.draining n { (s.line l).requestIf s.now m with admission := none, channel := none })))
      (drainEnd_frame _).2.2.1
  · rw [drainEnd_line]
    rfl
  · rw [State.offerGone_line]
    exact (congrArg LineState.inDialogue ((Line.requestIf_state ..).trans hl)).symm
  · rw [drainEnd_line, State.offerGone_line]
    exact .inr ((Line.requestIf_state ..).trans hl)

theorem endOffer_stays : endOffer c m false s =
    drainEnd (s.offerGone l r a { (s.line l).requestIf s.now m with admission := none, channel := none }) := by
  have hcl' : ((s.setRow r .free).channel c).line = some l := hcl
  rw [endOffer_parts, offerRowFreed_eq hcr hx hxc, offerLineLeaves, hcl']
  dsimp only
  rw [if_neg Bool.false_ne_true, notifyIf_endLineAdmission ha, State.updLine_eq, drainEnd_line, State.offerGone_line, setLine_drainEnd,
    State.offerGone_setLine]
  · rw [State.offerGone_line]
  · rw [State.offerGone_line]

end EndOffer

/-! ## The answers to an offer (R135 to R137, R10, R15) -/

theorem exec_reject {s : State} (h : s.inReset = false) (c : Fin 24) (reason : Byte) : exec (.reject c reason) s = .next (takeReject c reason s) :=
  whenRunning_run h _

theorem exec_accept {s : State} (h : s.inReset = false) (c : Fin 24) : exec (.accept c) s = .next (takeAccept c s) := whenRunning_run h _

theorem exec_close {s : State} (h : s.inReset = false) (c : Fin 24) : exec (.close c) s = .next (takeClose c s) := whenRunning_run h _

theorem exec_closed {s : State} (h : s.inReset = false) (c : Fin 24) : exec (.closed c) s = .next (takeClosed c s) := whenRunning_run h _

theorem exec_flow {s : State} (h : s.inReset = false) (c : Fin 24) (go : Bool) :
    exec (.flow c go) s = .next (takeFlow c (if go then .go else .stop) s) := whenRunning_run h _

theorem exec_dataSegment {s : State} (h : s.inReset = false) (c : Fin 24) (chars : List Byte) :
    exec (.dataSegment c chars) s = .next (takeData c chars s) := whenRunning_run h _

section Answers

variable {s : State} {c : Fin 24}

theorem takeReject_offered (h : (s.channel c).state = .offered) (reason : Byte) : takeReject c reason s = rejectOffer c reason s := by
  rw [takeReject, h]

theorem takeClose_offered (h : (s.channel c).state = .offered) : takeClose c s = rejectOffer c 0 s := by
  rw [takeClose, h]

theorem exec_offerTimeout (hr : s.inReset = false) (h : (s.channel c).state = .offered) {d : Nat} (hd : (s.channel c).timer = some d) :
    exec (.offerTimeout c) s = .next (dropOpen c ((endOffer c (some 12) true { s with now := max s.now d }).updChannel c fun x =>
      { x with state := .quarantined, row := none, timer := none })) := by
  refine ((whenRunning_run hr _).trans (congrArg Host.Outcome.next (if_pos h))).trans ?_
  rw [hd, whenDue_some]

theorem loseCarrier_offer {l : Fin 32} (hl : (s.line l).state = .offered) (hlc : (s.line l).channel = some c) :
    loseCarrier l s = toClearing l (abandonOffer c .carrierLost none false s) := by
  unfold loseCarrier
  rw [hl]
  dsimp only
  rw [hlc]

theorem cmdForceClear_offered {l : Fin 32} {line : Byte} (hline : l.val = line.toNat) (hl : (s.line l).state = .offered)
    (hlc : (s.line l).channel = some c) : cmdForceClear line s = (abandonOffer c .operator none true s, done) := by
  unfold cmdForceClear
  rw [finOf_eq hline]
  dsimp only
  rw [hl]
  dsimp only
  rw [hlc]

/-- R136: the unsent OPEN is what DROP removes. -/
theorem dropOpen_eq (c : Fin 24) (s : State) : dropOpen c s = { s with trunk := { s.trunk with
    controls := s.trunk.controls.filter fun y => match y.kind with
      | .opened _ _ _ _ => decide (y.channel ≠ c)
      | _ => true } } := by
  have hkept : (fun y : Control => !(decide (y.channel = c) && match y.kind with
      | .opened _ _ _ _ => true
      | .close _ | .closed | .flow _ | .lineBreak => false)) =
      fun y => match y.kind with | .opened _ _ _ _ => decide (y.channel ≠ c) | _ => true := by
    funext y
    cases y.kind <;> simp
  exact congrArg (fun p => { s with trunk := { s.trunk with controls := s.trunk.controls.filter p } }) hkept

end Answers

/-- The state in which an ended offer leaves the line `ln`, the channel `k` and the control queue `q`. -/
def State.offerEnded (s : State) (c : Fin 24) (l : Fin 32) (r : Fin 64) (a : Admission) (ln : Line) (k : Channel) (q : List Control) : State :=
  { s.offerGone l r a ln with channels := s.channels.set c k, trunk := { s.trunk with controls := q } }

theorem drainEnd_channel (s : State) (c : Fin 24) : (drainEnd s).channel c = s.channel c := by
  unfold drainEnd
  split <;> rfl

theorem setChannel_drainEnd (s : State) (c : Fin 24) (k : Channel) : (drainEnd s).setChannel c k = drainEnd (s.setChannel c k) :=
  drainEnd_commutes (f := fun t => t.setChannel c k) rfl rfl rfl

theorem updChannel_drainEnd (s : State) (c : Fin 24) (f : Channel → Channel) : (drainEnd s).updChannel c f = drainEnd (s.updChannel c f) := by
  rw [State.updChannel_eq, drainEnd_channel, setChannel_drainEnd]
  rfl

theorem handControl_drainEnd (s : State) (c : Fin 24) (k : ControlKind) : handControl c k (drainEnd s) = drainEnd (handControl c k s) :=
  drainEnd_commutes (f := handControl c k) rfl rfl rfl

theorem dropOpen_drainEnd (s : State) (c : Fin 24) : dropOpen c (drainEnd s) = drainEnd (dropOpen c s) :=
  drainEnd_commutes (f := dropOpen c) rfl rfl rfl

section OfferEnds

variable {s : State} {c : Fin 24} {l : Fin 32} {r : Fin 64} {a : Admission} {x : Reservation}
  (hcl : (s.channel c).line = some l) (hcr : (s.channel c).row = some r) (hx : s.row r = .reserved x) (hxc : x.channel = c)
  (hl : (s.line l).state = .offered) (ha : (s.line l).admission = some a)

include hcl hcr hx hxc ha

include hl in
theorem rejectOffer_eq (reason : Byte) : rejectOffer c reason s = drainEnd (s.offerEnded c l r a
    (Line.draining s.now { Line.request s.now 12 0 (s.line l) with admission := none, channel := none })
    { s.channel c with state := .free, line := none, row := none, timer := none, lastReject := reason } s.trunk.controls) := by
  let x1 : Channel := { s.channel c with lastReject := reason }
  have hsame : (s.setChannel c x1).channel c = x1 := State.setChannel_channel_same ..
  have hended := endOffer_drains (s := s.setChannel c x1) (c := c) (l := l) (r := r) (a := a) (x := x)
    ((congrArg Channel.line hsame).trans hcl) ((congrArg Channel.row hsame).trans hcr) hx hxc hl ha (some 12)
  rw [rejectOffer, State.updChannel_eq, show endOffer c (some Config.mHostRefused) true (s.setChannel c x1) = _ from hended, freeChannel,
    State.updChannel_of (x := x1) (by rw [drainEnd_channel]; exact hsame), setChannel_drainEnd]
  refine congrArg drainEnd ?_
  exact State.setChannel_setChannel (s.offerGone l r a _) c x1 _

omit hcl hcr hx hxc ha in
theorem abandonOffer_of {why : CloseReason} {m : Option (Fin 24)} {drains : Bool} {ln : Line}
    (h : endOffer c m drains s = drainEnd (s.offerGone l r a ln)) : abandonOffer c why m drains s = drainEnd (s.offerEnded c l r a ln
      { s.channel c with state := .closing, row := none, timer := some (s.now + s.params.close * 10) }
      (joinControls s.trunk.controls ⟨c, .close why⟩)) := by
  rw [abandonOffer, h, updChannel_drainEnd, handControl_drainEnd]
  rfl

include hl in
theorem offerExpired_eq : dropOpen c ((endOffer c (some 12) true s).updChannel c fun x => { x with state := .quarantined, row := none, timer := none }) =
    drainEnd (s.offerEnded c l r a (Line.draining s.now { Line.request s.now 12 0 (s.line l) with admission := none, channel := none })
      { s.channel c with state := .quarantined, row := none, timer := none }
      (s.trunk.controls.filter fun y => match y.kind with
        | .opened _ _ _ _ => decide (y.channel ≠ c)
        | _ => true)) := by
  rw [endOffer_drains hcl hcr hx hxc hl ha, updChannel_drainEnd, dropOpen_drainEnd,
    dropOpen_eq]
  rfl

include hl in
theorem loseCarrier_offerEnded (hlc : (s.line l).channel = some c) : loseCarrier l s = drainEnd (s.offerEnded c l r a
    (Line.clearing s.now { s.line l with admission := none, channel := none })
    { s.channel c with state := .closing, row := none, timer := some (s.now + s.params.close * 10) }
    (joinControls s.trunk.controls ⟨c, .close .carrierLost⟩)) := by
  have hnow : ∀ t : State, (drainEnd t).now = t.now := fun t => (drainEnd_frame t).2.2.1
  rw [loseCarrier_offer hl hlc, abandonOffer_of (endOffer_stays hcl hcr hx hxc ha none), toClearing_eq, hnow, drainEnd_line]
  generalize hk : ({ s.channel c with state := .closing, row := none, timer := some (s.now + s.params.close * 10) } : Channel) = k
  generalize joinControls s.trunk.controls ⟨c, .close .carrierLost⟩ = q
  have hline : ∀ ln, (s.offerEnded c l r a ln k q).line l = ln := fun ln => State.offerGone_line ln
  have hset : ∀ x y, (s.offerEnded c l r a x k q).setLine l y = s.offerEnded c l r a y k q := fun x y =>
    congrArg (fun t : State => { t with channels := s.channels.set c k, trunk := { s.trunk with controls := q } }) (State.offerGone_setLine x y)
  rw [hline, setLine_drainEnd]
  · rw [hset]
    rfl
  · rw [hline]
    rfl
  · rw [hline]
    exact (congrArg LineState.inDialogue hl).symm

end OfferEnds

/-- Settles O36: every end of an offer is `endOffer` with its own channel record and its own control, and the end of a drain comes last. -/
theorem offerEnds : Obligations.OfferEnds := by
  intro s c reason tag line hr hc l hcl hl hlc r hcr a ha x hx hxc k gone ended closing refused
  refine ⟨?reject, ?close, fun d hd => ?timeout, fun d hd => ?carrier, fun hready hline => ?force⟩
  case reject => exact (exec_reject hr c reason).trans (congrArg Host.Outcome.next
    ((takeReject_offered hc reason).trans (rejectOffer_eq hcl hcr hx hxc hl ha reason)))
  case close => rw [exec_close hr, exec_reject hr, takeClose_offered hc, takeReject_offered hc]
  case timeout =>
    rw [exec_offerTimeout hr hc hd, offerExpired_eq (s := { s with now := max s.now d }) hcl hcr hx hxc hl ha]
    rfl
  case carrier =>
    rw [exec_carrierLoss hr hd, loseCarrier_offerEnded (s := { s with now := max s.now d }) hcl hcr hx hxc hl ha hlc]
    rfl
  case force =>
    exact command_answers hready (by
      rw [cmdForceClear_offered hline hl hlc, abandonOffer_of (endOffer_drains hcl hcr hx hxc hl ha none)]
      rfl)

end Sys2Proof.Machine
end

section
/-! Downward controls and data (R134 to R141, R178), the waiters' timers (R127, R128) and the causes of a close (R10, R15, R17, R116, R119, R138). -/

namespace Sys2Proof.Machine

open Sys2Proof

/-! ## Downward controls (R134 to R141) -/

theorem protocolError_eq (s : State) : protocolError s = { s with
    trunk := { s.trunk with counters := { s.trunk.counters with
      protocol := if s.trunk.counters.protocol < 65535 then s.trunk.counters.protocol + 1 else s.trunk.counters.protocol } }
    mgt := { s.mgt with sticky := { s.mgt.sticky with warning := true } } } := rfl

section Controls

variable {s : State} {c : Fin 24}

theorem controls_wrong (h : (s.channel c).state = .free ∨ (s.channel c).state = .quarantined) (reason : Byte) (f : Flow) (chars : List Byte) :
    takeAccept c s = protocolError s ∧ takeReject c reason s = protocolError s ∧ takeClose c s = protocolError s ∧
      takeClosed c s = protocolError s ∧ takeFlow c f s = protocolError s ∧ takeData c chars s = protocolError s := by
  unfold takeAccept takeReject takeClose takeClosed takeFlow takeData
  rcases h with h | h <;> rw [h] <;> exact ⟨rfl, rfl, rfl, rfl, rfl, rfl⟩

theorem controls_closing (h : (s.channel c).state = .closing) (reason : Byte) (f : Flow) :
    takeClosed c s = confirmClose c s ∧ takeClose c s = confirmClose c s ∧ takeAccept c s = s ∧ takeReject c reason s = s ∧ takeFlow c f s = s := by
  unfold takeAccept takeReject takeClose takeClosed takeFlow
  rw [h]
  exact ⟨rfl, rfl, rfl, rfl, rfl⟩

theorem controls_offered (h : (s.channel c).state = .offered) (f : Flow) : takeClosed c s = protocolError s ∧ takeFlow c f s = protocolError s := by
  unfold takeClosed takeFlow
  rw [h]
  exact ⟨rfl, rfl⟩

theorem controls_connected (h : (s.channel c).state = .connected) (reason : Byte) :
    takeAccept c s = protocolError s ∧ takeReject c reason s = protocolError s ∧ takeClosed c s = protocolError s := by
  unfold takeAccept takeReject takeClosed
  rw [h]
  exact ⟨rfl, rfl, rfl⟩

theorem takeFlow_connected (h : (s.channel c).state = .connected) (f : Flow) : takeFlow c f s = s.updChannel c fun x => { x with hostFlow := f } := by
  rw [takeFlow, h]

theorem takeData_ignored (h : (s.channel c).state = .offered ∨ (s.channel c).state = .closing) (chars : List Byte) : takeData c chars s = s := by
  unfold takeData
  rcases h with h | h <;> rw [h]

theorem takeData_connected (h : (s.channel c).state = .connected) {l : Fin 32} (hl : (s.channel c).line = some l) (chars : List Byte) :
    takeData c chars s = flowStop l c (s.setLine l ((s.line l).placeAll chars)) := by
  rw [takeData, h]
  dsimp only
  rw [hl]
  rfl

theorem exec_closeTimeout (hr : s.inReset = false) (h : (s.channel c).state = .closing) {d : Nat} (hd : (s.channel c).timer = some d) :
    exec (.closeTimeout c) s = .next { s with
      now := max s.now d, channels := s.channels.set c { s.channel c with state := .quarantined, timer := none } } := by
  refine ((whenRunning_run hr _).trans (congrArg Host.Outcome.next (if_pos h))).trans ?_
  rw [hd, whenDue_some]
  rfl

end Controls

theorem flowStop_stops {s : State} {l : Fin 32} {c : Fin 24} (h : 112 ≤ (s.line l).tx.length ∧ s.trunk.announced[c] = .go) :
    flowStop l c s = handControl c (.flow .stop) (setAnnounced c .stop s) := if_pos h

theorem flowStop_silent {s : State} {l : Fin 32} {c : Fin 24} (h : (s.line l).tx.length < 112 ∨ s.trunk.announced[c] = .stop) :
    flowStop l c s = s := if_neg fun ⟨hfill, hgo⟩ => h.elim (fun h => Nat.not_lt.mpr hfill h) fun h => by rw [hgo] at h; cases h

/-- Settles O37: a control is read against the state of its channel alone. -/
theorem downwardControls : Obligations.DownwardControls := by
  refine ⟨fun s c reason go chars hr => ?_, fun s c chars hr hc l hl => ⟨fun h => ?_, fun hfill hgo => ?_⟩⟩
  · intro k wrong confirmed
    rw [exec_accept hr, exec_reject hr, exec_close hr, exec_closed hr, exec_flow hr, exec_dataSegment hr]
    refine ⟨fun h => ?connected, fun h => ?closing, fun h => ?free, fun h => ?offered, fun h => ?session, fun h => ?data⟩
    case connected =>
      rw [takeFlow_connected h]
      rfl
    case closing =>
      obtain ⟨hclosed, hclose, haccept, hreject, hflow⟩ := controls_closing h reason (if go then .go else .stop)
      rw [hclosed, hclose, haccept, hreject, hflow]
      exact ⟨rfl, rfl, rfl, rfl, rfl, fun d hd => exec_closeTimeout hr h hd⟩
    case free =>
      obtain ⟨haccept, hreject, hclose, hclosed, hflow, hdata⟩ := controls_wrong h reason (if go then .go else .stop) chars
      rw [haccept, hreject, hclose, hclosed, hflow, hdata, protocolError_eq]
      exact ⟨rfl, rfl, rfl, rfl, rfl, rfl⟩
    case offered =>
      obtain ⟨hclosed, hflow⟩ := controls_offered h (if go then .go else .stop)
      rw [hclosed, hflow, protocolError_eq]
      exact ⟨rfl, rfl⟩
    case session =>
      obtain ⟨haccept, hreject, hclosed⟩ := controls_connected h reason
      rw [haccept, hreject, hclosed, protocolError_eq]
      exact ⟨rfl, rfl, rfl⟩
    case data => rw [takeData_ignored h]
  · rw [exec_dataSegment hr, takeData_connected hc hl, flowStop_silent]
    rw [State.setLine_line_same]
    exact h
  · rw [exec_dataSegment hr, takeData_connected hc hl, flowStop_stops]
    · rfl
    · rw [State.setLine_line_same]
      exact ⟨hfill, hgo⟩

/-! ## The waiters' timers (R127, R128) -/

section WaiterTimers

variable {s : State} {l : Fin 32} {ahead behind : List Waiter} {w : Waiter} (hq : s.queue = ahead ++ w :: behind) (hw : w.line = l)
  (ha : ∀ v ∈ ahead, v.line ≠ l)

include hq hw ha

theorem State.waiter_split : s.waiter l = some w := by
  rw [State.waiter, hq, List.find?_append, List.find?_eq_none.mpr fun v hv => by simpa using ha v hv, Option.none_or,
    List.find?_cons_of_pos (by exact decide_eq_true hw)]

theorem State.position_split : s.position l = ahead.length + 1 := by
  rw [State.position, hq, List.findIdx_append, List.findIdx_cons, decide_eq_true hw,
    List.findIdx_eq_length.mpr fun v hv => decide_eq_false (ha v hv)]
  simp

theorem updWaiter_split (hb : ∀ v ∈ behind, v.line ≠ l) (f : Waiter → Waiter) : updWaiter l f s = { s with queue := ahead ++ f w :: behind } := by
  have hothers : ∀ q : List Waiter, (∀ v ∈ q, v.line ≠ l) → q.map (fun v => if v.line = l then f v else v) = q := fun q h =>
    (List.map_congr_left fun v hv => if_neg (h v hv)).trans (List.map_id' q)
  rw [updWaiter, hq, List.map_append, List.map_cons, hothers ahead ha, hothers behind hb, if_pos hw]

theorem exec_noticeTimerExpiry (hr : s.inReset = false) {d : Nat} (hd : w.notice = some d) : exec (.noticeTimerExpiry l) s =
    .next (updWaiter l (fun w => { w with notice := State.noticeTimer { s with now := max s.now d } })
      (notify l Config.mPosition (State.position { s with now := max s.now d } l) { s with now := max s.now d })) := by
  dsimp only [exec, execNoticeTimerExpiry]
  rw [whenRunning_run hr, State.waiter_split hq hw ha]
  dsimp only
  rw [hd, whenDue_some]

theorem exec_waitExpiry (hr : s.inReset = false) :
    exec (.waitExpiry l) s = .next (removeWaiter l (some 11) true { s with now := max s.now w.wait }) := by
  dsimp only [exec, execWaitExpiry]
  rw [whenRunning_run hr, State.waiter_split hq hw ha]
  rfl

end WaiterTimers

/-- Settles O38: the waiter is found at its position; at the end of its wait it leaves as in R129. -/
theorem waiterTimers : Obligations.WaiterTimers := by
  intro s l hr hl ahead w behind hq hw ha hb
  refine ⟨fun d hd => ?_, fun a hadm => ?_⟩
  · rw [exec_noticeTimerExpiry hq hw ha hr hd]
    rw [State.position_split (s := { s with now := max s.now d }) hq hw ha]
    exact congrArg Host.Outcome.next (updWaiter_split (s := notify l Config.mPosition (ahead.length + 1 : Nat) { s with now := max s.now d }) hq hw ha hb _)
  · have hmem : ∃ w ∈ s.queue, w.line = l := ⟨w, by rw [hq]; simp, hw⟩
    rw [exec_waitExpiry hq hw ha hr, removeWaiter_drains (s := { s with now := max s.now w.wait }) hmem hadm (some 11) hl,
      leaveQueue_split (s := { s with now := max s.now w.wait }) hq hw ha hb]
    rfl

/-! ## The causes of a close (R10, R15, R17, R116, R119, R138) -/

section Causes

variable {s : State} {c : Fin 24} {l : Fin 32} {m : Meter} (hm : s.meter c = some m) (hml : m.line = l)

include hm hml

theorem closeRequest_eq (why : CloseReason) : closeRequest c l why s = closeSession c why s := by
  rw [closeRequest, hm]
  exact if_pos hml

omit hml in
theorem exec_graceExpiry (hr : s.inReset = false) {d : Nat} (hd : m.grace = some d) :
    exec (.graceExpiry c) s = .next (closeSession c .budget { s with now := max s.now d }) := by
  dsimp only [exec, execGraceExpiry]
  rw [whenRunning_run hr, hm]
  dsimp only
  rw [hd, whenDue_some]

omit hml in
theorem exec_expelExpiry (hr : s.inReset = false) {d : Nat} (hd : m.expel = some d) :
    exec (.expelExpiry c) s = .next (closeSession c .expelled { s with now := max s.now d }) := by
  dsimp only [exec, execExpelExpiry]
  rw [whenRunning_run hr, hm]
  dsimp only
  rw [hd, whenDue_some]

theorem takeClose_connected (hc : (s.channel c).state = .connected) (hcl : (s.channel c).line = some l) :
    takeClose c s = closeSession c .hostLogoff s := by
  rw [takeClose, hc]
  dsimp only
  rw [hostClose, hcl]
  exact closeRequest_eq hm hml _

theorem idleExpired_closes (hlc : (s.line l).channel = some c) (hw : (s.line l).idleWarned = true) : idleExpired l s = closeSession c .idle s := by
  unfold idleExpired
  dsimp only
  rw [if_pos hw, hlc]
  exact closeRequest_eq hm hml _

theorem loseCarrier_session (hl : (s.line l).state = .connected) (hlc : (s.line l).channel = some c) : loseCarrier l s =
    (closeSession c .carrierLost s).setLine l (((closeSession c .carrierLost s).line l).clearing s.now) := by
  have hlose : loseCarrier l s = toClearing l (closeRequest c l .carrierLost s) := by
    unfold loseCarrier
    rw [hl]
    dsimp only
    rw [hlc]
  rw [hlose, closeRequest_eq hm hml, toClearing_eq, (closeSession_frame c .carrierLost s).2.2.1]

theorem cmdForceClear_session {line : Byte} (hline : l.val = line.toNat) (hl : (s.line l).state = .connected) (hlc : (s.line l).channel = some c) :
    cmdForceClear line s = (closeSession c .operator s, done) := by
  unfold cmdForceClear
  rw [finOf_eq hline]
  dsimp only
  rw [hl]
  dsimp only
  rw [hlc]
  dsimp only
  rw [closeRequest_eq hm hml]

end Causes

/-- Settles O33: each cause comes to `closeSession` with its reason. -/
theorem closeCauses : Obligations.CloseCauses := by
  intro s c tag line hr m hm l hcl hml hc hl hlc
  refine ⟨fun d hd => exec_graceExpiry hm hr hd, fun d hd => exec_expelExpiry hm hr hd, ?_, fun d hd hw => ?_, fun d hd => ?_, fun hready hline => ?_⟩
  · rw [exec_close hr, takeClose_connected hm hml hc hcl]
  · rw [exec_idleTimerExpiry hr hl hd, idleExpired_closes (s := { s with now := max s.now d }) hm hml hlc hw]
  · rw [exec_carrierLoss hr hd, loseCarrier_session (s := { s with now := max s.now d }) hm hml hl hlc]
  · exact command_answers hready (cmdForceClear_session hm hml hline hl hlc)

end Sys2Proof.Machine
end

section
/-! The start of a session (R109, R110, R134) and its end (R121, R138, R139, R151, R152). -/

namespace Sys2Proof.Machine

open Sys2Proof

/-! ## The start of a session (R109, R134) -/

section Accept

variable {s : State} {c : Fin 24} {l : Fin 32} {r : Fin 64} {a : Admission}

theorem takeAccept_offered (hc : (s.channel c).state = .offered) (hcl : (s.channel c).line = some l) (hcr : (s.channel c).row = some r)
    (ha : (s.line l).admission = some a) : takeAccept c s = startMeter c l a r (connectRequest l (setAnnounced c .go
      (s.setChannel c { s.channel c with state := .connected, hostFlow := .go, timer := none }))) := by
  unfold takeAccept acceptOffer
  rw [hc, hcl, hcr]
  dsimp only
  rw [ha]
  dsimp only
  rw [State.updChannel_eq]

theorem connectRequest_eq (hl : (s.line l).state = .offered) : connectRequest l s = s.setLine l { s.line l with
    state := .connected, idleWarned := false
    timers := { (s.line l).timers with
      idle := if (s.groupOf (s.line l)).idleWarn = 0 then none else some (s.now + (s.groupOf (s.line l)).idleWarn * 600) } } := if_pos hl

theorem stampRow_eq {x : Reservation} (hx : s.row r = .reserved x) (hxc : x.channel = c) (hxs : x.start = none) :
    stampRow r c s = s.setRow r (.reserved { x with start := some s.cal.clock.stamp }) := by
  rw [stampRow, hx]
  exact if_pos ⟨hxc, hxs⟩

/-- R109: what the start of a meter makes of the state, before the setup charge. -/
def State.metered (s : State) (c : Fin 24) (l : Fin 32) (a : Admission) (r : Fin 64) (x : Reservation) : State :=
  (s.setMeter c (some (newMeter s l a r))).setRow r (.reserved { x with start := some s.cal.clock.stamp })

/-- R109: the session whose setup charge is done: M13, and expel when the permit in force is EXPEL, unless the charge closed it. -/
def State.greeted (t : State) (c : Fin 24) (l : Fin 32) (k : Fin 8) : State :=
  match t.meter c with
  | none => t
  | some m => if t.cal.permits[t.cal.period][k] = .expel then startExpel c m (notify l 13 0 t) else notify l 13 0 t

theorem startMeter_eq {x : Reservation} (hx : s.row r = .reserved x) (hxc : x.channel = c) (hxs : x.start = none) : startMeter c l a r s =
    (chargeSession c s.cal.classes[a.cls].setup (s.metered c l a r x)).greeted c l a.cls := by
  have hstamp : stampRow r c (s.setMeter c (some (newMeter s l a r))) = s.metered c l a r x := stampRow_eq hx hxc hxs
  have hstart : startMeter c l a r s = (let u := stampRow r c (s.setMeter c (some (newMeter s l a r)))
      (chargeSession c u.cal.classes[a.cls].setup u).greeted c l a.cls) := rfl
  rw [hstart, hstamp]
  rfl

theorem State.greeted_none (h : s.meter c = none) (k : Fin 8) : s.greeted c l k = s := by
  rw [State.greeted, h]

theorem State.greeted_stays {m : Meter} (h : s.meter c = some m) {k : Fin 8} (hk : s.cal.permits[s.cal.period][k] ≠ .expel) :
    s.greeted c l k = s.updLine l (Line.request s.now 13 0) := by
  rw [State.greeted, h]
  exact if_neg hk

theorem State.greeted_expel {m : Meter} (h : s.meter c = some m) {k : Fin 8} (hk : s.cal.permits[s.cal.period][k] = .expel) :
    s.greeted c l k = State.updLine { s.updLine l (Line.request s.now 13 0) with
      meters := s.meters.set c (some { m with expelNoticed := true, expel := some (s.now + s.params.expelGrace * 600) }) }
      m.line (Line.request s.now 18 s.params.expelGrace) := by
  have hmeter : (notify m.line 18 s.params.expelGrace (notify l 13 0 s)).meter c = some m := h
  have hgreet : s.greeted c l k = startExpel c m (notify l 13 0 s) := by
    rw [State.greeted, h]
    exact if_pos hk
  rw [hgreet, startExpel]
  dsimp only
  rw [State.updMeter, show (notify m.line Config.mExpel _ (notify l 13 0 s)).meter c = some m from h, Option.map_some]
  rfl

end Accept

/-- Settles O35: the state before the setup charge is written out; what follows is `State.greeted`. -/
theorem offerAccepted : Obligations.OfferAccepted := by
  intro s c hr hc l hcl hl r hcr a ha x hx hxc hxs g k class_ started charged
  let u : State := setAnnounced c .go (s.setChannel c { s.channel c with state := .connected, hostFlow := .go, timer := none })
  have hstarted : (connectRequest l u).metered c l a r x = started := by
    rw [connectRequest_eq (s := u) hl, State.metered, newMeter, State.setLine_line_same]
    rfl
  have hsetup : (connectRequest l u).cal.classes[a.cls].setup = class_.setup := by
    rw [connectRequest_eq (s := u) hl]
    rfl
  have hcharged : exec (.accept c) s = .next (charged.greeted c l a.cls) := by
    rw [exec_accept hr, takeAccept_offered hc hcl hcr ha, startMeter_eq (s := connectRequest l u) (x := x) (by rw [connectRequest_eq (s := u) hl]; exact hx) hxc hxs,
      hstarted, hsetup]
  have hcal : charged.cal = s.cal := (chargeSession_frame c _ _).2.2.2.2.2.2.2.1
  have hpermit : charged.cal.permits[charged.cal.period][a.cls] = s.cal.permits[s.cal.period][a.cls] :=
    congrArg (fun c : Calendar => c.permits[c.period][a.cls]) hcal
  have hnow : charged.now = s.now := (chargeSession_frame c _ _).2.2.1
  have hparams : charged.params = s.params := (chargeSession_frame c _ _).2.2.2.2.2.2.2.2.2.2.2.1
  refine ⟨fun hm => by rw [hcharged, State.greeted_none hm], fun m hm => ?_⟩
  intro greeted
  refine ⟨fun hk => ?_, fun hk => ?_⟩
  · rw [hcharged, State.greeted_stays hm (hpermit ▸ hk), hnow]
  · rw [hcharged, State.greeted_expel hm (hpermit.trans hk), hnow, hparams]
    rfl

end Sys2Proof.Machine
end

section
/-! The end of a session (R121, R138, R139, R151, R152). -/

namespace Sys2Proof.Machine

open Sys2Proof

/-! ## What the last charge keeps (R79, R121) -/

theorem warnLines_line (a : Fin 256) (v : Int) (s : State) (l : Fin 32) :
    (warnLines a v s).line l = s.line l ∨ (warnLines a v s).line l = Line.request s.now 16 v (s.line l) := by
  rw [warnLines_eq_warned, State.warned, State.line_ofFn]
  split
  · exact .inr rfl
  · exact .inl rfl

theorem checkWarning_line (a : Fin 256) (s : State) (l : Fin 32) :
    (checkWarning a s).line l = s.line l ∨ ∃ v, (checkWarning a s).line l = Line.request s.now 16 v (s.line l) := by
  unfold checkWarning
  split
  · exact (warnLines_line a _ _ l).imp_right fun h => ⟨_, h⟩
  · exact .inl rfl

theorem debitAccount_line (a : Fin 256) (n : Nat) (s : State) (l : Fin 32) :
    (debitAccount a n s).1.line l = s.line l ∨ ∃ v, (debitAccount a n s).1.line l = Line.request s.now 16 v (s.line l) := by
  unfold debitAccount
  split
  · exact .inl rfl
  · exact checkWarning_line a (s.setAccount a _) l

theorem chargeUnits_line (c : Fin 24) (n : Nat) (s : State) (l : Fin 32) :
    (chargeUnits c n s).1.line l = s.line l ∨ ∃ v, (chargeUnits c n s).1.line l = Line.request s.now 16 v (s.line l) := by
  unfold chargeUnits
  split
  · exact .inl rfl
  · exact debitAccount_line _ n (s.setMeter c _) l

theorem roundOff_line (c : Fin 24) (m : Meter) (s : State) (l : Fin 32) :
    (roundOff c m s).line l = s.line l ∨ ∃ v, (roundOff c m s).line l = Line.request s.now 16 v (s.line l) := by
  unfold roundOff
  split
  · exact chargeUnits_line c 1 s l
  · exact .inl rfl

theorem roundOff_line_state (c : Fin 24) (m : Meter) (s : State) (l : Fin 32) : ((roundOff c m s).line l).state = (s.line l).state := by
  rcases roundOff_line c m s l with h | ⟨v, h⟩
  · rw [h]
  · rw [h, Line.request_state]

theorem roundOff_line_idleWarned (c : Fin 24) (m : Meter) (s : State) (l : Fin 32) :
    ((roundOff c m s).line l).idleWarned = (s.line l).idleWarned := by
  rcases roundOff_line c m s l with h | ⟨v, h⟩
  · rw [h]
  · rw [h, Line.request_idleWarned]

/-- The last charge leaves the meter's line, account and row. -/
theorem roundOff_meter {c : Fin 24} {m0 m : Meter} {s : State} (hm0 : s.meter c = some m0) (hm : (roundOff c m0 s).meter c = some m) :
    m.line = m0.line ∧ m.account = m0.account ∧ m.row = m0.row := by
  have hcalls : (roundOff c m0 s).calls.meter c = s.calls.meter c := by rw [roundOff_calls]
  have hcall : some m.call = some m0.call := by
    have h1 : (roundOff c m0 s).calls.meter c = some m.call := by
      show ((roundOff c m0 s).meter c).map Meter.call = _
      rw [hm]
      rfl
    have h2 : s.calls.meter c = some m0.call := by
      show (s.meter c).map Meter.call = _
      rw [hm0]
      rfl
    rw [← h1, ← h2, hcalls]
  have hcall' := Option.some.inj hcall
  exact ⟨congrArg MeterCall.line hcall', congrArg MeterCall.account hcall', congrArg MeterCall.row hcall'⟩

/-! ## The steps of a close (R121, R138, R139, R151) -/

/-- The ticket of a session that ends: `x` its reservation, `m0` its meter at the close request, `m` after the last charge, `ln` its line. -/
def ticketOf (s : State) (x : Reservation) (m0 m : Meter) (ln : Line) (why : CloseReason) : Ticket :=
  ⟨x.line, x.user, x.account, x.cls, x.start, s.tickets.serial, s.cal.clock.stamp, m.elapsed, m.charge, m.debited, m.excess, why,
    ⟨m.clockChanged, m.timeWarned, m.expelNoticed, m0.exhausted, ln.idleWarned⟩, m.segments⟩

/-- R151: the ticket table with the session of channel `c` closed. -/
theorem closeTicket_eq {s : State} {c : Fin 24} {m0 m : Meter} {x : Reservation} {r : Fin 64} {l : Fin 32} (hrow : m.row = r) (hline : m.line = l)
    (hx : s.row r = .reserved x) (hxc : x.channel = c) (why : CloseReason) : closeTicket c m m0.exhausted why s = { s with tickets := {
      rows := s.tickets.rows.set r (.closed (ticketOf s x m0 m (s.line l) why))
      closeList := s.tickets.closeList ++ [r]
      serial := skipHeld (s.setRow r (.closed (ticketOf s x m0 m (s.line l) why))).heldSerials 64 (nextSerial s.tickets.serial) } } := by
  subst hrow hline
  rw [closeTicket, hx]
  exact if_pos hxc

theorem Line.ended_gone (now : Nat) (why : CloseReason) (ln : Line) : Line.ended now why { ln with admission := none } = Line.ended now why ln := by
  cases why <;> simp only [Line.ended, Line.request_gone, reduceCtorEq, if_false, if_true]

theorem toDraining_connected {s : State} {l : Fin 32} {ln : Line} (hl : ln.state = .connected) : toDraining l (s.setLine l ln) = s.setLine l { ln with
    state := .draining, rx := []
    timers := { ln.timers with signOn := none, idle := none, drain := some (s.now + 100) } } := by
  rw [toDraining, State.updLine_setLine, Line.enterDraining, if_pos hl]
  rfl

theorem sessionClosed_eq {s : State} {l : Fin 32} (hl : (s.line l).state = .connected) (ha : (s.line l).admission = none) (why : CloseReason) :
    sessionClosed l why s = s.setLine l (Line.ended s.now why (s.line l)) := by
  have hgone : ∀ ln : Line, ln.admission = none → ({ ln with channel := none } : Line) = { ln with admission := none, channel := none } := fun ln h => by
    rw [← h]
  have htold : ∀ v : Int, toDraining l ((notify l Config.mEnded v s).updLine l fun ln => { ln with channel := none }) =
      s.setLine l { Line.request s.now 19 v (s.line l) with
        state := .draining, rx := [], admission := none, channel := none
        timers := { (s.line l).timers with signOn := none, idle := none, drain := some (s.now + 100) } } := fun v => by
    rw [notify, State.updLine_eq s, State.updLine_setLine, toDraining_connected (by exact (Line.request_state ..).trans hl),
      hgone _ ((Line.request_admission ..).trans ha)]
    simp only [Line.request_timers]
  unfold sessionClosed
  rw [if_pos hl]
  cases why
  case carrierLost => rw [State.updLine_eq, hgone _ ha]; rfl
  case hostLogoff =>
    dsimp only
    rw [State.updLine_eq, hgone _ ha, toDraining_connected (by exact hl)]
    rfl
  all_goals
    dsimp only
    rw [htold]
    rfl

theorem channelClosed_eq (c : Fin 24) (why : CloseReason) (s : State) : channelClosed c why s = { s with
    channels := s.channels.set c (Channel.ended (s.now + s.params.close * 10) why (s.channel c))
    trunk := { s.trunk with controls := controlsEnded c why s.trunk.controls } } := by
  have hleave : ∀ f, (leaveConnected c why s).updChannel c f =
      (dropSessionControls c s).setChannel c (f { s.channel c with hostFlow := .go, row := none, lastClose := why.code }) := fun f => by
    rw [leaveConnected, State.updChannel_eq (dropSessionControls c s), State.updChannel_setChannel]
    rfl
  unfold channelClosed
  cases why
  case hostLost => exact hleave _
  all_goals
    dsimp only
    rw [hleave, handControl_eq]
    rfl

theorem Line.ended_admission (now : Nat) (why : CloseReason) (ln : Line) : (Line.ended now why ln).admission = none := by
  cases why <;> rfl

theorem Line.ended_inDialogue {ln : Line} (h : ln.state = .connected) (now : Nat) (why : CloseReason) :
    (Line.ended now why ln).state.inDialogue = false := by
  cases why
  case carrierLost => exact congrArg LineState.inDialogue h
  all_goals rfl

theorem channelClosed_drainEnd (c : Fin 24) (why : CloseReason) (s : State) : channelClosed c why (drainEnd s) = drainEnd (channelClosed c why s) := by
  refine drainEnd_commutes (f := channelClosed c why) ?_ ?_ ?_
  all_goals rw [channelClosed_eq]
  · rw [channelClosed_eq]
    rfl
  · rfl

theorem sessionClosed_drainEnd {s : State} {l : Fin 32} (hl : (s.line l).state = .connected) (ha : (s.line l).admission = none)
    (why : CloseReason) : sessionClosed l why (drainEnd s) = drainEnd (s.setLine l (Line.ended s.now why (s.line l))) := by
  have hnow : (drainEnd s).now = s.now := (drainEnd_frame s).2.2.1
  rw [sessionClosed_eq (by rw [drainEnd_line]; exact hl) (by rw [drainEnd_line]; exact ha), drainEnd_line, hnow, setLine_drainEnd]
  · rw [Line.ended_admission, ha]
  · rw [Line.ended_inDialogue hl, hl]
    rfl

/-- R121: a session ends, `t` the state after its last charge. -/
theorem closeSession_eq {s t : State} {c : Fin 24} {m0 m : Meter} {x : Reservation} (hm0 : s.meter c = some m0) (ht : roundOff c m0 s = t)
    (hm : t.meter c = some m) (hl : (t.line m0.line).state = .connected) (hx : t.row m0.row = .reserved x) (hxc : x.channel = c)
    (hline : m.line = m0.line) (hrow : m.row = m0.row) (why : CloseReason) : closeSession c why s = drainEnd { t with
      tickets := {
        rows := t.tickets.rows.set m0.row (.closed (ticketOf t x m0 m (t.line m0.line) why))
        closeList := t.tickets.closeList ++ [m0.row]
        serial := skipHeld (t.setRow m0.row (.closed (ticketOf t x m0 m (t.line m0.line) why))).heldSerials 64 (nextSerial t.tickets.serial) }
      accounts := t.accounts.set m0.account (t.account m0.account).left
      meters := t.meters.set c none
      lines := t.lines.set m0.line (Line.ended t.now why (t.line m0.line))
      channels := t.channels.set c (Channel.ended (t.now + t.params.close * 10) why (t.channel c))
      trunk := { t.trunk with controls := controlsEnded c why t.trunk.controls } } := by
  have hticket := closeTicket_eq (m0 := m0) hrow hline hx hxc why
  generalize hu : closeTicket c m m0.exhausted why t = u at hticket
  have hclose : closeSession c why s =
      channelClosed c why (sessionClosed m0.line why ((endAdmission m0.line m0.account u).setMeter c none)) := by
    unfold closeSession
    rw [hm0]
    dsimp only
    rw [ht, hm]
    dsimp only
    rw [hu]
  have hadmission : (endAdmission m0.line m0.account u).setMeter c none =
      drainEnd (((u.setAccount m0.account (u.account m0.account).left).setLine m0.line { u.line m0.line with admission := none }).setMeter c none) :=
    drainEnd_commutes (f := fun t => t.setMeter c none) rfl rfl rfl
  have huline : u.line m0.line = t.line m0.line := by rw [hticket]; rfl
  have hvline : (((u.setAccount m0.account (u.account m0.account).left).setLine m0.line { u.line m0.line with admission := none }).setMeter c none).line
      m0.line = { t.line m0.line with admission := none } := by
    rw [State.setMeter_line, State.setLine_line_same, huline]
  rw [hclose, hadmission, sessionClosed_drainEnd (by rw [hvline]; exact hl) (by rw [hvline]), hvline, Line.ended_gone, channelClosed_drainEnd,
    channelClosed_eq]
  have hset : ∀ A B, (((u.setAccount m0.account (u.account m0.account).left).setLine m0.line A).setMeter c none).setLine m0.line B =
      ((u.setAccount m0.account (u.account m0.account).left).setMeter c none).setLine m0.line B := fun A B =>
    State.setLine_setLine ((u.setAccount m0.account (u.account m0.account).left).setMeter c none) m0.line A B
  rw [hset, hticket]
  rfl

/-- R152: the serial after a close is the first, from the next one on, that no row holds. -/
theorem nextSerial_free {s : State} {r : Fin 64} {k : Ticket} (hrange : 1 ≤ s.tickets.serial ∧ s.tickets.serial ≤ 65535)
    (hk : k.serial = s.tickets.serial) : ∃ j, 1 ≤ j ∧ j ≤ 64 ∧
      skipHeld (s.setRow r (.closed k)).heldSerials 64 (nextSerial s.tickets.serial) = serialAfter s.tickets.serial j ∧
      (∀ q, ((s.setRow r (.closed k)).row q).serial ≠ some (serialAfter s.tickets.serial j)) ∧
      ∀ i < j, ∃ q, ((s.setRow r (.closed k)).row q).serial = some (serialAfter s.tickets.serial i) := by
  have hheld : s.tickets.serial ∈ (s.setRow r (.closed k)).heldSerials :=
    State.mem_heldSerials.mpr ⟨r, by rw [State.setRow_row_same]; exact congrArg some hk⟩
  obtain ⟨j, h1, h64, hresult, hfree, hpassed⟩ := skipHeld_free hrange hheld (State.heldSerials_length _)
  exact ⟨j, h1, h64, hresult, fun q hq => hfree (State.mem_heldSerials.mpr ⟨q, hq⟩), fun i hi => State.mem_heldSerials.mp (hpassed i hi)⟩

/-- Settles O32: `closeSession_eq` with what the last charge keeps; the serial is that of `nextSerial_free`. -/
theorem sessionCloses : Obligations.SessionCloses := by
  intro s c why m0 hm0 hl x hx hxc s1 m hm
  obtain ⟨hline, -, hrow⟩ := roundOff_meter (s := s) hm0 hm
  have hstate : (s1.line m0.line).state = .connected := (roundOff_line_state c m0 s m0.line).trans hl
  have hwarned : (s1.line m0.line).idleWarned = (s.line m0.line).idleWarned := roundOff_line_idleWarned c m0 s m0.line
  obtain ⟨-, -, hnow, -, -, -, -, hcal, -, hchannels, htickets, -, -, htrunk, -, hparams, -, -, -⟩ := roundOff_frame c m0 s
  have hs1 : roundOff c m0 s = s1 := rfl
  rw [hs1] at hnow hcal hchannels htickets htrunk hparams
  clear_value s1
  have hx1 : s1.row m0.row = .reserved x := (congrArg (fun k : Tickets => k.rows[m0.row]) htickets).trans hx
  have hchannel : s1.channel c = s.channel c := congrArg (fun k : Vector Channel 24 => k[c]) hchannels
  have hclose := closeSession_eq hm0 hs1 hm hstate hx1 hxc hline hrow why
  generalize hk : ticketOf s1 x m0 m (s1.line m0.line) why = k at hclose
  have hrows : ∀ q, (closeSession c why s).row q = (s1.setRow m0.row (.closed k)).row q := fun q => by
    rw [hclose, drainEnd]
    split <;> rfl
  have hserial : k.serial = s1.tickets.serial := hk ▸ rfl
  refine ⟨skipHeld (s1.setRow m0.row (.closed k)).heldSerials 64 (nextSerial s1.tickets.serial), hclose.trans ?_, fun h1 h2 => ?_⟩
  · rw [← hk, ticketOf, hwarned, hnow, hcal, htickets, htrunk, hparams, hchannels, hchannel]
    rfl
  · obtain ⟨j, h1, h64, hresult, hfree, hpassed⟩ := nextSerial_free (s := s1) (r := m0.row) (k := k) (by rw [htickets]; exact ⟨h1, h2⟩) hserial
    rw [htickets] at hresult hfree hpassed
    refine ⟨j, h1, h64.trans (by decide), htickets ▸ hresult, fun q hq => ?_, fun i hi hij => ?_⟩
    · rw [hrows, htickets, hresult]
      exact hfree q
    · obtain ⟨q, hq⟩ := hpassed i hij
      exact ⟨q, by rw [hrows]; exact hq⟩

end Sys2Proof.Machine
end

section
/-! The load monitor (R159 to R167) and the service state (R190, R191). -/

namespace Sys2Proof.Machine

open Sys2Proof

/-! ## One sample (R160 to R162) -/

theorem Watch.sample_eq (w : Watch) (v : Nat) : w.sample v = w.sampled v := by
  have hhigh : decide ((v : Int) ≤ (w.upper : Int) - w.hysteresis) = decide (v + w.hysteresis ≤ w.upper) :=
    decide_eq_decide.mpr (by omega)
  have hlow : (!decide (v ≥ w.lower + w.hysteresis)) = decide (v < w.lower + w.hysteresis) := by
    rw [← decide_not]
    exact decide_eq_decide.mpr Nat.not_le
  have hcrit : (!decide ((v : Int) < (w.critical : Int) - w.hysteresis)) = decide (w.critical ≤ v + w.hysteresis) := by
    rw [← decide_not]
    exact decide_eq_decide.mpr (by omega)
  unfold Watch.sample Watch.sampled Watch.flags Watch.decideEvent
  dsimp only
  cases hmode : w.mode
  all_goals rw [hhigh, hlow, hcrit]

theorem LineState.active_iff (st : LineState) : st.active = decide (st ∉ [LineState.idle, .ringing, .blocked]) := by
  cases st <;> rfl

theorem length_filter_add {α : Type} (p q r : α → Bool) (h : ∀ x, (r x = (p x || q x)) ∧ ¬ (p x = true ∧ q x = true)) (xs : List α) :
    (xs.filter p).length + (xs.filter q).length = (xs.filter r).length := by
  induction xs with
  | nil => rfl
  | cons x xs ih =>
    obtain ⟨hr, hboth⟩ := h x
    rw [List.filter_cons, List.filter_cons, List.filter_cons, hr]
    cases hp : p x <;> cases hq : q x
    case true.true => exact absurd ⟨hp, hq⟩ hboth
    all_goals simp only [Bool.or_false, Bool.or_true, Bool.false_eq_true, if_false, if_true, List.length_cons]; omega

theorem State.heldRows_eq (s : State) : s.reservedRows + s.closedRows = (allRows.filter fun r => decide (s.row r ≠ .free)).length :=
  length_filter_add _ _ _ (fun r => by cases s.row r <;> simp) _

theorem State.busyChannels_eq (s : State) : 24 - s.freeChannels = (allChannels.filter fun c => decide ((s.channel c).state ≠ .free)).length := by
  have hall : (allChannels.filter fun c => decide ((s.channel c).state = .free)).length +
      (allChannels.filter fun c => decide ((s.channel c).state ≠ .free)).length = (allChannels.filter fun _ => true).length :=
    length_filter_add _ _ _ (fun c => by by_cases h : (s.channel c).state = .free <;> simp [h]) _
  have hlength : (allChannels.filter fun _ => true).length = 24 := by decide
  rw [State.freeChannels]
  omega

theorem State.quantity_eq (s : State) (k : Fin 4) : s.quantity k = s.sampledQuantity k :=
  match k with
  | 0 => congrArg (fun p => (allLines.filter p).length) (funext fun _ => LineState.active_iff _)
  | 1 => rfl
  | 2 => State.heldRows_eq s
  | 3 => State.busyChannels_eq s

theorem State.sampleAll_eq (s : State) :
    s.sampleAll = { s with watches := Vector.ofFn fun k => Watch.sampled s.watches[k] (s.sampledQuantity k) } := by
  simp only [State.sampleAll, Watch.sample_eq, State.quantity_eq]

theorem exec_sampleExpiry {s : State} (h : s.inReset = false) {d : Nat} (hd : s.sample = some d) :
    exec .sampleExpiry s = .next (State.sampleAll { s with now := max s.now d, sample := some (d + 10) }) := by
  dsimp only [exec, execSampleExpiry]
  rw [whenRunning_run h, hd, whenDue_some]
  rfl

/-! ## The commands of the load monitor (R163, R166, R167) -/

theorem watchModeOf_code (m : WatchMode) : watchModeOf m.code = some m := by
  cases m <;> rfl

theorem watchModeOf_none {b : Byte} (h : 2 < b.toNat) : watchModeOf b = none := by
  rw [watchModeOf, if_neg fun e => ?_, if_neg fun e => ?_, if_neg fun e => ?_] <;> subst e <;> exact absurd h (by decide)

theorem cmdLoadWatch_badValue {n enabled mode hysteresis : Byte}
    (h : ¬ (n.toNat ≤ 3 ∧ enabled.toNat ≤ 1 ∧ mode.toNat ≤ 2 ∧ hysteresis.toNat ≤ 3)) (upper lower critical : Byte) (s : State) :
    cmdLoadWatch n enabled mode upper lower critical hysteresis s = (s, badValue) := by
  unfold cmdLoadWatch
  by_cases hn : n.toNat ≤ 3
  · by_cases he : enabled.toNat ≤ 1
    · by_cases hm : mode.toNat ≤ 2
      · have hh : ¬ hysteresis.toNat ≤ 3 := fun hh => h ⟨hn, he, hm, hh⟩
        split
        · exact if_neg hh
        · rfl
      · rw [watchModeOf_none (Nat.not_le.mp hm)]
        cases finOf 4 n <;> cases flagOf enabled <;> rfl
    · rw [flagOf_none (Nat.not_le.mp he)]
      cases finOf 4 n <;> rfl
  · rw [finOf_none (Nat.not_le.mp hn)]

theorem cmdLoadWatch_taken {n enabled mode hysteresis : Byte} {k : Fin 4} {m : WatchMode} (hk : k.val = n.toNat) (hm : m.code = mode)
    (he : enabled.toNat ≤ 1) (hh : hysteresis.toNat ≤ 3) (upper lower critical : Byte) (s : State) :
    cmdLoadWatch n enabled mode upper lower critical hysteresis s =
      (setWatch k (s.watches[k].load (decide (enabled = 1)) m upper.toNat lower.toNat critical.toNat hysteresis.toNat) s, done) := by
  unfold cmdLoadWatch
  rw [finOf_eq hk, flagOf_some he, ← hm, watchModeOf_code]
  exact if_pos hh

theorem State.alert_eq_decide (s : State) : s.alert = decide (∃ j : Fin 4, s.watches[j].enabled = true ∧ s.watches[j].event = true) := by
  rw [Bool.eq_iff_iff, State.alert_iff, decide_eq_true_iff]

/-- Settles O41: a sample is `Watch.sampled` at each watch; the pin follows ALERT and the polarity. -/
theorem loadMonitor : Obligations.LoadMonitor := by
  intro s tag n enabled mode upper lower critical hysteresis hr
  refine ⟨fun d hd => ?sample, fun hp => ?high, fun hp => ?low, ?reset, fun hready => ⟨fun h => ?_, fun h => ⟨?_, ?_⟩, fun k hk => ⟨fun m hm hok => ?_, ?_, ?_⟩⟩⟩
  case sample =>
    rw [exec_sampleExpiry hr hd, State.sampleAll_eq]
    rfl
  case high => rw [State.alertPin_iff, ← State.alert_iff, hp, iff_true_left rfl]
  case low =>
    rw [← Bool.not_eq_true, State.alertPin_iff, ← State.alert_iff, hp]
    simp
  case reset =>
    refine ⟨_, exec_resetN n s, exec_powerOn n s, (State.alertPin_iff _).mpr ⟨fun h => absurd h (by decide : ¬ (false = true)), fun h => absurd h ?_⟩⟩
    exact (by decide : ¬ State.reset.alert = true)
  · exact command_answers hready (cmdLoadWatch_badValue h ..)
  · exact command_answers hready (by unfold cmdReadWatch; rw [finOf_none h]; rfl)
  · exact command_answers hready (by unfold cmdAckAlert; rw [finOf_none h]; rfl)
  · obtain ⟨-, he, -, hh⟩ := hok
    exact command_answers hready (by rw [cmdLoadWatch_taken hk hm he hh, Watch.load, Watch.sample_eq]; rfl)
  · exact command_answers hready (by unfold cmdAckAlert; rw [finOf_eq hk]; rfl)
  · exact command_answers hready (by
      unfold cmdReadWatch watchData
      rw [finOf_eq hk]
      dsimp only
      rw [Watch.flagBits_eq, State.alert_eq_decide]
      rfl)

/-! ## The service state (R190, R191) -/

theorem State.drained_iff (s : State) : s.drained = true ↔ ∀ l, (s.line l).admission = none ∧ (s.line l).state ≠ .signon ∧ (s.line l).state ≠ .checking := by
  have hin : ∀ st : LineState, (!st.inDialogue) = true ↔ st ≠ .signon ∧ st ≠ .checking := fun st => by cases st <;> decide
  simp only [State.drained, allLines, List.all_eq_true, List.mem_finRange, true_imp_iff, Bool.and_eq_true, hin, Option.isNone_iff_eq_none]

theorem drainEnd_closes {s : State} (hs : s.mgt.service = .draining) (hd : s.drained = true) :
    drainEnd s = { s with mgt := { s.mgt with service := .closed } } := if_pos ⟨hs, hd⟩

/-- Settles O42: `drainEnd` is the one place where a drain ends; the commands set the service state. -/
theorem serviceState : Obligations.ServiceState := by
  intro s tag rest at_
  have hrest : s.drained = true ↔ rest := State.drained_iff s
  refine ⟨fun hs hd => drainEnd_closes hs (hrest.mpr hd), fun h => if_neg fun ⟨hs, hd⟩ => h.elim (fun h => h hs) fun h => h (hrest.mp hd),
    fun hready => ⟨fun hv => ?_, fun hv => ?_, fun hs hd => ?_, fun hs hd => ?_, fun hs => ?_, fun hs => ?_⟩⟩
  · exact command_answers hready (if_pos hv)
  · exact command_answers hready (if_neg (by rw [hv]; decide))
  · exact command_answers hready (by
      unfold cmdDrainService
      rw [hs]
      dsimp only
      rw [drainEnd_closes (s := setService .draining s) rfl (hrest.mpr hd)]
      rfl)
  · exact command_answers hready (by
      unfold cmdDrainService
      rw [hs]
      dsimp only
      rw [show drainEnd (setService .draining s) = setService .draining s from if_neg fun h => hd (hrest.mp h.2)]
      rfl)
  · exact command_answers hready (by unfold cmdDrainService; rw [hs]; rfl)
  · exact command_answers hready (by unfold cmdDrainService; rw [hs]; rfl)

end Sys2Proof.Machine
end

section
/-! The clock and the periods: period evaluation (R97 to R100) and the second boundary (R90, R91). -/

namespace Sys2Proof.Machine

open Sys2Proof

/-! ## Period evaluation (R100) -/

theorem bestEntry_none {w m : Nat} {es : List ScheduleEntry} (h : ∀ e ∈ es, e.qualifies w m = false) : bestEntry w m es = none := by
  unfold bestEntry
  induction es with
  | nil => rfl
  | cons e es ih =>
    rw [List.foldl_cons, h e List.mem_cons_self]
    exact ih fun e he => h e (List.mem_cons_of_mem _ he)

/-- R100 step 4: a later entry replaces the best so far when its time is greater. -/
def laterEntry (w m : Nat) (best : Option ScheduleEntry) (e : ScheduleEntry) : Option ScheduleEntry :=
  if e.qualifies w m then
    match best with
    | none => some e
    | some b => if b.time < e.time then some e else best
  else best

theorem bestEntry_eq_foldl (w m : Nat) (es : List ScheduleEntry) : bestEntry w m es = es.foldl (laterEntry w m) none := rfl

theorem foldl_laterEntry_before {w m t : Nat} {es : List ScheduleEntry} (h : ∀ e ∈ es, e.qualifies w m = true → e.time < t)
    {best : Option ScheduleEntry} (hb : ∀ b, best = some b → b.time < t) : ∀ b, es.foldl (laterEntry w m) best = some b → b.time < t := by
  induction es generalizing best with
  | nil => exact hb
  | cons e es ih =>
    refine ih (fun x hx => h x (List.mem_cons_of_mem _ hx)) fun b hbest => ?_
    unfold laterEntry at hbest
    split at hbest
    · next hq =>
      have he := h e List.mem_cons_self hq
      split at hbest
      · exact Option.some.inj hbest ▸ he
      · split at hbest
        · exact Option.some.inj hbest ▸ he
        · exact hb b hbest
    · exact hb b hbest

theorem foldl_laterEntry_after {w m : Nat} {es : List ScheduleEntry} {b : ScheduleEntry} (h : ∀ e ∈ es, e.qualifies w m = true → e.time ≤ b.time) :
    es.foldl (laterEntry w m) (some b) = some b := by
  induction es with
  | nil => rfl
  | cons e es ih =>
    have hkeep : laterEntry w m (some b) e = some b := by
      unfold laterEntry
      split
      · next hq => exact if_neg (Nat.not_lt.mpr (h e List.mem_cons_self hq))
      · rfl
    rw [List.foldl_cons, hkeep]
    exact ih fun x hx => h x (List.mem_cons_of_mem _ hx)

theorem bestEntry_some {w m : Nat} {before after : List ScheduleEntry} {e : ScheduleEntry} (he : e.qualifies w m = true)
    (hb : ∀ x ∈ before, x.qualifies w m = true → x.time < e.time) (ha : ∀ x ∈ after, x.qualifies w m = true → x.time ≤ e.time) :
    bestEntry w m (before ++ e :: after) = some e := by
  rw [bestEntry_eq_foldl, List.foldl_append, List.foldl_cons]
  have htaken : laterEntry w m (before.foldl (laterEntry w m) none) e = some e := by
    have hbest := foldl_laterEntry_before hb (best := none) (fun b h => by cases h)
    unfold laterEntry
    rw [if_pos he]
    split
    · rfl
    · next b h => exact if_pos (hbest b h)
  rw [htaken, foldl_laterEntry_after ha]

section Evaluate

variable {c : Calendar}

theorem Calendar.qualifies_iff (i : Fin 16) :
    c.schedule[i].qualifies c.weekday (c.clock.hours * 60 + c.clock.minutes) = true ↔ c.Qualifies i := by
  simp only [ScheduleEntry.qualifies, Bool.and_eq_true, decide_eq_true_eq, and_assoc]
  rfl

theorem Vector.toList_split {α : Type} {n : Nat} (v : Vector α n) (i : Fin n) :
    v.toList = v.toList.take i.val ++ v[i] :: v.toList.drop (i.val + 1) := by
  have hi : i.val < v.toList.length := by simp
  refine (List.take_append_drop i.val _).symm.trans (congrArg _ ((List.drop_eq_getElem_cons hi).trans ?_))
  rw [Vector.getElem_toList]
  rfl

theorem Calendar.bestEntry_eq {i : Fin 16} (hi : c.Qualifies i) (hy : ∀ j, c.Qualifies j → c.Yields i j) :
    bestEntry c.weekday (c.clock.hours * 60 + c.clock.minutes) c.schedule.toList = some c.schedule[i] := by
  rw [Vector.toList_split c.schedule i]
  refine bestEntry_some ((Calendar.qualifies_iff i).mpr hi) (fun x hx hq => ?_) fun x hx hq => ?_
  · obtain ⟨j, hj, rfl⟩ := List.mem_take_iff_getElem.mp hx
    have hji : j < i.val := hj.trans_le (Nat.min_le_left ..)
    rw [Vector.getElem_toList] at hq ⊢
    rcases hy ⟨j, hji.trans i.isLt⟩ ((Calendar.qualifies_iff _).mp hq) with h | ⟨-, h⟩
    · exact h
    · exact absurd h (Fin.not_le.mpr hji)
  · obtain ⟨j, hj, rfl⟩ := List.mem_drop_iff_getElem.mp hx
    have hj16 : i.val + 1 + j < 16 := by
      rw [Vector.length_toList] at hj
      omega
    rw [Vector.getElem_toList] at hq ⊢
    rcases hy ⟨i.val + 1 + j, hj16⟩ ((Calendar.qualifies_iff _).mp hq) with h | ⟨h, -⟩
    · exact h.le
    · exact h.le

theorem Calendar.bestEntry_eq_none (h : ∀ i, ¬ c.Qualifies i) :
    bestEntry c.weekday (c.clock.hours * 60 + c.clock.minutes) c.schedule.toList = none :=
  bestEntry_none fun e he => by
    obtain ⟨j, hj, rfl⟩ := List.mem_iff_getElem.mp he
    have hj16 : j < 16 := by simpa using hj
    rw [Vector.getElem_toList]
    exact Bool.eq_false_iff.mpr fun hq => h ⟨j, hj16⟩ ((Calendar.qualifies_iff ⟨j, hj16⟩).mp hq)

/-- R100: the evaluation gives the period that the rule names. -/
theorem Calendar.gives_evaluate : c.Gives c.evaluate := by
  refine ⟨fun hv => ?_, fun hv => ⟨fun i hi hy => ?_, fun hno w hw => ?_⟩⟩
  · rw [Calendar.evaluate, if_neg (by rw [hv]; decide)]
  · rw [Calendar.evaluate, if_pos hv, Calendar.bestEntry_eq hi hy]
  · rw [Calendar.evaluate, if_pos hv, Calendar.bestEntry_eq_none hno]
    dsimp only
    rw [Calendar.dayStartOf, dif_pos (hw ▸ w.isLt)]
    simp only [← hw]
    rfl

theorem Calendar.settle_eq : c.settle = c.evaluated c.evaluate := rfl

end Evaluate

/-! ## The clock (R90) -/

theorem Clock.lastDay_eq (k : Clock) : lastDay k.month k.year =
    if k.month = 2 then (if k.year % 4 = 0 then 29 else 28) else if k.month ∈ [4, 6, 9, 11] then 30 else 31 := by
  simp only [lastDay, List.mem_cons, List.not_mem_nil, or_false]

theorem Clock.nextDay_eq (k : Clock) : k.nextDay = ⟨k.seconds, k.minutes, k.hours, (k.weekday + 1) % 7,
    if lastDay k.month k.year ≤ k.day then 1 else k.day + 1,
    if lastDay k.month k.year ≤ k.day ∧ 12 ≤ k.month then 1 else if lastDay k.month k.year ≤ k.day then k.month + 1 else k.month,
    if lastDay k.month k.year ≤ k.day ∧ 12 ≤ k.month then (if k.year < 99 then k.year + 1 else 0) else k.year⟩ := by
  unfold Clock.nextDay
  dsimp only
  by_cases hd : k.day < lastDay k.month k.year
  · simp [hd, Nat.not_le.mpr hd]
  · by_cases hm : k.month < 12
    · simp [hd, Nat.not_lt.mp hd, hm, Nat.not_le.mpr hm]
    · simp [hd, Nat.not_lt.mp hd, hm, Nat.not_lt.mp hm]

/-- R90: the clock one second on: which fields roll over, and what they become. -/
theorem Clock.advance_eq (k : Clock) : k.advance = (⟨if 59 ≤ k.seconds then 0 else k.seconds + 1,
    if 59 ≤ k.seconds ∧ 59 ≤ k.minutes then 0 else if 59 ≤ k.seconds then k.minutes + 1 else k.minutes,
    if (59 ≤ k.seconds ∧ 59 ≤ k.minutes) ∧ 23 ≤ k.hours then 0 else if 59 ≤ k.seconds ∧ 59 ≤ k.minutes then k.hours + 1 else k.hours,
    if (59 ≤ k.seconds ∧ 59 ≤ k.minutes) ∧ 23 ≤ k.hours then (k.weekday + 1) % 7 else k.weekday,
    if ((59 ≤ k.seconds ∧ 59 ≤ k.minutes) ∧ 23 ≤ k.hours) ∧ lastDay k.month k.year ≤ k.day then 1
      else if (59 ≤ k.seconds ∧ 59 ≤ k.minutes) ∧ 23 ≤ k.hours then k.day + 1 else k.day,
    if (((59 ≤ k.seconds ∧ 59 ≤ k.minutes) ∧ 23 ≤ k.hours) ∧ lastDay k.month k.year ≤ k.day) ∧ 12 ≤ k.month then 1
      else if ((59 ≤ k.seconds ∧ 59 ≤ k.minutes) ∧ 23 ≤ k.hours) ∧ lastDay k.month k.year ≤ k.day then k.month + 1 else k.month,
    if (((59 ≤ k.seconds ∧ 59 ≤ k.minutes) ∧ 23 ≤ k.hours) ∧ lastDay k.month k.year ≤ k.day) ∧ 12 ≤ k.month
      then (if k.year < 99 then k.year + 1 else 0) else k.year⟩,
    decide (59 ≤ k.seconds), decide ((59 ≤ k.seconds ∧ 59 ≤ k.minutes) ∧ 23 ≤ k.hours)) := by
  unfold Clock.advance
  by_cases hs : k.seconds < 59
  · simp [hs, Nat.not_le.mpr hs]
  · by_cases hm : k.minutes < 59
    · simp [hs, hm, Nat.not_lt.mp hs, Nat.not_le.mpr hm]
    · by_cases hh : k.hours < 23
      · simp [hs, hm, hh, Nat.not_lt.mp hs, Nat.not_lt.mp hm, Nat.not_le.mpr hh]
      · simp [hs, hm, hh, Nat.not_lt.mp hs, Nat.not_lt.mp hm, Nat.not_lt.mp hh, Clock.nextDay_eq]

/-! ## The second boundary (R91) -/

theorem eraseDups_of_nodup {α : Type} [BEq α] [LawfulBEq α] {xs : List α} (h : xs.Nodup) : xs.eraseDups = xs := by
  induction xs with
  | nil => rfl
  | cons x xs ih =>
    obtain ⟨hx, hxs⟩ := List.nodup_cons.mp h
    have hkept : (xs.filter fun b => !b == x) = xs := List.filter_eq_self.mpr fun b hb => by
      rw [Bool.not_eq_true', beq_eq_false_iff_ne]
      exact fun e => hx (e ▸ hb)
    rw [List.eraseDups_cons, hkept, ih hxs]

theorem meterOrder_eq {order : List (Fin 24)} (h : order.Nodup) :
    meterOrder order = order ++ (List.finRange 24).filter fun c => decide (c ∉ order) := by
  have hkept : (fun c : Fin 24 => !order.contains c) = fun c => decide (c ∉ order) := by
    funext c
    rw [Bool.eq_iff_iff]
    simp
  rw [meterOrder, eraseDups_of_nodup h, hkept]
  rfl

theorem meterBoundary_cal (p q : Fin 8) (c : Fin 24) (s : State) : (meterBoundary p q c s).cal = s.cal := (meterBoundary_frame p q c s).2.2.2.2.2.2.2.1

/-- R112: the calendar stands still while the meters take the boundary. -/
theorem boundaryMeters_eq (p : Fin 8) (order : List (Fin 24)) {q : Fin 8} {s : State} (hq : s.cal.period = q) :
    boundaryMeters p order s = order.foldl (fun t c => meterBoundary p q c t) s ∧ (boundaryMeters p order s).cal.period = q := by
  unfold boundaryMeters
  induction order generalizing s with
  | nil => exact ⟨rfl, hq⟩
  | cons c order ih =>
    rw [List.foldl_cons, List.foldl_cons, hq]
    exact ih (by rw [meterBoundary_cal]; exact hq)

theorem exec_secondBoundary {s : State} (h : s.inReset = false) (hv : s.cal.valid = true) {d : Nat} (hd : s.cal.boundary = some d) (order : List (Fin 24)) :
    exec (.secondBoundary order) s = .next (secondBoundary order { s with now := max s.now d, cal := { s.cal with boundary := some (d + 10) } }) := by
  dsimp only [exec, execSecondBoundary]
  rw [whenRunning_run h, if_pos hv, hd, whenDue_some]
  rfl

theorem exec_secondBoundary_none {s : State} (h : s.inReset = false) (hn : s.cal.valid = false ∨ s.cal.boundary = none) (order : List (Fin 24)) :
    exec (.secondBoundary order) s = .next s := by
  dsimp only [exec, execSecondBoundary]
  rw [whenRunning_run h]
  split
  · next hv => rw [hn.resolve_left (by rw [hv]; decide), whenDue_none]
  · rfl

/-- R91 steps 2 and 3: the calendar after the clock has advanced and the day is recomputed. -/
def Calendar.advanced (hw : Nat) (c : Calendar) : Calendar :=
  let d := { c with clock := c.clock.advance.1 }
  if c.clock.advance.2.2 then d.withDay hw else d

/-- R91 steps 2 to 4. -/
theorem advanceClock_eq (s : State) : advanceClock s = { s with
    cal :=
      if s.cal.clock.advance.2.1 then (s.cal.advanced s.params.holidayWeekday).evaluated (s.cal.advanced s.params.holidayWeekday).evaluate
      else s.cal.advanced s.params.holidayWeekday } := by
  unfold Calendar.advanced
  unfold advanceClock
  dsimp only
  cases s.cal.clock.advance.2.2 <;> cases s.cal.clock.advance.2.1
  · rfl
  · rfl
  · exact recomputeDay_eq _
  · simp only [if_true, recomputeDay_eq]
    rfl

/-- Settles O29: the clock, the day and the period first, then the meters in their order, then the permit reports of a new period. -/
theorem secondBoundary_obligation : Obligations.SecondBoundary := by
  intro s order hr hnodup
  refine ⟨fun d hd hv hw hkw hhw => ?_, fun hn => exec_secondBoundary_none hr hn order⟩
  intro k days minuteOver hourOver midnight monthOver yearOver clock c1 c2
  have hadvance : k.advance = (clock, decide minuteOver, decide midnight) := by
    rw [Clock.advance_eq, Clock.lastDay_eq]
  let s0 : State := { s with now := max s.now d, cal := { s.cal with boundary := some (d + 10) } }
  have hc2 : s0.cal.advanced s.params.holidayWeekday = c2 := by
    have hk : s0.cal.clock.advance = k.advance := rfl
    simp only [Calendar.advanced, hk, hadvance, decide_eq_true_eq]
    rfl
  have hclock : advanceClock s0 = { s0 with cal := if minuteOver then c2.evaluated c2.evaluate else c2 } := by
    have hk : s0.cal.clock.advance = k.advance := rfl
    rw [advanceClock_eq, hk, hadvance, show s0.params.holidayWeekday = s.params.holidayWeekday from rfl, hc2]
    simp only [decide_eq_true_eq]
  have hperiod : c2.period = s.cal.period := by
    unfold c2
    split <;> rfl
  refine ⟨if minuteOver then c2.evaluate else s.cal.period, fun hm => ?_, fun hm => if_neg hm, ?_⟩
  · rw [if_pos hm]
    exact Calendar.gives_evaluate
  generalize hq : (if minuteOver then c2.evaluate else s.cal.period) = q
  intro s1 served
  have hs1 : advanceClock s0 = s1 := by
    rw [hclock]
    unfold s1
    rw [← hq]
    split <;> rfl
  have hs1q : s1.cal.period = q := by
    unfold s1
    rw [← hq]
    split
    · rfl
    · exact hperiod
  obtain ⟨hmeters, hservedq⟩ := boundaryMeters_eq s.cal.period (meterOrder order) hs1q
  rw [meterOrder_eq hnodup] at hmeters
  have hboundary : secondBoundary order s0 = if q = s.cal.period then served else permitReports s.cal.period served := by
    unfold secondBoundary
    dsimp only
    rw [hs1, show s0.cal.period = s.cal.period from rfl, hservedq, meterOrder_eq hnodup, hmeters]
  rw [exec_secondBoundary hr hv hd order]
  exact ⟨fun h => congrArg Host.Outcome.next (hboundary.trans (if_pos h)), fun h => congrArg Host.Outcome.next (hboundary.trans (if_neg h))⟩

end Sys2Proof.Machine
end

section
/-! The completion of a lookup: the refusals (R36 to R45) and the admission (R46). -/

namespace Sys2Proof.Machine

open Sys2Proof

/-! ## The lookup field cleared (R35) -/

theorem Line.placeAll_withDialogue (ln : Line) (d : Dialogue) (cs : List Byte) :
    Line.placeAll { ln with dialogue := d } cs = { ln.placeAll cs with dialogue := d } := by
  induction cs generalizing ln with
  | nil => rfl
  | cons c cs ih =>
    have hplace : Line.place { ln with dialogue := d } c = { ln.place c with dialogue := d } := by
      unfold Line.place
      dsimp only
      split <;> rfl
    rw [Line.placeAll_cons, Line.placeAll_cons, hplace, ih]

/-- R35: the line with its lookup field none. -/
def Line.answered (ln : Line) : Line := { ln with dialogue := { ln.dialogue with lookup := .none } }

section Completion

variable {s : State} {l : Fin 32} (hd : (s.line l).dialogue.deferred = false)

include hd

theorem clearLookup_eq : clearLookup l s = s.setLine l (s.line l).answered := by
  rw [clearLookup, State.updLine_eq]
  simp only [← hd]
  rfl

theorem exec_lookupCompletion (hr : s.inReset = false) (hlk : (s.line l).dialogue.lookup = .inFlight) : exec (.lookupCompletion l) s =
    .next (decideLookup l (s.dir.find (s.line l).dialogue.code) (s.setLine l (s.line l).answered)) := by
  dsimp only [exec, execLookupCompletion]
  rw [whenRunning_run hr, hd, if_neg Bool.false_ne_true, hlk]
  dsimp only
  rw [clearLookup_eq hd]

end Completion

/-! ## Refusals (R36 to R45) -/

section Refusals

variable {s : State} {l : Fin 32}

/-- Section 2.6: the state of a call refused with message `m`. -/
def State.callRefused (s : State) (l : Fin 32) (m : Fin 24) : State :=
  drainEnd (s.setLine l (Line.draining s.now ((s.line l).refused (s.message m) .none)))

theorem refuseCall_answered (hl : (s.line l).state = .checking) (m : Fin 24) :
    refuseCall l m (s.setLine l (s.line l).answered) = s.callRefused l m := by
  have hin : ((s.setLine l (s.line l).answered).line l).state.inDialogue = true := by
    rw [State.setLine_line_same]
    exact congrArg LineState.inDialogue hl
  rw [refuseCall_eq hin, State.setLine_line_same, State.setLine_setLine, Line.refused_eq, Line.refused, Line.answered, Line.placeAll_withDialogue]
  rfl

theorem State.callRefused_eq (m : Fin 24) : s.callRefused l m = drainEnd (s.setLine l { (s.line l).refused (s.message m) .none with
    state := .draining, timers := { (s.line l).timers with signOn := none, idle := none, drain := some (s.now + 100) } }) := by
  rw [State.callRefused, Line.draining, show ((s.line l).refused (s.message m) .none).timers = (s.line l).timers from Line.placeAll_timers ..]

theorem decideLookup_closed {u : State} (h : u.mgt.service ≠ .opened) (found : Option (Nat × Entry)) :
    decideLookup l found u = refuseCall l 21 u := if_pos h

theorem decideLookup_none {u : State} (h : u.mgt.service = .opened) : decideLookup l none u = refusePassword l none u :=
  if_neg (not_not_intro h)

section Found

variable {u : State} {i : Nat} {e : Entry} (h : u.mgt.service = .opened)

include h

theorem decideLookup_password (hp : e.password ≠ padTo 8 (u.line l).dialogue.password) :
    decideLookup l (some (i, e)) u = refusePassword l (some i) u :=
  (if_neg (not_not_intro h)).trans (if_pos hp)

theorem decideLookup_locked (hp : e.password = padTo 8 (u.line l).dialogue.password) (hk : (u.dir.shadowOf i).locked = true) :
    decideLookup l (some (i, e)) u = refuseLocked l u :=
  (if_neg (not_not_intro h)).trans ((if_neg (not_not_intro hp)).trans (if_pos hk))

theorem decideLookup_refused (hp : e.password = padTo 8 (u.line l).dialogue.password) (hk : (u.dir.shadowOf i).locked = false) {m : Fin 24}
    (hm : u.callRefusal e = some m) : decideLookup l (some (i, e)) u = refuseCall l m u := by
  refine (if_neg (not_not_intro h)).trans ((if_neg (not_not_intro hp)).trans ((if_neg (by rw [hk]; decide)).trans ?_))
  rw [hm]

theorem decideLookup_admits (hp : e.password = padTo 8 (u.line l).dialogue.password) (hk : (u.dir.shadowOf i).locked = false)
    (hm : u.callRefusal e = none) : decideLookup l (some (i, e)) u = admitCaller l i e u := by
  refine (if_neg (not_not_intro h)).trans ((if_neg (not_not_intro hp)).trans ((if_neg (by rw [hk]; decide)).trans ?_))
  rw [hm]

end Found

theorem State.accountUsable_iff {e : Entry} : s.accountUsable e = true ↔
    e.enabled = true ∧ (s.account e.account).state = .active ∧ -((s.account e.account).overdraft : Int) < (s.account e.account).balance := by
  simp only [State.accountUsable, Bool.and_eq_true, decide_eq_true_eq, and_assoc]
  rfl

theorem State.shed_iff {e : Entry} : (s.shedding && !s.cal.classes[e.cls].essential) = false ↔
    s.shedding = false ∨ s.cal.classes[e.cls].essential = true := by
  rw [Bool.and_eq_false_iff, Bool.not_eq_false']

section CallRefusal

variable {e : Entry}

theorem State.callRefusal_account (h : ¬ s.accountUsable e = true) : s.callRefusal e = some 5 := if_pos (by simpa using h)

variable (hu : s.accountUsable e = true)

include hu

theorem State.callRefusal_notNow (h : s.cal.permits[s.cal.period][e.cls] ≠ .opened) : s.callRefusal e = some 6 :=
  (if_neg (by simpa using hu)).trans (if_pos h)

variable (ho : s.cal.permits[s.cal.period][e.cls] = .opened)

include ho

theorem State.callRefusal_busy (h : ¬ (s.shedding && !s.cal.classes[e.cls].essential) = false) : s.callRefusal e = some 7 :=
  (if_neg (by simpa using hu)).trans ((if_neg (not_not_intro ho)).trans (if_pos (Bool.not_eq_false _ ▸ h)))

variable (hk : (s.shedding && !s.cal.classes[e.cls].essential) = false)

include hk

theorem State.callRefusal_limit (h : (s.account e.account).limit ≤ (s.account e.account).openCount) : s.callRefusal e = some 8 :=
  (if_neg (by simpa using hu)).trans ((if_neg (not_not_intro ho)).trans ((if_neg (by rw [hk]; decide)).trans (if_pos h)))

theorem State.callRefusal_full (h : (s.account e.account).openCount < (s.account e.account).limit) (hq : 16 ≤ s.queue.length) :
    s.callRefusal e = some 9 :=
  (if_neg (by simpa using hu)).trans ((if_neg (not_not_intro ho)).trans ((if_neg (by rw [hk]; decide)).trans
    ((if_neg (Nat.not_le.mpr h)).trans (if_pos hq))))

theorem State.callRefusal_none (h : (s.account e.account).openCount < (s.account e.account).limit) (hq : s.queue.length < 16) :
    s.callRefusal e = none :=
  (if_neg (by simpa using hu)).trans ((if_neg (not_not_intro ho)).trans ((if_neg (by rw [hk]; decide)).trans
    ((if_neg (Nat.not_le.mpr h)).trans (if_neg (Nat.not_le.mpr hq)))))

end CallRefusal

end Refusals

/-! ## Refused attempts (R38 to R40, R49) -/

section Attempts

/-- R38, R39: the line with one more attempt and one more sign-on failure. -/
def Line.failedAttempt (ln : Line) : Line :=
  { ln with attempts := ln.attempts + 1, counters := { ln.counters with failures := raise ln.counters.failures } }

/-- R38, R39: the state of a refused attempt before its end: message `m` placed, the attempt counted and `dir` in place. -/
def State.attemptRefused (s : State) (l : Fin 32) (m : Fin 24) (dir : Directory) : State :=
  { s with dir := dir }.setLine l ((s.line l).answered.placeAll (framedText (s.message m))).failedAttempt

variable {s : State} {l : Fin 32}

theorem countAttempt_answered (m : Fin 24) :
    countAttempt l (placeMessage l m (s.setLine l (s.line l).answered)) = s.attemptRefused l m s.dir := by
  rw [placeMessage_setLine, countAttempt, State.updLine_setLine]
  rfl

theorem refusePassword_answered_none : refusePassword l none (s.setLine l (s.line l).answered) =
    afterRefusedAttempt l (s.attemptRefused l 3 s.dir) := by
  rw [← countAttempt_answered 3]
  rfl

theorem refusePassword_answered_some (i : Nat) : refusePassword l (some i) (s.setLine l (s.line l).answered) =
    afterRefusedAttempt l (s.attemptRefused l 3 (s.dir.setShadow i ((s.dir.shadowOf i).failed s.params.lockout))) := by
  have hrecord : ∀ u : State, recordFailure i (u.setLine l (s.line l).answered) =
      { u with dir := u.dir.setShadow i ((u.dir.shadowOf i).failed u.params.lockout) }.setLine l (s.line l).answered := fun _ => rfl
  show afterRefusedAttempt l (recordFailure i (countAttempt l (placeMessage l 3 (s.setLine l (s.line l).answered)))) = _
  rw [countAttempt_answered]
  rfl

theorem refuseLocked_answered : refuseLocked l (s.setLine l (s.line l).answered) = afterRefusedAttempt l (s.attemptRefused l 4 s.dir) := by
  rw [← countAttempt_answered 4]
  rfl

variable (hl : (s.line l).state = .checking) (m : Fin 24) (dir : Directory)

theorem State.attemptRefused_attempts : ((s.attemptRefused l m dir).line l).attempts = (s.line l).attempts + 1 := by
  rw [State.attemptRefused, State.setLine_line_same]
  exact congrArg (· + 1) (Line.placeAll_attempts ..)

theorem State.attemptRefused_groupOf : (s.attemptRefused l m dir).groupOf ((s.attemptRefused l m dir).line l) = s.groupOf (s.line l) := by
  rw [State.attemptRefused, State.setLine_line_same]
  exact State.groupOf_congr (s := s) (Line.placeAll_group ..)

include hl

theorem State.attemptRefused_state : ((s.attemptRefused l m dir).line l).state = .checking := by
  rw [State.attemptRefused, State.setLine_line_same]
  exact (Line.placeAll_state ..).trans hl

/-- R40: an attempt below the group's attempts is followed by a new user prompt. -/
theorem afterRefusedAttempt_retries (hr : s.inReset = false) (h : (s.line l).attempts + 1 < (s.groupOf (s.line l)).attempts) :
    exec (.prompt l) ({ s with dir := dir }.setLine l { ((s.line l).placeAll (framedText (s.message m))).failedAttempt with
      state := .signon
      dialogue := { (s.line l).dialogue with phase := .userPrompt, user := [], password := [], lookup := .none } }) =
    .next (afterRefusedAttempt l (s.attemptRefused l m dir)) := by
  rw [exec_prompt (s := State.setLine { s with dir := dir } l _) hr (by rw [State.setLine_line_same]), afterRefusedAttempt, State.attemptRefused_attempts, State.attemptRefused_groupOf,
    if_pos h, State.updLine_eq, retryRequest, if_pos (by rw [State.setLine_line_same]; exact State.attemptRefused_state hl m dir),
    State.updLine_setLine, State.attemptRefused, State.setLine_line_same, State.setLine_setLine, Line.answered,
    Line.placeAll_withDialogue _ { (s.line l).dialogue with lookup := .none }]
  rfl

/-- R40: the last attempt of the group ends the call. -/
theorem afterRefusedAttempt_ends (h : (s.groupOf (s.line l)).attempts ≤ (s.line l).attempts + 1) :
    afterRefusedAttempt l (s.attemptRefused l m dir) =
    drainEnd ({ s with dir := dir }.setLine l { ((s.line l).placeAll (framedText (s.message m))).failedAttempt with
      state := .draining
      timers := { (s.line l).timers with signOn := none, idle := none, drain := some (s.now + 100) }
      dialogue := { (s.line l).dialogue with phase := .none, user := [], password := [], lookup := .none } }) := by
  rw [afterRefusedAttempt, State.attemptRefused_attempts, State.attemptRefused_groupOf, if_neg (Nat.not_lt.mpr h), endDialogue, State.updLine_eq,
    refuseRequest_eq (by rw [State.setLine_line_same]; exact congrArg LineState.inDialogue (State.attemptRefused_state hl m dir)),
    State.setLine_line_same, State.setLine_setLine, State.attemptRefused, State.setLine_line_same, State.setLine_setLine, Line.answered,
    Line.placeAll_withDialogue, Line.draining, Line.failedAttempt, Line.placeAll_timers]
  rfl

end Attempts

/-- Settles O16: each check in the order of R36, and the two ends of a refused attempt. -/
theorem lookupRefuses : Obligations.LookupRefuses := by
  unfold Obligations.LookupRefuses
  refine ⟨fun s l hr hl hk hd => ⟨fun h => ?_, fun i e hs hf hp hlk => ?_⟩, fun s l hr hl hk hd hs => ?_⟩
  · rw [exec_lookupCompletion hd hr hk, decideLookup_closed (u := s.setLine l (s.line l).answered) h, refuseCall_answered hl, State.callRefused_eq]
  · have hdecide : ∀ m : Fin 24, s.callRefusal e = some m → exec (.lookupCompletion l) s = .next (s.callRefused l m) := fun m hm => by
      rw [exec_lookupCompletion hd hr hk, hf,
        decideLookup_refused (u := s.setLine l (s.line l).answered) hs (by rw [State.setLine_line_same]; exact hp) hlk hm, refuseCall_answered hl]
    simp only [← State.callRefused_eq]
    refine ⟨fun hu => hdecide 5 (State.callRefusal_account (mt State.accountUsable_iff.mp hu)), fun hu ho => hdecide 6 ?_,
      fun hu ho hkept => hdecide 7 ?_, fun hu ho hkept hlim => hdecide 8 ?_, fun hu ho hkept hlim hq => hdecide 9 ?_⟩
    · exact State.callRefusal_notNow (State.accountUsable_iff.mpr hu) ho
    · exact State.callRefusal_busy (State.accountUsable_iff.mpr hu) ho (mt State.shed_iff.mp hkept)
    · exact State.callRefusal_limit (State.accountUsable_iff.mpr hu) ho (State.shed_iff.mpr hkept) hlim
    · exact State.callRefusal_full (State.accountUsable_iff.mpr hu) ho (State.shed_iff.mpr hkept) hlim hq
  · have hends : ∀ (m : Fin 24) (dir : Directory), exec (.lookupCompletion l) s = .next (afterRefusedAttempt l (s.attemptRefused l m dir)) →
        ((s.line l).attempts + 1 < (s.groupOf (s.line l)).attempts → exec (.lookupCompletion l) s = exec (.prompt l) ({ s with
            dir := dir }.setLine l { ((s.line l).placeAll (framedText (s.message m))).failedAttempt with
          state := .signon
          dialogue := { (s.line l).dialogue with phase := .userPrompt, user := [], password := [], lookup := .none } })) ∧
        ((s.groupOf (s.line l)).attempts ≤ (s.line l).attempts + 1 → exec (.lookupCompletion l) s = .next (drainEnd ({ s with
            dir := dir }.setLine l { ((s.line l).placeAll (framedText (s.message m))).failedAttempt with
          state := .draining
          timers := { (s.line l).timers with signOn := none, idle := none, drain := some (s.now + 100) }
          dialogue := { (s.line l).dialogue with phase := .none, user := [], password := [], lookup := .none } }))) := fun m dir hx =>
      ⟨fun h => hx.trans (afterRefusedAttempt_retries hl m dir hr h).symm,
        fun h => hx.trans (congrArg Host.Outcome.next (afterRefusedAttempt_ends hl m dir h))⟩
    refine ⟨fun hf => hends 3 _ ?_, fun i e hf hp => hends 3 _ ?_, fun i e hf hp hlk => hends 4 _ ?_⟩
    · rw [exec_lookupCompletion hd hr hk, hf, decideLookup_none (u := s.setLine l (s.line l).answered) hs, refusePassword_answered_none]
    · rw [exec_lookupCompletion hd hr hk, hf,
        decideLookup_password (u := s.setLine l (s.line l).answered) hs (by rw [State.setLine_line_same]; exact hp), refusePassword_answered_some]
      rfl
    · rw [exec_lookupCompletion hd hr hk, hf,
        decideLookup_locked (u := s.setLine l (s.line l).answered) hs (by rw [State.setLine_line_same]; exact hp) hlk, refuseLocked_answered]

/-! ## Admission (R46, R126) -/

/-- R126: the place of a new waiter in the queue: the waiters before it and the waiters after it. -/
def State.joinPoint (s : State) (priority : Bool) : List Waiter × List Waiter :=
  (if priority then s.queue.takeWhile (·.priority) else s.queue, if priority then s.queue.dropWhile (·.priority) else [])

/-- R127: the record of a caller that joins the queue now. -/
def State.newWaiter (s : State) (l : Fin 32) (priority : Bool) : Waiter :=
  ⟨l, priority, s.now, s.now + s.params.queueWait * Config.minute, s.noticeTimer⟩

section Admission

variable {s : State} {l : Fin 32}

theorem joinQueue_eq (hfresh : ∀ w ∈ s.queue, w.line ≠ l) (p : Bool) : joinQueue l p s =
    { s with queue := (s.joinPoint p).1 ++ s.newWaiter l p :: (s.joinPoint p).2 }.setLine l
      (Line.request s.now 10 ((s.joinPoint p).1.length + 1 : Nat) (s.line l)) := by
  have hbefore : ∀ v ∈ (s.joinPoint p).1, v.line ≠ l := by
    cases p with
    | false => exact hfresh
    | true => exact fun v hv => hfresh v ((List.takeWhile_prefix _).subset hv)
  have hposition := State.position_split (s := { s with queue := (s.joinPoint p).1 ++ s.newWaiter l p :: (s.joinPoint p).2 })
    (l := l) (w := s.newWaiter l p) rfl rfl hbefore
  have hjoin : joinQueue l p s = notify l 10
      (State.position { s with queue := (s.joinPoint p).1 ++ s.newWaiter l p :: (s.joinPoint p).2 } l)
      { s with queue := (s.joinPoint p).1 ++ s.newWaiter l p :: (s.joinPoint p).2 } := by
    cases p <;> rfl
  rw [hjoin, hposition]
  rfl

theorem joinQueue_setLine (hfresh : ∀ w ∈ s.queue, w.line ≠ l) (p : Bool) (ln : Line) : joinQueue l p (s.setLine l ln) =
    { s with queue := (s.joinPoint p).1 ++ s.newWaiter l p :: (s.joinPoint p).2 }.setLine l
      (Line.request s.now 10 ((s.joinPoint p).1.length + 1 : Nat) ln) := by
  rw [joinQueue_eq (s := s.setLine l ln) hfresh, State.setLine_line_same]
  exact State.setLine_setLine { s with queue := (s.joinPoint p).1 ++ s.newWaiter l p :: (s.joinPoint p).2 } l ln _

/-- R46: the line of an admitted caller, before its position notice. -/
def Line.admitted (ln : Line) (a : Admission) : Line :=
  { ln with
    state := .waiting
    admission := some a
    timers := { ln.timers with signOn := none }
    dialogue := { ln.dialogue with phase := .none, user := [], password := [], lookup := .none } }

/-- R46: the entry's failures cleared and the account's open count raised. -/
def State.counted (s : State) (i : Nat) (a : Fin 256) : State :=
  { s with
    dir := s.dir.setShadow i { s.dir.shadowOf i with failures := 0 }
    accounts := s.accounts.set a { s.account a with openCount := (s.account a).openCount + 1 } }

theorem endDialogue_setLine (u : State) (ln : Line) :
    endDialogue l (u.setLine l ln) = u.setLine l { ln with dialogue := ln.dialogue.ended } := by
  rw [endDialogue, State.updLine_setLine]

theorem admitRequest_setLine (u : State) {ln : Line} (h : ln.state = .checking) : admitRequest l (u.setLine l ln) =
    u.setLine l { ln with state := .waiting, timers := { ln.timers with signOn := none } } := by
  rw [admitRequest, if_pos (by rw [State.setLine_line_same]; exact h), State.updLine_setLine]

theorem admitCaller_answered (hl : (s.line l).state = .checking) (i : Nat) (e : Entry) :
    admitCaller l i e (s.setLine l (s.line l).answered) = joinQueue l s.cal.classes[e.cls].priority ((s.counted i e.account).setLine l
      ((s.line l).admitted ⟨(s.line l).dialogue.code, e.account, e.cls, s.cal.classes[e.cls].priority⟩)) := by
  have hcount : ∀ (ln : Line) (a : Admission), ((resetFailures i (s.setLine l ln)).updLine l fun x => { x with admission := some a }).updAccount
      e.account (fun a => { a with openCount := a.openCount + 1 }) = (s.counted i e.account).setLine l { ln with admission := some a } :=
    fun ln a => congrArg (State.updAccount · _ _) (State.updLine_setLine ({ s with
      dir := s.dir.setShadow i { s.dir.shadowOf i with failures := 0 } }) l ln _)
  rw [admitCaller, State.setLine_line_same]
  rw [hcount, endDialogue_setLine, admitRequest_setLine _ (by exact hl)]
  rfl

end Admission

/-- Settles O17: the completion that passes every check of R36. -/
theorem lookupAdmits : Obligations.LookupAdmits := by
  unfold Obligations.LookupAdmits
  intro s l i e hr hl hk hd hs hf hp hlk hen hact hbal ho hkept hlim hq hfresh
  have hpass : s.callRefusal e = none :=
    State.callRefusal_none (State.accountUsable_iff.mpr ⟨hen, hact, hbal⟩) ho (State.shed_iff.mpr hkept) hlim hq
  rw [exec_lookupCompletion hd hr hk, hf,
    decideLookup_admits (u := s.setLine l (s.line l).answered) hs (by rw [State.setLine_line_same]; exact hp) hlk hpass,
    admitCaller_answered hl, joinQueue_setLine (s := s.counted i e.account) hfresh]
  rfl

end Sys2Proof.Machine
end

section
/-! The directory's commands and writes: READ ENTRY, FIND USER, UNLOCK USER, READ PROTECTION (R65 to R68), COMMIT PAGE (R57), the write completions (R58, R61, R64) and the stage timer's expiry (R56). -/

namespace Sys2Proof.Machine

open Sys2Proof

/-! ## The store as a list (R47, R50) -/

section Sparse

variable {α : Type} [DecidableEq α] {d : α}

theorem sparseGet_of_mem {l : List (Nat × α)} (h : sparseWf d l = true) {k : Nat} {w : α} (hm : (k, w) ∈ l) : sparseGet d l k = w := by
  induction l with
  | nil => exact absurd hm List.not_mem_nil
  | cons e t ih =>
    obtain ⟨j, v⟩ := e
    obtain ⟨hlow, -, ht⟩ := sparseWf_cons.mp h
    rcases List.mem_cons.mp hm with heq | hmem
    · obtain ⟨rfl, rfl⟩ := Prod.mk.inj heq
      exact if_pos rfl
    · have hne : j ≠ k := by
        have hle : j + 1 ≤ k := hlow _ hmem
        omega
      exact (if_neg hne).trans (ih ht hmem)

omit [DecidableEq α] in
theorem sparseGet_mem {l : List (Nat × α)} {k : Nat} (h : sparseGet d l k ≠ d) : (k, sparseGet d l k) ∈ l := by
  induction l with
  | nil => exact absurd rfl h
  | cons e t ih =>
    obtain ⟨j, v⟩ := e
    simp only [sparseGet] at h ⊢
    split at h
    · next hjk =>
      subst hjk
      rw [if_pos rfl]
      exact List.mem_cons_self ..
    · next hjk =>
      rw [if_neg hjk]
      exact List.mem_cons_of_mem _ (ih h)

end Sparse

section Store

variable {d : Directory} (hwf : d.wf = true)

include hwf

theorem Directory.entry_of_mem {k : Nat} {e : Entry} (h : (k, e) ∈ d.store) : d.entry k = e :=
  sparseGet_of_mem (Directory.wf_iff.mp hwf).1 h

theorem Directory.find_lowest {i : Nat} {code : List Byte} (hc : code ≠ spaces 6) (hi : (d.entry i).code = code)
    (hlow : ∀ j < i, (d.entry j).code ≠ code) : d.find code = some (i, d.entry i) := by
  have hne : d.entry i ≠ Entry.empty := fun h => hc (hi.symm.trans (congrArg Entry.code h))
  obtain ⟨front, back, hsplit⟩ := List.append_of_mem (sparseGet_mem hne)
  have hfront : ∀ x ∈ front, ¬ (!x.2.isEmpty && decide (x.2.code = code)) = true := fun x hx => by
    have hmem : x ∈ d.store := hsplit ▸ List.mem_append_left _ hx
    have hlt : x.1 < i := by
      have hsorted : d.store.Pairwise fun a b => a.1 < b.1 := of_decide_eq_true (Bool.and_eq_true_iff.mp (Directory.wf_iff.mp hwf).1).1
      rw [hsplit] at hsorted
      exact (List.pairwise_append.mp hsorted).2.2 x hx _ (List.mem_cons_self ..)
    have hcode : x.2.code ≠ code := Directory.entry_of_mem hwf hmem ▸ hlow x.1 hlt
    simp [hcode]
  have hhit : (!(d.entry i).isEmpty && decide ((d.entry i).code = code)) = true := by
    rw [Entry.isEmpty, hi, decide_eq_false hc, decide_eq_true rfl]
    rfl
  rw [Directory.find, hsplit, List.find?_append, List.find?_eq_none.mpr hfront, Option.none_or]
  exact List.find?_cons_of_pos hhit

theorem Directory.find_none {code : List Byte} (h : code = spaces 6 ∨ ∀ i, (d.entry i).code ≠ code) : d.find code = none := by
  refine List.find?_eq_none.mpr fun x hx => ?_
  rcases h with rfl | hno
  · simp [Entry.isEmpty]
  · have hcode : x.2.code ≠ code := Directory.entry_of_mem hwf hx ▸ hno x.1
    simp [hcode]

end Store

/-! ## The entry commands (R65 to R68) -/

section EntryCommands

variable {s : State}

theorem cmdReadProtection_busy (h : s.dir.stage.state = .committing) (key : Bool) :
    cmdReadProtection key s = ({ s with key := key }, busy) := if_pos h

theorem cmdReadProtection_done (h : s.dir.stage.state ≠ .committing) (key : Bool) : cmdReadProtection key s =
    ({ s with key := key }, .reply .done [s.dir.protect, flagByte s.dir.tariffs, flagByte key]) := if_neg h

theorem cmdReadEntry_none {index : Half} (h : 1024 ≤ index.toNat) : cmdReadEntry index s = (s, badValue) := by
  rw [cmdReadEntry, indexOf_none h]

theorem cmdUnlockUser_none {index : Half} (h : 1024 ≤ index.toNat) : cmdUnlockUser index s = (s, badValue) := by
  rw [cmdUnlockUser, indexOf_none h]

section Index

variable {index : Half} (hi : index.toNat < 1024)

include hi

theorem cmdReadEntry_busy (h : s.dir.stage.state = .committing) : cmdReadEntry index s = (s, busy) := by
  rw [cmdReadEntry, indexOf_eq (k := ⟨index.toNat, hi⟩) rfl]
  exact if_pos h

theorem cmdReadEntry_done (h : s.dir.stage.state ≠ .committing) : cmdReadEntry index s =
    (s, .reply .done (entryData (s.dir.entry index.toNat) (s.dir.shadowOf index.toNat))) := by
  rw [cmdReadEntry, indexOf_eq (k := ⟨index.toNat, hi⟩) rfl]
  exact if_neg h

theorem cmdUnlockUser_busy (h : s.dir.stage.state = .committing) : cmdUnlockUser index s = (s, busy) := by
  rw [cmdUnlockUser, indexOf_eq (k := ⟨index.toNat, hi⟩) rfl]
  exact if_pos h

theorem cmdUnlockUser_done (h : s.dir.stage.state ≠ .committing) : cmdUnlockUser index s =
    ({ s with dir := s.dir.setShadow index.toNat ⟨0, false⟩ }, done) := by
  rw [cmdUnlockUser, indexOf_eq (k := ⟨index.toNat, hi⟩) rfl]
  exact if_neg h

end Index

theorem cmdFindUser_badValue {code : List Byte} (h : ¬ CodeField code) : cmdFindUser code s = (s, badValue) :=
  if_pos (by simpa using mt validCode_iff.mp h)

section Code

variable {code : List Byte} (hcode : CodeField code)

include hcode

theorem cmdFindUser_busy (h : s.dir.stage.state = .committing) : cmdFindUser code s = (s, busy) :=
  (if_neg (by simpa using validCode_iff.mpr hcode)).trans (if_pos h)

theorem cmdFindUser_found (h : s.dir.stage.state ≠ .committing) {i : Nat} {e : Entry} (hf : s.dir.find code = some (i, e)) :
    cmdFindUser code s = (s, .reply .done (be16 i)) := by
  refine (if_neg (by simpa using validCode_iff.mpr hcode)).trans ((if_neg h).trans ?_)
  rw [hf]

theorem cmdFindUser_notFound (h : s.dir.stage.state ≠ .committing) (hf : s.dir.find code = none) :
    cmdFindUser code s = (s, .reply .notFound []) := by
  refine (if_neg (by simpa using validCode_iff.mpr hcode)).trans ((if_neg h).trans ?_)
  rw [hf]

end Code

end EntryCommands

/-- Settles O23: the search returns the lowest index with the code, and a cleared shadow reads back at its own index only. -/
theorem entryCommands : Obligations.EntryCommands := by
  unfold Obligations.EntryCommands
  intro s tag index code key hs hwf
  refine ⟨fun hb => command_answers hs (cmdReadProtection_busy hb key), fun hb => command_answers hs (cmdReadProtection_done hb key),
    fun hi => ⟨command_answers hs (cmdReadEntry_none hi), command_answers hs (cmdUnlockUser_none hi)⟩,
    fun hi hb => ⟨command_answers hs (cmdReadEntry_busy hi hb), command_answers hs (cmdUnlockUser_busy hi hb)⟩,
    fun hi hb => ⟨command_answers hs (cmdReadEntry_done hi hb), _, command_answers hs (cmdUnlockUser_done hi hb), rfl, ?_, fun j hj => ?_⟩,
    fun hc => command_answers hs (cmdFindUser_badValue hc), fun hc hb => command_answers hs (cmdFindUser_busy hc hb),
    fun hc hb => ⟨fun i hne hcode hlow => ?_, fun hno => ?_⟩⟩
  · exact (Directory.shadowOf_setShadow hwf _ _ _).trans (if_pos rfl)
  · exact (Directory.shadowOf_setShadow hwf _ _ _).trans (if_neg hj)
  · exact command_answers hs (cmdFindUser_found hc hb (Directory.find_lowest hwf hne hcode hlow))
  · exact command_answers hs (cmdFindUser_notFound hc hb (Directory.find_none hwf hno))

/-! ## COMMIT PAGE (R57, R51) -/

section Duplicate

variable {d : Directory}

theorem Directory.entry_mem {k : Nat} (h : d.entry k ≠ .empty) : (k, d.entry k) ∈ d.store := sparseGet_mem h

/-- R57: the rivals of a staged entry are the other indices that carry its code. -/
theorem Directory.mem_rivals (hwf : d.wf = true) {e : Staged} (he : e ∈ d.stage.staged) (hc : e.code ≠ spaces 6) (r : Nat) :
    r ∈ d.rivals e ↔ r ≠ e.index.val ∧ d.Carries r e.code := by
  rw [Directory.rivals, Directory.Carries, List.mem_append]
  simp only [List.mem_map, List.mem_filter, Bool.and_eq_true, decide_eq_true_eq, Bool.not_eq_true', List.any_eq_false]
  constructor
  · rintro (⟨x, ⟨hx, hcode, hout⟩, rfl⟩ | ⟨y, ⟨hy, hcode, hne⟩, rfl⟩)
    · refine ⟨fun h => hout e he h.symm, .inr ⟨fun y hy h => hout y hy h, ?_⟩⟩
      rw [Directory.entry_of_mem hwf (e := x.2) hx, hcode]
    · exact ⟨fun h => hne (Fin.ext h), .inl ⟨y, hy, rfl, hcode⟩⟩
  · rintro ⟨hne, ⟨y, hy, rfl, hcode⟩ | ⟨hout, hcode⟩⟩
    · exact .inr ⟨y, ⟨hy, hcode, fun h => hne (congrArg Fin.val h)⟩, rfl⟩
    · have hstored : d.entry r ≠ .empty := fun h => hc (hcode.symm.trans (congrArg Entry.code h))
      exact .inl ⟨(r, d.entry r), ⟨Directory.entry_mem hstored, hcode, fun y hy => hout y hy⟩, rfl⟩

/-- R57: what one staged entry gives the DUPLICATE reply. -/
def Directory.clash (d : Directory) (e : Staged) : Option (Nat × Nat) :=
  if e.code = spaces 6 then none else ((d.rivals e).min?).map fun r => (e.index.val, r)

theorem Directory.clash_none (hwf : d.wf = true) {e : Staged} (he : e ∈ d.stage.staged) (h : ¬ d.Conflict e) : d.clash e = none := by
  unfold Directory.clash
  split
  · rfl
  · next hc =>
    have hnil : d.rivals e = [] := List.eq_nil_iff_forall_not_mem.mpr fun r hr => h ⟨hc, r, (Directory.mem_rivals hwf he hc r).mp hr⟩
    rw [hnil]
    rfl

theorem Directory.clash_some (hwf : d.wf = true) {e : Staged} (he : e ∈ d.stage.staged) (hc : e.code ≠ spaces 6) {r : Nat}
    (hne : r ≠ e.index.val) (hr : d.Carries r e.code) (hlow : ∀ j, j ≠ e.index.val → d.Carries j e.code → r ≤ j) :
    d.clash e = some (e.index.val, r) := by
  have hmin : (d.rivals e).min? = some r := List.min?_eq_some_iff.mpr ⟨(Directory.mem_rivals hwf he hc r).mpr ⟨hne, hr⟩, fun j hj => by
    obtain ⟨hj, hcarry⟩ := (Directory.mem_rivals hwf he hc j).mp hj
    exact hlow j hj hcarry⟩
  rw [Directory.clash, if_neg hc, hmin]
  rfl

theorem Directory.duplicate_none (hwf : d.wf = true) (h : ∀ e ∈ d.stage.staged, ¬ d.Conflict e) : d.duplicate = none :=
  List.findSome?_eq_none_iff.mpr fun e he => Directory.clash_none hwf he (h e he)

theorem Directory.duplicate_some (hwf : d.wf = true) (hord : d.stage.staged.Pairwise fun a b => a.index < b.index) {e : Staged}
    (he : e ∈ d.stage.staged) (hc : d.Conflict e) (hfirst : ∀ x ∈ d.stage.staged, d.Conflict x → e.index ≤ x.index) {r : Nat}
    (hne : r ≠ e.index.val) (hr : d.Carries r e.code) (hlow : ∀ j, j ≠ e.index.val → d.Carries j e.code → r ≤ j) :
    d.duplicate = some (e.index.val, r) := by
  obtain ⟨front, back, hsplit⟩ := List.append_of_mem he
  have hfront : ∀ x ∈ front, d.clash x = none := fun x hx => by
    have hmem : x ∈ d.stage.staged := hsplit ▸ List.mem_append_left _ hx
    rw [hsplit] at hord
    have hlt : x.index < e.index := (List.pairwise_append.mp hord).2.2 x hx _ (List.mem_cons_self ..)
    exact Directory.clash_none hwf hmem fun hconf => absurd (hfirst x hmem hconf) (not_le.mpr hlt)
  have hclash : d.duplicate = (front ++ e :: back).findSome? d.clash := congrArg (List.findSome? d.clash) hsplit
  rw [hclash, List.findSome?_append, List.findSome?_eq_none_iff.mpr hfront, Option.none_or, List.findSome?_cons,
    Directory.clash_some hwf he hc.1 hne hr hlow]

end Duplicate

section Commit

variable {s : State}

@[simp] theorem State.timerRestarted_duplicate (s : State) : s.timerRestarted.dir.duplicate = s.dir.duplicate := by
  obtain ⟨t, ht⟩ := s.timerRestarted_timer
  rw [ht]
  rfl

theorem State.timerRestarted_pageProtected (s : State) : s.timerRestarted.dir.pageProtected = s.dir.pageProtected := by
  obtain ⟨t, ht⟩ := s.timerRestarted_timer
  rw [ht]
  rfl

theorem beginCommit_timerRestarted (s : State) : beginCommit s.timerRestarted = beginCommit s := by
  obtain ⟨t, ht⟩ := s.timerRestarted_timer
  rw [ht]
  rfl

theorem Directory.pageProtected_eq {d : Directory} {p : Fin 128} (h : d.stage.page = some p) :
    d.pageProtected = d.protect.getLsbD (p.val / 16) := by
  rw [Directory.pageProtected, h, show p.val / 16 = 8 * p.val / 128 by omega]
  rfl

theorem cmdCommitPage_committing (h : s.dir.stage.state = .committing) : cmdCommitPage s = (s, busy) := by
  rw [cmdCommitPage, restartStage_eq, State.timerRestarted_of_committing h, takeCommit, h]

theorem cmdCommitPage_empty (h : s.dir.stage.state = .empty) : cmdCommitPage s = (s, badState) := by
  rw [cmdCommitPage, restartStage_eq, State.timerRestarted, if_neg (by rw [h]; decide), takeCommit, h]

section Staging

variable (h : s.dir.stage.state = .staging)

include h

theorem cmdCommitPage_protected (hp : s.dir.pageProtected = true) : cmdCommitPage s = (s.timerRestarted, isProtected) := by
  rw [cmdCommitPage, restartStage_eq, takeCommit, State.timerRestarted_state, h, State.timerRestarted_pageProtected]
  exact if_pos hp

theorem cmdCommitPage_duplicate (hp : s.dir.pageProtected = false) {a b : Nat} (hd : s.dir.duplicate = some (a, b)) :
    cmdCommitPage s = (s.timerRestarted, .reply .duplicate (be16 a ++ be16 b)) := by
  rw [cmdCommitPage, restartStage_eq, takeCommit, State.timerRestarted_state, h, State.timerRestarted_pageProtected,
    State.timerRestarted_duplicate, hd]
  exact if_neg (Bool.eq_false_iff.mp hp)

theorem cmdCommitPage_begins (hp : s.dir.pageProtected = false) (hd : s.dir.duplicate = none) :
    cmdCommitPage s = (beginCommit s, .writing) := by
  rw [cmdCommitPage, restartStage_eq, takeCommit, State.timerRestarted_state, h, State.timerRestarted_pageProtected,
    State.timerRestarted_duplicate, hd, beginCommit_timerRestarted]
  exact if_neg (Bool.eq_false_iff.mp hp)

end Staging

theorem deferLookups_line (s : State) (l : Fin 32) : (deferLookups s).line l =
    if (s.line l).dialogue.lookup ≠ .none ∧ s.dir.defers (s.line l).dialogue.code = true then
      { s.line l with dialogue := { (s.line l).dialogue with deferred := true } }
    else s.line l := by
  simp only [deferLookups, State.line, Vector.getElem_ofFn, Fin.getElem_fin]

/-- R57: the buffer of a page commit in progress, before the lookups are deferred. -/
def State.committingPage (s : State) : State := s.updStage fun g => { g with state := .committing, write := .page, timer := none }

theorem State.committingPage_defers {p : Fin 128} (hpage : s.dir.stage.page = some p) (code : List Byte) :
    s.committingPage.dir.defers code = true ↔
      (∃ k < 8, (s.dir.entry (8 * p.val + k)).code = code) ∨ ∃ e ∈ s.dir.stage.staged, e.code = code :=
  (Directory.defers_iff _ _).trans ⟨fun ⟨_, q, hq, h⟩ => by
    obtain rfl : p = q := Option.some.inj (hpage.symm.trans hq)
    exact h, fun h => ⟨rfl, p, hpage, h⟩⟩

theorem beginCommit_eq (s : State) : beginCommit s = { s with
    lines := (beginCommit s).lines
    dir := { s.dir with stage := { s.dir.stage with state := .committing, write := .page, timer := none } } } := rfl

theorem beginCommit_line {p : Fin 128} (hpage : s.dir.stage.page = some p) (l : Fin 32) :
    let d := (s.line l).dialogue
    let covered := (∃ k < 8, (s.dir.entry (8 * p.val + k)).code = d.code) ∨ ∃ e ∈ s.dir.stage.staged, e.code = d.code
    (d.lookup ≠ .none → covered → (beginCommit s).line l = { s.line l with dialogue := { d with deferred := true } }) ∧
    (d.lookup = .none ∨ ¬ covered → (beginCommit s).line l = s.line l) := by
  have hline := deferLookups_line s.committingPage l
  refine ⟨fun hl hcov => hline.trans (if_pos ⟨hl, (State.committingPage_defers hpage _).mpr hcov⟩), fun h => hline.trans (if_neg ?_)⟩
  rintro ⟨hl, hcov⟩
  exact h.elim hl fun hn => hn ((State.committingPage_defers hpage _).mp hcov)

end Commit

/-- Settles O20: the checks in order; the rivals of a staged entry are the indices that carry its code. -/
theorem commitPage : Obligations.CommitPage := by
  unfold Obligations.CommitPage
  intro s tag hs hwf hord
  refine ⟨fun h => command_answers hs (cmdCommitPage_committing h), fun h => command_answers hs (cmdCommitPage_empty h),
    fun p hst hpage => ?_⟩
  rw [← Directory.pageProtected_eq hpage]
  refine ⟨fun hp => command_answers hs (cmdCommitPage_protected hst hp), fun hp e r he hc hfirst hne hr hlow => ?_, fun hp hno => ?_⟩
  · exact command_answers hs (cmdCommitPage_duplicate hst hp (Directory.duplicate_some hwf hord.1 he hc hfirst hne hr hlow))
  · refine ⟨_, command_writes hs (cmdCommitPage_begins hst hp (Directory.duplicate_none hwf hno)), ?_, fun l => ?_⟩
    · exact congrArg (fun u : State => { u with mgt := { u.mgt with writing := some (tag, 0x21) } }) (beginCommit_eq s)
    · exact beginCommit_line hpage l

/-! ## Writing a list of staged entries (R58) -/

section Written

variable {β : Type} {f : Directory → Staged → Directory} {read : Directory → Nat → β} {upd : Staged → β → β}
  (hwf : ∀ d e, d.wf = true → (f d e).wf = true)
  (hf : ∀ d e i, d.wf = true → read (f d e) i = if i = e.index.val then upd e (read d i) else read d i)

include hwf hf

theorem Directory.foldl_read_other {i : Nat} : ∀ {es : List Staged} {d : Directory}, d.wf = true → (∀ e ∈ es, e.index.val ≠ i) →
    read (es.foldl f d) i = read d i
  | [], _, _, _ => rfl
  | e :: es, d, hd, hi => by
    rw [List.foldl_cons, Directory.foldl_read_other (hwf d e hd) fun x hx => hi x (List.mem_cons_of_mem _ hx), hf d e i hd,
      if_neg fun h => hi e (List.mem_cons_self ..) h.symm]

theorem Directory.foldl_read_mem {x : Staged} : ∀ {es : List Staged} {d : Directory}, d.wf = true →
    es.Pairwise (fun a b => a.index < b.index) → x ∈ es → read (es.foldl f d) x.index.val = upd x (read d x.index.val)
  | [], _, _, _, hx => absurd hx List.not_mem_nil
  | e :: es, d, hd, hes, hx => by
    obtain ⟨hlow, hes⟩ := List.pairwise_cons.mp hes
    rw [List.foldl_cons]
    rcases List.mem_cons.mp hx with rfl | hmem
    · rw [Directory.foldl_read_other hwf hf (hwf d x hd) fun y hy h => (hlow y hy).ne' (Fin.ext h), hf d x _ hd, if_pos rfl]
    · rw [Directory.foldl_read_mem (hwf d e hd) hes hmem, hf d e _ hd, if_neg fun h => (hlow x hmem).ne' (Fin.ext h)]

end Written

section Commit

variable {d : Directory} (hd : d.wf = true)

/-- R58: one staged entry written and its shadow cleared. -/
def Directory.commitStaged (d : Directory) (e : Staged) : Directory := (d.writeStaged e).setShadow e.index.val .clear

theorem Directory.commit_eq (d : Directory) : d.commit = d.stage.staged.foldl Directory.commitStaged d := rfl

theorem Directory.commitStaged_wf (d : Directory) (e : Staged) (h : d.wf = true) : (d.commitStaged e).wf = true :=
  Directory.setShadow_wf (Directory.writeStaged_wf h e) e.index.isLt _

theorem Directory.writeStaged_entry (d : Directory) (e : Staged) (i : Nat) (h : d.wf = true) : (d.writeStaged e).entry i =
    if i = e.index.val then e.written (d.entry i) else d.entry i := by
  rw [Directory.writeStaged, Directory.entry_setEntry h]
  split
  · next hi => rw [hi]
  · rfl

theorem Directory.commitStaged_entry (d : Directory) (e : Staged) (i : Nat) (h : d.wf = true) : (d.commitStaged e).entry i =
    if i = e.index.val then e.written (d.entry i) else d.entry i := d.writeStaged_entry e i h

theorem Directory.commitStaged_shadow (d : Directory) (e : Staged) (i : Nat) (h : d.wf = true) : (d.commitStaged e).shadowOf i =
    if i = e.index.val then Shadow.clear else d.shadowOf i :=
  Directory.shadowOf_setShadow (Directory.writeStaged_wf h e) _ _ _

/-- R58: a commit writes the store and the shadow alone. -/
theorem Directory.commit_frame (d : Directory) : d.commit.protect = d.protect ∧ d.commit.tariffs = d.tariffs :=
  ⟨foldl_keeps (·.protect) Directory.commitStaged (fun _ _ => rfl) d.stage.staged d,
    foldl_keeps (·.tariffs) Directory.commitStaged (fun _ _ => rfl) d.stage.staged d⟩

include hd

theorem Directory.commit_other {i : Nat} (hi : ∀ e ∈ d.stage.staged, e.index.val ≠ i) :
    d.commit.entry i = d.entry i ∧ d.commit.shadowOf i = d.shadowOf i :=
  ⟨Directory.foldl_read_other Directory.commitStaged_wf Directory.commitStaged_entry hd hi,
    Directory.foldl_read_other (upd := fun _ _ => Shadow.clear) Directory.commitStaged_wf Directory.commitStaged_shadow hd hi⟩

theorem Directory.commit_staged (hord : d.stage.Ordered) {e : Staged} (he : e ∈ d.stage.staged) :
    d.commit.entry e.index.val = e.written (d.entry e.index.val) ∧ d.commit.shadowOf e.index.val = .clear :=
  ⟨Directory.foldl_read_mem Directory.commitStaged_wf Directory.commitStaged_entry hd hord.1 he,
    Directory.foldl_read_mem (upd := fun _ _ => Shadow.clear) Directory.commitStaged_wf Directory.commitStaged_shadow hd hord.1 he⟩

end Commit

/-! ## The completions of the writes (R58, R61, R64) -/

section Completions

variable {s : State} (hr : s.inReset = false)

theorem finishWrite_eq {tag code : Byte} (h : s.mgt.writing = some (tag, code)) (data : List Byte) : finishWrite data s =
    { s with mgt := { s.mgt with writing := none, replies := s.mgt.replies ++ [⟨tag, code, .done, data⟩] } } := by
  rw [finishWrite, h]
  rfl

/-- R58: the state after a page commit's write. -/
def State.committed (s : State) : State := resumeLookups (s.updDir fun d => { d.commit with stage := .powerOn })

theorem resumeLookups_line (s : State) (l : Fin 32) : (resumeLookups s).line l =
    { s.line l with dialogue := { (s.line l).dialogue with deferred := false } } := by
  simp only [resumeLookups, State.line, Vector.getElem_ofFn, Fin.getElem_fin]

include hr

theorem exec_writeCompletion_page (h : s.dir.stage.write = .page) :
    exec .writeCompletion s = .next (finishWrite [byteOf s.dir.stage.staged.length] s.committed) := by
  dsimp only [exec, execWriteCompletion]
  rw [whenRunning_run hr, h]
  rfl

theorem exec_writeCompletion_stray (h : s.dir.stage.write ≠ .page) : exec .writeCompletion s = .next s := by
  dsimp only [exec, execWriteCompletion]
  rw [whenRunning_run hr]
  split
  · next hw => exact absurd hw h
  all_goals rfl

/-- R61, R64: the state after a protection write. -/
def State.protected (s : State) : State :=
  s.updDir fun d => { d with protect := d.protectedBy d.stage.write, stage := d.stage.afterProtection }

theorem exec_protectionWriteCompletion (h : s.dir.stage.write ≠ .none ∧ s.dir.stage.write ≠ .page) :
    exec .protectionWriteCompletion s =
      .next (finishWrite [] (if s.dir.stage.expired then stageExpired s.protected else s.protected)) := by
  dsimp only [exec, execProtectionWriteCompletion]
  rw [whenRunning_run hr]
  split
  · rfl
  · rfl
  · next hw => exact absurd hw h.1
  · next hw => exact absurd hw h.2

theorem exec_protectionWriteCompletion_stray (h : s.dir.stage.write = .none ∨ s.dir.stage.write = .page) :
    exec .protectionWriteCompletion s = .next s := by
  dsimp only [exec, execProtectionWriteCompletion]
  rw [whenRunning_run hr]
  rcases h with hw | hw <;> rw [hw]

theorem exec_stageExpiry {d : Nat} (h : s.dir.stage.timer = some d) (hst : s.dir.stage.state = .staging) :
    exec .stageExpiry s = .next (stageExpired (State.updStage { s with now := max s.now d } fun _ => .powerOn)) := by
  dsimp only [exec, execStageExpiry]
  rw [whenRunning_run hr, h, whenDue_some]
  dsimp only
  rw [hst]

theorem exec_stageExpiry_held {d : Nat} (h : s.dir.stage.timer = some d) (hst : s.dir.stage.state = .committing) :
    exec .stageExpiry s = .next (State.updStage { s with now := max s.now d } fun g => { g with timer := none, expired := true }) := by
  dsimp only [exec, execStageExpiry]
  rw [whenRunning_run hr, h, whenDue_some]
  dsimp only
  rw [hst]

end Completions

/-- R61: the block's flag is set, every other kept. -/
theorem protectBlock_flags (p : Byte) (b k : Fin 8) : (p ||| (1#8 <<< b.val)).getLsbD k.val = (p.getLsbD k.val || decide (k = b)) := by
  have hbit : (1#8 <<< b.val).getLsbD k.val = decide (k = b) := by
    revert b k
    decide
  rw [BitVec.getLsbD_or, hbit]

theorem Stage.afterProtection_eq (g : Stage) : g.afterProtection =
    if g.expired = true ∨ g.staged = [] then ⟨.empty, none, [], .none, none, false⟩ else { g with state := .staging, write := .none } := rfl

theorem Staged.written_empty {e : Staged} (h : e.code = spaces 6) (old : Entry) : e.written old = .empty := if_pos h

theorem Staged.written_full {e : Staged} (h : e.code ≠ spaces 6) (old : Entry) :
    e.written old = ⟨e.code, (match e.password with | some p => p | none => old.password), e.account, e.cls, e.enabled⟩ := by
  rw [Staged.written, if_neg h]
  cases e.password <;> rfl

/-- R58: what a page commit leaves unchanged. -/
theorem State.committed_eq (s : State) : s.committed = { s with
    lines := s.committed.lines
    dir := { s.committed.dir with protect := s.dir.protect, tariffs := s.dir.tariffs, stage := ⟨.empty, none, [], .none, none, false⟩ } } := by
  have hdir : s.committed.dir = { s.committed.dir with protect := s.dir.protect, tariffs := s.dir.tariffs, stage := .powerOn } := by
    rw [← s.dir.commit_frame.1, ← s.dir.commit_frame.2]
    rfl
  exact congrArg (fun d => { s with lines := s.committed.lines, dir := d }) hdir

theorem State.committed_line (s : State) (l : Fin 32) : s.committed.line l =
    { s.line l with dialogue := { (s.line l).dialogue with deferred := false } } := resumeLookups_line _ l

theorem State.committed_entry (s : State) (i : Nat) : s.committed.dir.entry i = s.dir.commit.entry i := rfl

theorem State.committed_shadowOf (s : State) (i : Nat) : s.committed.dir.shadowOf i = s.dir.commit.shadowOf i := rfl

theorem State.committed_staged {s : State} (hwf : s.dir.wf = true) (hord : s.dir.stage.Ordered) {e : Staged} (he : e ∈ s.dir.stage.staged) :
    s.committed.dir.shadowOf e.index.val = .clear ∧
    (e.code = spaces 6 → s.committed.dir.entry e.index.val = .empty) ∧
    (e.code ≠ spaces 6 → s.committed.dir.entry e.index.val =
      ⟨e.code, (match e.password with | some p => p | none => (s.dir.entry e.index.val).password), e.account, e.cls, e.enabled⟩) := by
  obtain ⟨hentry, hshadow⟩ := Directory.commit_staged hwf hord he
  rw [State.committed_entry, State.committed_shadowOf, hentry]
  exact ⟨hshadow, fun hc => Staged.written_empty hc _, fun hc => Staged.written_full hc _⟩

theorem State.committed_other {s : State} (hwf : s.dir.wf = true) {i : Nat} (hi : ∀ e ∈ s.dir.stage.staged, e.index.val ≠ i) :
    s.committed.dir.entry i = s.dir.entry i ∧ s.committed.dir.shadowOf i = s.dir.shadowOf i := by
  rw [State.committed_entry, State.committed_shadowOf]
  exact Directory.commit_other hwf hi

/-- Settles O21: the page write goes entry by entry, and a protection write hands a held expiry on. -/
theorem storeEvents : Obligations.StoreEvents := by
  unfold Obligations.StoreEvents
  refine ⟨fun s hr hwf hord => ⟨fun tag code hw hm => ?_, fun hw => exec_writeCompletion_stray hr hw⟩, fun s tag code hr hm => ?_,
    fun s hr hw => exec_protectionWriteCompletion_stray hr hw, fun s d hr ht => ⟨fun hst => exec_stageExpiry hr ht hst,
      fun hst => exec_stageExpiry_held hr ht hst⟩⟩
  · have hm' : s.committed.mgt.writing = some (tag, code) := hm
    rw [exec_writeCompletion_page hr hw, finishWrite_eq hm']
    refine ⟨_, rfl, ?_, fun l => s.committed_line l, fun e he => State.committed_staged hwf hord he, fun i hi => State.committed_other hwf hi⟩
    exact congrArg (fun u : State => { u with mgt := { u.mgt with
      writing := none, replies := u.mgt.replies ++ [(⟨tag, code, .done, [byteOf s.dir.stage.staged.length]⟩ : Reply)] } }) s.committed_eq
  · have hfinish : ∀ w, s.dir.stage.write = w → w ≠ .none → w ≠ .page → exec .protectionWriteCompletion s = .next { s with
        dir := { s.dir with
          protect := s.dir.protectedBy w
          stage := if s.dir.stage.expired = true ∨ s.dir.stage.staged = [] then ⟨.empty, none, [], .none, none, false⟩
            else { s.dir.stage with state := .staging, write := .none } }
        mgt := { s.mgt with
          writing := none
          replies := s.mgt.replies ++ [⟨tag, code, .done, []⟩]
          sticky := { s.mgt.sticky with stageExpired := s.mgt.sticky.stageExpired || s.dir.stage.expired } } } := by
      rintro w rfl hn hp
      rw [exec_protectionWriteCompletion hr ⟨hn, hp⟩, ← Stage.afterProtection_eq]
      cases hx : s.dir.stage.expired with
      | false =>
        rw [if_neg Bool.false_ne_true, finishWrite_eq (s := s.protected) hm, Bool.or_false]
        rfl
      | true =>
        rw [if_pos rfl, finishWrite_eq (s := stageExpired s.protected) hm, Bool.or_true]
        rfl
    exact ⟨fun b hw => ⟨_, hfinish _ hw nofun nofun, protectBlock_flags s.dir.protect b⟩, fun hw => hfinish _ hw nofun nofun⟩

end Sys2Proof.Machine
end

section
/-! Power-on and reset: every block at its power-on values (R24, R146, R147, R159, R164, R182, R195), and an interrupted write decided entry by entry (R48). -/

namespace Sys2Proof.Machine

open Sys2Proof

/-! ## The blocks at power-on -/

theorem getElem_fin_replicate {α : Type} {n : Nat} (a : α) (i : Fin n) : (Vector.replicate n a)[i] = a := Vector.getElem_replicate ..

section Blocks

variable (w : Byte) (s : State)

theorem powerOnValues_dialogue (l : Fin 32) : ((powerOnValues w s).line l).dialogue = ⟨.none, [], [], .none, [], false⟩ ∧
    ((powerOnValues w s).line l).ri = (s.line l).ri ∧ ((powerOnValues w s).line l).dcd = (s.line l).dcd := by
  rw [powerOnValues_line]
  exact ⟨rfl, rfl, rfl⟩

theorem powerOnValues_dir : (∀ i, (powerOnValues w s).dir.shadowOf i = ⟨0, false⟩) ∧ (powerOnValues w s).dir.tariffs = false ∧
    (powerOnValues w s).dir.stage = ⟨.empty, none, [], .none, none, false⟩ := ⟨fun _ => rfl, rfl, rfl⟩

theorem powerOnValues_cal : (powerOnValues w s).cal = .powerOn := rfl

theorem Calendar.powerOn_tables : (∀ i : Fin 16, Calendar.powerOn.holidays[i] = none) ∧
    (∀ i : Fin 16, Calendar.powerOn.schedule[i] = ⟨false, 0, 0, 0, 0⟩) ∧ (∀ d : Fin 7, Calendar.powerOn.dayStart[d] = 0) ∧
    (∀ p k : Fin 8, Calendar.powerOn.rates[p][k] = 0 ∧ Calendar.powerOn.permits[p][k] = .closed) ∧
    ∀ k : Fin 8, Calendar.powerOn.classes[k] = ⟨0, 60, 60, false, false⟩ := by
  refine ⟨fun i => getElem_fin_replicate .., fun i => getElem_fin_replicate .., fun d => getElem_fin_replicate .., fun p k => ⟨?_, ?_⟩,
    fun k => getElem_fin_replicate ..⟩
  · exact (congrArg (fun v : Vector Nat 8 => v[k]) (getElem_fin_replicate _ p)).trans (getElem_fin_replicate ..)
  · exact (congrArg (fun v : Vector Permit 8 => v[k]) (getElem_fin_replicate _ p)).trans (getElem_fin_replicate ..)

theorem powerOnValues_ports (c : Fin 24) : (powerOnValues w s).meter c = none ∧
    (powerOnValues w s).channel c = ⟨.free, none, none, false, .go, none, 0, 0⟩ ∧ (powerOnValues w s).trunk.announced[c] = .go :=
  ⟨getElem_fin_replicate .., getElem_fin_replicate .., getElem_fin_replicate ..⟩

theorem powerOnValues_watch (k : Fin 4) :
    (powerOnValues w s).watches[k] = ⟨false, .comparator, 255, 0, 255, 0, 0, false, false, false, false⟩ := getElem_fin_replicate ..

end Blocks

/-! ## Interrupted writes (R48) -/

section Interrupted

variable {d : Directory} {w : Byte}

/-- R48: one staged entry of an interrupted page commit. -/
def Directory.writeIf (w : Byte) (d : Directory) (e : Staged) : Directory := if w.getLsbD (e.index.val % 8) then d.writeStaged e else d

theorem Directory.writeIf_wf (d : Directory) (e : Staged) (h : d.wf = true) : (d.writeIf w e).wf = true := by
  unfold Directory.writeIf
  split
  · exact Directory.writeStaged_wf h e
  · exact h

theorem Directory.writeIf_entry (d : Directory) (e : Staged) (i : Nat) (h : d.wf = true) : (d.writeIf w e).entry i =
    if i = e.index.val then (if w.getLsbD (e.index.val % 8) then e.written (d.entry i) else d.entry i) else d.entry i := by
  unfold Directory.writeIf
  split
  · next hb => rw [Directory.writeStaged_entry d e i h]
  · rw [ite_self]

theorem Directory.interrupted_page (h : d.stage.write = .page) : d.interrupted w = d.stage.staged.foldl (Directory.writeIf w) d := by
  rw [Directory.interrupted, h]
  rfl

theorem Directory.interrupted_other (h : d.stage.write ≠ .page) : d.interrupted w = d := by
  unfold Directory.interrupted
  split
  · next hp => exact absurd hp h
  all_goals rfl

theorem Directory.interrupted_entry_other (hwf : d.wf = true) {i : Nat} (h : d.stage.write = .page → ∀ e ∈ d.stage.staged, e.index.val ≠ i) :
    (d.interrupted w).entry i = d.entry i := by
  by_cases hp : d.stage.write = .page
  · rw [Directory.interrupted_page hp]
    exact Directory.foldl_read_other (upd := fun e old => if w.getLsbD (e.index.val % 8) then e.written old else old)
      Directory.writeIf_wf Directory.writeIf_entry hwf (h hp)
  · rw [Directory.interrupted_other hp]

theorem Directory.interrupted_entry_staged (hwf : d.wf = true) (hord : d.stage.Ordered) (hp : d.stage.write = .page) {e : Staged}
    (he : e ∈ d.stage.staged) : (d.interrupted w).entry e.index.val =
      if w.getLsbD (e.index.val % 8) then e.written (d.entry e.index.val) else d.entry e.index.val := by
  rw [Directory.interrupted_page hp]
  exact Directory.foldl_read_mem (upd := fun e old => if w.getLsbD (e.index.val % 8) then e.written old else old)
    Directory.writeIf_wf Directory.writeIf_entry hwf hord.1 he

/-- R48: an interrupted protection write: each flag is the new one or the old one. -/
theorem Directory.interruptedFlags_bit (d : Directory) (b : Fin 8) : (d.interruptedFlags w).getLsbD b.val =
    if w.getLsbD b.val then (d.protectedBy d.stage.write).getLsbD b.val else d.protect.getLsbD b.val := by
  rw [Directory.interruptedFlags, BitVec.getLsbD_or, BitVec.getLsbD_and, BitVec.getLsbD_and, BitVec.getLsbD_not, decide_eq_true b.isLt]
  cases w.getLsbD b.val <;> simp

theorem Directory.protectedBy_bit (d : Directory) (x : Write) (b : Fin 8) : (d.protectedBy x).getLsbD b.val =
    match x with
    | .protectBlock k => d.protect.getLsbD b.val || decide (b = k)
    | .unprotectAll => false
    | .none | .page => d.protect.getLsbD b.val := by
  cases x with
  | protectBlock k => exact protectBlock_flags d.protect k b
  | unprotectAll => exact BitVec.getLsbD_zero
  | none => rfl
  | page => rfl

end Interrupted

/-- Settles O4: the reset values block by block, and the store that an interrupted write leaves. -/
theorem powerOnBlocks : Obligations.PowerOnBlocks := by
  unfold Obligations.PowerOnBlocks
  refine ⟨fun w s => ⟨powerOnValues w s, exec_powerOn w s, exec_resetN w s, rfl, rfl, rfl, rfl, powerOnValues_dialogue w s,
    powerOnValues_dir w s, fun a => powerOnValues_account w s a, ⟨rfl, rfl, rfl, rfl, rfl, rfl, rfl, Calendar.powerOn_tables⟩,
    powerOnValues_ports w s, rfl, fun r => powerOnValues_row w s r, rfl, rfl, powerOnValues_watch w s, rfl,
    ⟨rfl, rfl, rfl, rfl, rfl, rfl, rfl⟩, rfl, rfl⟩, fun w s hwf hst => ?_⟩
  refine ⟨powerOnValues w s, exec_powerOn w s, exec_resetN w s, fun i hi => Directory.interrupted_entry_other hwf hi,
    fun hp e he => Directory.interrupted_entry_staged hwf hst.1 hp he, fun b => ?_⟩
  exact (s.dir.interruptedFlags_bit b).trans
    (congrArg (fun x => if w.getLsbD b.val then x else s.dir.protect.getLsbD b.val) (s.dir.protectedBy_bit s.dir.stage.write b))

end Sys2Proof.Machine
end

section
/-! The waiters of a class dismissed together (R105, R129): the state after any set of waiting lines has left with M6. -/

namespace Sys2Proof.Machine

open Sys2Proof

/-! ## A set of lines dismissed -/

/-- R129, R16: a waiting line that leaves with M6. -/
def Line.dismissed (now : Nat) (ln : Line) : Line :=
  { Line.request now 6 0 ln with
    state := .draining, admission := none, channel := none
    timers := { ln.timers with signOn := none, idle := none, drain := some (now + 100) } }

/-- R83: how many of the lines that `p` marks hold an admission of account `a`. -/
def State.holders (s : State) (p : Fin 32 → Bool) (a : Fin 256) : Nat :=
  ((List.finRange 32).filter fun l => p l && (s.line l).admission.any fun x => decide (x.account = a)).length

/-- R105, R129: every line that `p` marks has left the queue with M6. -/
def State.dismissed (s : State) (p : Fin 32 → Bool) : State :=
  { s with
    queue := s.queue.filter fun w => !p w.line
    lines := Vector.ofFn fun l => if p l then (s.line l).dismissed s.now else s.line l
    accounts := Vector.ofFn fun a => { s.account a with openCount := (s.account a).openCount - s.holders p a } }

/-- The two states are `s` but for the queue, the lines and the accounts. -/
def State.CallsOf (s t : State) : Prop := t = { s with queue := t.queue, lines := t.lines, accounts := t.accounts }

theorem State.CallsOf.ext {s t u : State} (ht : s.CallsOf t) (hu : s.CallsOf u) (hq : t.queue = u.queue) (hl : ∀ l, t.line l = u.line l)
    (ha : ∀ a, t.account a = u.account a) : t = u := by
  have hlines : t.lines = u.lines := Vector.ext fun i hi => hl ⟨i, hi⟩
  have haccounts : t.accounts = u.accounts := Vector.ext fun i hi => ha ⟨i, hi⟩
  rw [ht, hu, hq, hlines, haccounts]

theorem State.dismissed_callsOf (s : State) (p : Fin 32 → Bool) : s.CallsOf (s.dismissed p) := rfl

theorem State.CallsOf.dismissed {s t : State} (ht : s.CallsOf t) (p : Fin 32 → Bool) : s.CallsOf (t.dismissed p) := by
  unfold State.CallsOf at ht ⊢
  rw [ht]
  rfl

section Dismissed

variable {s : State} {p q : Fin 32 → Bool}

theorem State.dismissed_line (s : State) (p : Fin 32 → Bool) (l : Fin 32) :
    (s.dismissed p).line l = if p l then (s.line l).dismissed s.now else s.line l := by
  simp only [State.dismissed, State.line, Vector.getElem_ofFn, Fin.getElem_fin]

theorem State.dismissed_account (s : State) (p : Fin 32 → Bool) (a : Fin 256) :
    (s.dismissed p).account a = { s.account a with openCount := (s.account a).openCount - s.holders p a } := by
  simp only [State.dismissed, State.account, Vector.getElem_ofFn, Fin.getElem_fin]

@[simp] theorem State.dismissed_now (s : State) (p : Fin 32 → Bool) : (s.dismissed p).now = s.now := by simp only [State.dismissed]

theorem State.holders_none (s : State) {p : Fin 32 → Bool} (h : ∀ l, p l = false) (a : Fin 256) : s.holders p a = 0 := by
  rw [State.holders, List.length_eq_zero_iff, List.filter_eq_nil_iff]
  intro l _
  rw [h l]
  exact Bool.false_ne_true

theorem State.dismissed_none (h : ∀ l, p l = false) : s.dismissed p = s := by
  refine State.CallsOf.ext (s.dismissed_callsOf p) rfl (List.filter_eq_self.mpr fun w _ => by rw [h]; rfl) (fun l => ?_) fun a => ?_
  · exact (s.dismissed_line p l).trans (if_neg (by rw [h]; decide))
  · refine (s.dismissed_account p a).trans ?_
    rw [s.holders_none h]
    rfl

theorem State.dismissed_congr (h : ∀ l, p l = q l) : s.dismissed p = s.dismissed q := congrArg s.dismissed (funext h)

/-- The lines of a later set stand as they did. -/
theorem State.dismissed_holders (h : ∀ l, q l = true → p l = false) (a : Fin 256) : (s.dismissed p).holders q a = s.holders q a := by
  refine congrArg List.length (List.filter_congr fun l _ => ?_)
  cases hq : q l with
  | false => rw [Bool.false_and, Bool.false_and]
  | true => rw [State.dismissed_line, h l hq, if_neg Bool.false_ne_true]

theorem State.dismissed_dismissed (h : ∀ l, q l = true → p l = false) :
    (s.dismissed p).dismissed q = s.dismissed fun l => p l || q l := by
  refine State.CallsOf.ext ((s.dismissed_callsOf p).dismissed q) (s.dismissed_callsOf _) ?_ (fun l => ?_) fun a => ?_
  · refine (List.filter_filter ..).trans (List.filter_congr fun w _ => ?_)
    rw [Bool.not_or, Bool.and_comm]
  · refine ((s.dismissed p).dismissed_line q l).trans (Eq.trans ?_ (s.dismissed_line _ l).symm)
    rw [State.dismissed_line]
    cases hp : p l with
    | false => simp only [State.dismissed_now, Bool.false_eq_true, if_false, Bool.false_or]
    | true =>
      have hq : q l = false := Bool.eq_false_iff.mpr fun hq => Bool.false_ne_true ((h l hq).symm.trans hp)
      simp only [hq, Bool.false_eq_true, if_false, if_true, Bool.true_or]
  · refine ((s.dismissed p).dismissed_account q a).trans (Eq.trans ?_ (s.dismissed_account _ a).symm)
    have hsum : s.holders p a + s.holders q a = s.holders (fun l => p l || q l) a := length_filter_add _ _ _ (fun l =>
      ⟨Bool.and_or_distrib_right .., fun ⟨hp, hq⟩ => Bool.false_ne_true ((h l (Bool.and_eq_true_iff.mp hq).1).symm.trans (Bool.and_eq_true_iff.mp hp).1)⟩) _
    rw [State.dismissed_holders h, State.dismissed_account, ← hsum, Nat.sub_add_eq]

/-- One line dismissed, as the channel allocator does it. -/
theorem State.dismissed_one {l : Fin 32} {a : Admission} (ha : (s.line l).admission = some a) :
    ((leaveQueue l s).setAccount a.account (s.account a.account).left).setLine l
      (Line.draining s.now { (s.line l).requestIf s.now (some 6) with admission := none, channel := none }) =
    s.dismissed fun k => decide (k = l) := by
  refine State.CallsOf.ext (s := s) rfl (s.dismissed_callsOf _) rfl (fun k => ?_) fun b => ?_
  · refine (State.setLine_line (((leaveQueue l s).setAccount a.account (s.account a.account).left)) l k _).trans
      (Eq.trans ?_ (s.dismissed_line _ k).symm)
    by_cases hk : k = l
    · subst hk
      rw [if_pos rfl, if_pos (decide_eq_true rfl), Line.draining, Line.dismissed, Line.requestIf, Line.request_timers]
    · rw [if_neg hk, if_neg (by simpa using hk)]
      rfl
  · refine (State.setAccount_account (leaveQueue l s) a.account b _).trans (Eq.trans ?_ (s.dismissed_account _ b).symm)
    rw [show (leaveQueue l s).account b = s.account b from rfl]
    by_cases hb : b = a.account
    · subst hb
      have hone : s.holders (fun k => decide (k = l)) a.account = 1 := by
        have hmark : ∀ k, (decide (k = l) && (s.line k).admission.any fun x => decide (x.account = a.account)) = decide (k = l) := fun k => by
          by_cases hk : k = l
          · rw [hk, ha, Option.any_some, decide_eq_true rfl, decide_eq_true rfl, Bool.true_and]
          · rw [decide_eq_false hk, Bool.false_and]
        simp only [State.holders, hmark]
        rw [← List.countP_eq_length_filter]
        exact List.count_finRange l
      rw [if_pos rfl, hone]
      rfl
    · have hnone : s.holders (fun k => decide (k = l)) b = 0 := by
        rw [State.holders, List.length_eq_zero_iff, List.filter_eq_nil_iff]
        intro k _ hk
        obtain ⟨hk, hx⟩ := Bool.and_eq_true_iff.mp hk
        rw [of_decide_eq_true hk, ha, Option.any_some] at hx
        exact hb (of_decide_eq_true hx).symm
      rw [if_neg hb, hnone]
      rfl

end Dismissed

/-! ## A drain that the departures may end (R191) -/

/-- R191: the drain ends if the lines that `p` marks have left, and one has. -/
def State.settledBy (t : State) (p : Fin 32 → Bool) : State := if ∃ l, p l = true then drainEnd t else t

theorem State.settledBy_line (t : State) (p : Fin 32 → Bool) (l : Fin 32) : (t.settledBy p).line l = t.line l := by
  unfold State.settledBy
  split
  · exact drainEnd_line t l
  · rfl

/-- While a line holds an admission the drain goes on. -/
theorem drainEnd_held {t : State} {l : Fin 32} (h : (t.line l).admission ≠ none) : drainEnd t = t :=
  if_neg fun ⟨_, hd⟩ => h ((State.drained_iff t).mp hd l).1

theorem State.settledBy_held {t : State} {l : Fin 32} (h : (t.line l).admission ≠ none) (p : Fin 32 → Bool) : t.settledBy p = t := by
  unfold State.settledBy
  split
  · exact drainEnd_held h
  · rfl

/-! ## The waiters of a class (R105) -/

/-- R84: the lines of the queue wait, and each of them holds its admission. -/
def State.WaitersStand (s : State) : Prop :=
  (∀ l, (∃ w ∈ s.queue, w.line = l) ↔ (s.line l).state = .waiting) ∧ ∀ l, (s.line l).state = .waiting → ∃ a, (s.line l).admission = some a

/-- R105: line `l` waits with class `k`. -/
def State.waitsAs (s : State) (k : Fin 8) (l : Fin 32) : Bool :=
  decide ((s.line l).state = .waiting) && (s.line l).admission.any fun a => decide (a.cls = k)

theorem State.waitsAs_iff {s : State} {k : Fin 8} {l : Fin 32} :
    s.waitsAs k l = true ↔ (s.line l).state = .waiting ∧ ∃ a, (s.line l).admission = some a ∧ a.cls = k := by
  simp only [State.waitsAs, Bool.and_eq_true, decide_eq_true_eq, Option.any_eq_true]

/-- R105: the report of class `k` reaches one waiter. -/
def dropWaiter (k : Fin 8) (s : State) (w : Waiter) : State :=
  match (s.line w.line).admission with
  | some a => if a.cls = k then removeWaiter w.line (some 6) true s else s
  | none => s

theorem dropClass_eq (k : Fin 8) (s : State) : dropClass k s = s.queue.foldl (dropWaiter k) s := rfl

/-- R105: the lines of the waiters `ws` that wait with class `k`. -/
def State.waitsAmong (s : State) (k : Fin 8) (ws : List Waiter) (l : Fin 32) : Bool := s.waitsAs k l && ws.any fun w => decide (w.line = l)

section DropClass

variable {s : State} {k : Fin 8} (hs : s.WaitersStand)

theorem State.waitsAmong_iff {ws : List Waiter} {l : Fin 32} :
    s.waitsAmong k ws l = true ↔ s.waitsAs k l = true ∧ ∃ w ∈ ws, w.line = l := by
  simp only [State.waitsAmong, Bool.and_eq_true, List.any_eq_true, decide_eq_true_eq]

theorem dropWaiter_skips {t : State} {w : Waiter} (h : ∀ a, (t.line w.line).admission = some a → a.cls ≠ k) : dropWaiter k t w = t := by
  unfold dropWaiter
  split
  · next a ha => exact if_neg (h a ha)
  · rfl

theorem dropWaiter_drops {t : State} {w : Waiter} (hq : w ∈ t.queue) (hl : (t.line w.line).state = .waiting) {a : Admission}
    (ha : (t.line w.line).admission = some a) (hk : a.cls = k) :
    dropWaiter k t w = drainEnd (t.dismissed fun l => decide (l = w.line)) := by
  rw [dropWaiter, ha]
  dsimp only
  rw [if_pos hk, removeWaiter_drains ⟨w, hq, rfl⟩ ha _ hl, State.dismissed_one ha]

include hs

theorem foldl_dropWaiter (ws : List Waiter) (hws : ∀ w ∈ ws, w ∈ s.queue) : ws.foldl (dropWaiter k) s =
    (s.dismissed (s.waitsAmong k ws)).settledBy (s.waitsAmong k ws) := by
  induction ws using List.reverseRecOn with
  | nil =>
    have hnone : ∀ l, s.waitsAmong k [] l = false := fun l => Bool.and_false _
    rw [List.foldl_nil, State.dismissed_none hnone, State.settledBy, if_neg]
    rintro ⟨l, hl⟩
    exact Bool.false_ne_true ((hnone l).symm.trans hl)
  | append_singleton ws w ih =>
    have hw : w ∈ s.queue := hws w (by simp)
    rw [List.foldl_concat, ih fun x hx => hws x (List.mem_append_left _ hx)]
    have hwait : (s.line w.line).state = .waiting := (hs.1 _).mp ⟨w, hw, rfl⟩
    by_cases hnew : s.waitsAs k w.line = true ∧ s.waitsAmong k ws w.line = false
    · obtain ⟨hk, hold⟩ := hnew
      obtain ⟨-, a, ha, hcls⟩ := State.waitsAs_iff.mp hk
      have hline : (s.dismissed (s.waitsAmong k ws)).line w.line = s.line w.line := by
        rw [State.dismissed_line, hold, if_neg Bool.false_ne_true]
      have hheld : ((s.dismissed (s.waitsAmong k ws)).line w.line).admission ≠ none := by rw [hline, ha]; exact Option.some_ne_none a
      rw [State.settledBy_held hheld, dropWaiter_drops (a := a) ?_ (by rw [hline]; exact hwait) (by rw [hline]; exact ha) hcls,
        State.dismissed_dismissed fun l hl => of_decide_eq_true hl ▸ hold]
      · have hunion : ∀ l, (s.waitsAmong k ws l || decide (l = w.line)) = s.waitsAmong k (ws ++ [w]) l := fun l => by
          by_cases hl : l = w.line
          · subst hl
            rw [decide_eq_true rfl, Bool.or_true]
            exact (State.waitsAmong_iff.mpr ⟨hk, w, by simp, rfl⟩).symm
          · simp [State.waitsAmong, hl, eq_comm]
        rw [State.dismissed_congr hunion, State.settledBy, if_pos ⟨w.line, (hunion w.line).symm.trans (by simp)⟩]
      · exact List.mem_filter.mpr ⟨hw, by rw [hold]; rfl⟩
    · have hsame : ∀ l, s.waitsAmong k (ws ++ [w]) l = s.waitsAmong k ws l := fun l => by
        by_cases hl : l = w.line
        · subst hl
          cases hk : s.waitsAs k w.line with
          | false => simp [State.waitsAmong, hk]
          | true =>
            have hin : s.waitsAmong k ws w.line = true := Bool.not_eq_false _ ▸ fun h => hnew ⟨hk, h⟩
            rw [hin]
            exact State.waitsAmong_iff.mpr ⟨hk, w, by simp, rfl⟩
        · simp [State.waitsAmong, eq_comm, hl]
      rw [dropWaiter_skips, funext hsame]
      intro a ha hcls
      rw [State.settledBy_line, State.dismissed_line] at ha
      split at ha
      · exact Option.some_ne_none a ha.symm
      · next hold => exact hnew ⟨State.waitsAs_iff.mpr ⟨hwait, a, ha, hcls⟩, Bool.eq_false_iff.mpr hold⟩

/-- R105: the report of class `k` to the channel allocator. -/
theorem dropClass_dismisses : dropClass k s = (s.dismissed (s.waitsAs k)).settledBy (s.waitsAs k) := by
  have hall : ∀ l, s.waitsAmong k s.queue l = s.waitsAs k l := fun l => Bool.eq_iff_iff.mpr
    (State.waitsAmong_iff.trans ⟨fun h => h.1, fun h => ⟨h, (hs.1 l).mpr (State.waitsAs_iff.mp h).1⟩⟩)
  rw [dropClass_eq, foldl_dropWaiter hs s.queue fun _ h => h, funext hall]

end DropClass

end Sys2Proof.Machine
end

section
/-! Permit reports (R105, R118, R125): what the reports of any set of classes leave of the lines, the meters, the accounts and the queue. -/

namespace Sys2Proof.Machine

open Sys2Proof

/-! ## A set of meters reported to (R118) -/

/-- R118: the permit in force of the class of meter `m` is EXPEL and its timer stands: it starts to expel its line. -/
def State.starts (s : State) (m : Meter) : Bool := decide (s.cal.permits[s.cal.period][m.cls] = .expel) && m.expel.isNone

/-- R118: a meter after the report of the permit in force of its class. -/
def State.afterReport (s : State) (m : Meter) : Meter :=
  if s.starts m then { m with expelNoticed := true, expel := some (s.now + s.params.expelGrace * 600) }
  else if s.cal.permits[s.cal.period][m.cls] ≠ .expel then { m with expel := none }
  else m

/-- R118: a meter that `P` marks starts to expel line `l`. -/
def State.noticed (s : State) (P : Fin 24 → Bool) (l : Fin 32) : Bool :=
  allChannels.any fun c => P c && (s.meter c).any fun m => decide (m.line = l) && s.starts m

/-- R118: every meter that `P` marks has taken the report of its class. -/
def State.reportedTo (s : State) (P : Fin 24 → Bool) : State :=
  { s with
    lines := Vector.ofFn fun l => if s.noticed P l then Line.request s.now 18 s.params.expelGrace (s.line l) else s.line l
    meters := Vector.ofFn fun c => if P c then (s.meter c).map s.afterReport else s.meter c }

/-- The two states are `s` but for the lines and the meters. -/
def State.MetersOf (s t : State) : Prop := t = { s with lines := t.lines, meters := t.meters }

theorem State.MetersOf.ext {s t u : State} (ht : s.MetersOf t) (hu : s.MetersOf u) (hl : ∀ l, t.line l = u.line l)
    (hm : ∀ c, t.meter c = u.meter c) : t = u := by
  have hlines : t.lines = u.lines := Vector.ext fun i hi => hl ⟨i, hi⟩
  have hmeters : t.meters = u.meters := Vector.ext fun i hi => hm ⟨i, hi⟩
  rw [ht, hu, hlines, hmeters]

theorem State.reportedTo_metersOf (s : State) (P : Fin 24 → Bool) : s.MetersOf (s.reportedTo P) := rfl

theorem State.MetersOf.reportedTo {s t : State} (ht : s.MetersOf t) (P : Fin 24 → Bool) : s.MetersOf (t.reportedTo P) := by
  unfold State.MetersOf at ht ⊢
  rw [ht]
  rfl

section Metered

variable {s : State} {P Q : Fin 24 → Bool}

theorem State.reportedTo_line (s : State) (P : Fin 24 → Bool) (l : Fin 32) : (s.reportedTo P).line l =
    if s.noticed P l then Line.request s.now 18 s.params.expelGrace (s.line l) else s.line l := by
  simp only [State.reportedTo, State.line, Vector.getElem_ofFn, Fin.getElem_fin]

theorem State.reportedTo_meter (s : State) (P : Fin 24 → Bool) (c : Fin 24) : (s.reportedTo P).meter c =
    if P c then (s.meter c).map s.afterReport else s.meter c := by
  simp only [State.reportedTo, State.meter, Vector.getElem_ofFn, Fin.getElem_fin]

@[simp] theorem State.reportedTo_now (s : State) (P : Fin 24 → Bool) : (s.reportedTo P).now = s.now := by simp only [State.reportedTo]

@[simp] theorem State.reportedTo_params (s : State) (P : Fin 24 → Bool) : (s.reportedTo P).params = s.params := by simp only [State.reportedTo]

@[simp] theorem State.reportedTo_cal (s : State) (P : Fin 24 → Bool) : (s.reportedTo P).cal = s.cal := by simp only [State.reportedTo]

theorem State.starts_congr {t : State} (h : t.cal = s.cal) : t.starts = s.starts := by
  funext m
  simp only [State.starts, h]

@[simp] theorem State.reportedTo_starts (s : State) (P : Fin 24 → Bool) : (s.reportedTo P).starts = s.starts :=
  State.starts_congr (s.reportedTo_cal P)

@[simp] theorem State.reportedTo_afterReport (s : State) (P : Fin 24 → Bool) : (s.reportedTo P).afterReport = s.afterReport := by
  funext m
  simp only [State.afterReport, State.reportedTo_starts, State.reportedTo_now, State.reportedTo_params, State.reportedTo_cal]

theorem State.reportedTo_state (s : State) (P : Fin 24 → Bool) (l : Fin 32) : ((s.reportedTo P).line l).state = (s.line l).state := by
  rw [State.reportedTo_line]
  split <;> simp

theorem State.reportedTo_admission (s : State) (P : Fin 24 → Bool) (l : Fin 32) : ((s.reportedTo P).line l).admission = (s.line l).admission := by
  rw [State.reportedTo_line]
  split <;> simp

theorem State.noticed_iff {l : Fin 32} : s.noticed P l = true ↔ ∃ c, P c = true ∧ ∃ m, s.meter c = some m ∧ m.line = l ∧ s.starts m = true := by
  simp only [State.noticed, allChannels, List.any_eq_true, List.mem_finRange, true_and, Bool.and_eq_true, Option.any_eq_true, decide_eq_true_eq]

theorem State.reportedTo_congr (h : ∀ c, P c = Q c) : s.reportedTo P = s.reportedTo Q := congrArg s.reportedTo (funext h)

theorem State.reportedTo_none (h : ∀ c, P c = true → s.meter c = none) : s.reportedTo P = s := by
  refine State.MetersOf.ext (s.reportedTo_metersOf P) rfl (fun l => (s.reportedTo_line P l).trans (if_neg ?_)) fun c => ?_
  · rw [State.noticed_iff]
    rintro ⟨c, hc, m, hm, -⟩
    exact Option.some_ne_none m (hm.symm.trans (h c hc))
  · rw [State.reportedTo_meter]
    split
    · next hc => rw [h c hc, Option.map_none]
    · rfl

/-- The meters of a later set stand as they did. -/
theorem State.reportedTo_noticed (h : ∀ c, Q c = true → P c = false) (l : Fin 32) : (s.reportedTo P).noticed Q l = s.noticed Q l := by
  have hmeter : ∀ c, Q c = true → (s.reportedTo P).meter c = s.meter c := fun c hc => by
    rw [State.reportedTo_meter, h c hc, if_neg Bool.false_ne_true]
  refine Bool.eq_iff_iff.mpr ?_
  rw [State.noticed_iff, State.noticed_iff, State.reportedTo_starts]
  refine exists_congr fun c => and_congr_right fun hc => ?_
  rw [hmeter c hc]

theorem State.noticed_or (l : Fin 32) : s.noticed (fun c => P c || Q c) l = (s.noticed P l || s.noticed Q l) := by
  refine Bool.eq_iff_iff.mpr ?_
  rw [Bool.or_eq_true, State.noticed_iff, State.noticed_iff, State.noticed_iff, ← exists_or]
  refine exists_congr fun c => ?_
  rw [Bool.or_eq_true, or_and_right]

theorem State.reportedTo_reportedTo (h : ∀ c, Q c = true → P c = false) : (s.reportedTo P).reportedTo Q = s.reportedTo fun c => P c || Q c := by
  refine State.MetersOf.ext ((s.reportedTo_metersOf P).reportedTo Q) (s.reportedTo_metersOf _) (fun l => ?_) fun c => ?_
  · rw [State.reportedTo_line, State.reportedTo_noticed h, State.reportedTo_line, State.reportedTo_now, State.reportedTo_params, State.reportedTo_line,
      State.noticed_or]
    cases hp : s.noticed P l <;> cases hq : s.noticed Q l <;> simp [Line.request_request]
  · rw [State.reportedTo_meter, State.reportedTo_meter, State.reportedTo_meter, State.reportedTo_afterReport]
    cases hp : P c <;> cases hq : Q c
    · simp
    · simp
    · simp
    · exact absurd (h c hq) (by rw [hp]; decide)

end Metered

/-! ## The report of one class to every meter (R105, R118) -/

section PermitMeters

variable {s : State} {k : Fin 8} {new : Permit}

/-- R118: the meter of channel `c` serves class `k`. -/
def State.servesAs (s : State) (k : Fin 8) (c : Fin 24) : Bool := (s.meter c).any fun m => decide (m.cls = k)

theorem State.servesAs_iff {c : Fin 24} : s.servesAs k c = true ↔ ∃ m, s.meter c = some m ∧ m.cls = k := by
  simp only [State.servesAs, Option.any_eq_true, decide_eq_true_eq]

theorem State.reportedTo_servesAs (s : State) (P : Fin 24 → Bool) (c : Fin 24) : (s.reportedTo P).servesAs k c = s.servesAs k c := by
  rw [State.servesAs, State.reportedTo_meter]
  split
  · have hcls : ∀ m, (s.afterReport m).cls = m.cls := fun m => by
      unfold State.afterReport
      split
      · rfl
      · split <;> rfl
    cases h : s.meter c with
    | none => simp [State.servesAs, h]
    | some m => simp [State.servesAs, h, hcls]
  · rfl

theorem meterPermit_skips {c : Fin 24} (h : s.servesAs k c = false) : meterPermit k new c s = s := by
  unfold meterPermit
  split
  · rfl
  · next m hm => exact if_neg fun hk => Bool.false_ne_true (h.symm.trans (State.servesAs_iff.mpr ⟨m, hm, hk⟩))

theorem meterPermit_serves (hnew : new = s.cal.permits[s.cal.period][k]) {c : Fin 24} {m : Meter} (hm : s.meter c = some m) (hk : m.cls = k) :
    meterPermit k new c s = if s.starts m then startExpel c m s
      else if s.cal.permits[s.cal.period][m.cls] ≠ .expel then s.setMeter c (some { m with expel := none }) else s := by
  subst hk
  rw [meterPermit, hm, State.starts, ← hnew]
  dsimp only
  rw [if_pos rfl]
  cases new with
  | opened => rfl
  | closed => rfl
  | expel => cases m.expel <;> rfl

theorem startExpel_line (c : Fin 24) (m : Meter) (s : State) (l : Fin 32) : (startExpel c m s).line l =
    if l = m.line then Line.request s.now 18 s.params.expelGrace (s.line l) else s.line l :=
  (State.updMeter_line ..).trans ((State.updLine_line s m.line l _).trans (by split <;> [rw [‹l = m.line›]; rfl]))

theorem startExpel_meter (c : Fin 24) (m : Meter) (s : State) (x : Fin 24) : (startExpel c m s).meter x =
    if x = c then (s.meter c).map fun m => { m with expelNoticed := true, expel := some (s.now + s.params.expelGrace * 600) }
    else s.meter x := State.updMeter_meter ..

/-- A report to one meter. -/
theorem meterPermit_eq (hnew : new = s.cal.permits[s.cal.period][k]) (c : Fin 24) :
    meterPermit k new c s = s.reportedTo fun x => decide (x = c) && s.servesAs k x := by
  cases h : s.servesAs k c with
  | false =>
    rw [meterPermit_skips h, State.reportedTo_none fun x hx => ?_]
    obtain ⟨hx, hk⟩ := Bool.and_eq_true_iff.mp hx
    exact absurd ((of_decide_eq_true hx ▸ hk : s.servesAs k c = true)) (by rw [h]; decide)
  | true =>
    obtain ⟨m, hm, hk⟩ := State.servesAs_iff.mp h
    have hmark : ∀ x, (decide (x = c) && s.servesAs k x) = decide (x = c) := fun x => by
      by_cases hx : x = c
      · rw [hx, h, Bool.and_true]
      · rw [decide_eq_false hx, Bool.false_and]
    have hnotice : ∀ l, s.noticed (fun x => decide (x = c)) l = (decide (m.line = l) && s.starts m) := fun l => by
      refine Bool.eq_iff_iff.mpr (State.noticed_iff.trans ?_)
      rw [Bool.and_eq_true, decide_eq_true_eq]
      constructor
      · rintro ⟨x, hx, m', hm', hl⟩
        rw [of_decide_eq_true hx, hm] at hm'
        exact Option.some.inj hm' ▸ hl
      · exact fun hl => ⟨c, decide_eq_true rfl, m, hm, hl⟩
    rw [meterPermit_serves hnew hm hk, State.reportedTo_congr hmark]
    refine State.MetersOf.ext (s := s) ?_ (s.reportedTo_metersOf _) (fun l => ?_) fun x => ?_
    · split
      · rfl
      · split <;> rfl
    · rw [State.reportedTo_line, hnotice]
      cases s.starts m with
      | true => simp only [if_true, startExpel_line, Bool.and_true, decide_eq_true_eq, eq_comm (a := m.line)]
      | false =>
        simp only [Bool.false_eq_true, if_false, Bool.and_false]
        split <;> rfl
    · rw [State.reportedTo_meter]
      by_cases hx : x = c
      · rw [hx, decide_eq_true rfl, if_pos rfl, hm, Option.map_some, State.afterReport]
        split
        · rw [startExpel_meter, if_pos rfl, hm, Option.map_some]
        · split
          · exact State.setMeter_meter_same ..
          · exact hm
      · rw [decide_eq_false hx, if_neg Bool.false_ne_true]
        split
        · rw [startExpel_meter, if_neg hx]
        · split
          · exact State.setMeter_meter_other _ _ hx
          · rfl

theorem foldl_meterPermit (hnew : new = s.cal.permits[s.cal.period][k]) (cs : List (Fin 24)) (hcs : cs.Nodup) :
    cs.foldl (fun s c => meterPermit k new c s) s = s.reportedTo fun c => decide (c ∈ cs) && s.servesAs k c := by
  induction cs using List.reverseRecOn with
  | nil => exact (State.reportedTo_none fun c hc => absurd hc (by simp)).symm
  | append_singleton cs c ih =>
    obtain ⟨hcs, -, hc⟩ := List.nodup_append.mp hcs
    have hfresh : c ∉ cs := fun h => hc c h c (List.mem_singleton_self c) rfl
    rw [List.foldl_concat, ih hcs, meterPermit_eq (by simpa using hnew)]
    simp only [State.reportedTo_servesAs]
    rw [State.reportedTo_reportedTo]
    · refine State.reportedTo_congr fun x => ?_
      rw [← Bool.and_or_distrib_right]
      simp
    · intro x hx
      rw [of_decide_eq_true (Bool.and_eq_true_iff.mp hx).1, decide_eq_false hfresh, Bool.false_and]

theorem permitMeters_eq (hnew : new = s.cal.permits[s.cal.period][k]) : permitMeters k new s = s.reportedTo (s.servesAs k) := by
  refine (foldl_meterPermit hnew allChannels (List.nodup_finRange 24)).trans (State.reportedTo_congr fun c => ?_)
  rw [decide_eq_true (show c ∈ allChannels from List.mem_finRange c), Bool.true_and]

end PermitMeters

/-! ## The report of one class (R105) -/

/-- A line with a meter is not one that waits. -/
def State.MetersStand (s : State) : Prop := ∀ c m, s.meter c = some m → (s.line m.line).state ≠ .waiting

/-- R105: line `l` waits with class `k`, whose permit in force is not OPEN. -/
def State.drops (s : State) (k : Fin 8) (l : Fin 32) : Bool :=
  s.waitsAs k l && decide (s.cal.permits[s.cal.period][k] ≠ .opened)

/-- Reports to meters leave the waiters' lines. -/
theorem State.noticed_waits {s : State} (h : s.MetersStand) (P : Fin 24 → Bool) {l : Fin 32} (hl : (s.line l).state = .waiting) :
    s.noticed P l = false := by
  refine Bool.eq_false_iff.mpr fun hn => ?_
  obtain ⟨c, -, m, hm, rfl, -⟩ := State.noticed_iff.mp hn
  exact h c m hm hl

/-- The two states are `s` but for what a permit report can change. -/
def State.ReportOf (s t : State) : Prop :=
  t = { s with lines := t.lines, meters := t.meters, accounts := t.accounts, queue := t.queue }

theorem State.ReportOf.ext {s t u : State} (ht : s.ReportOf t) (hu : s.ReportOf u) (hq : t.queue = u.queue) (hl : ∀ l, t.line l = u.line l)
    (ha : ∀ a, t.account a = u.account a) (hm : ∀ c, t.meter c = u.meter c) : t = u := by
  have hlines : t.lines = u.lines := Vector.ext fun i hi => hl ⟨i, hi⟩
  have haccounts : t.accounts = u.accounts := Vector.ext fun i hi => ha ⟨i, hi⟩
  have hmeters : t.meters = u.meters := Vector.ext fun i hi => hm ⟨i, hi⟩
  rw [ht, hu, hq, hlines, haccounts, hmeters]

theorem State.ReportOf.refl (s : State) : s.ReportOf s := rfl

theorem State.ReportOf.dismissed {s t : State} (h : s.ReportOf t) (p : Fin 32 → Bool) : s.ReportOf (t.dismissed p) := by
  unfold State.ReportOf at h ⊢
  rw [h]
  rfl

theorem State.ReportOf.reportedTo {s t : State} (h : s.ReportOf t) (P : Fin 24 → Bool) : s.ReportOf (t.reportedTo P) := by
  unfold State.ReportOf at h ⊢
  rw [h]
  rfl

section Commute

variable {s : State} (P : Fin 24 → Bool) (p : Fin 32 → Bool)

@[simp] theorem State.dismissed_cal (s : State) : (s.dismissed p).cal = s.cal := by simp only [State.dismissed]

@[simp] theorem State.dismissed_params (s : State) : (s.dismissed p).params = s.params := by simp only [State.dismissed]

@[simp] theorem State.dismissed_meter (s : State) (c : Fin 24) : (s.dismissed p).meter c = s.meter c := by
  simp only [State.dismissed, State.meter]

@[simp] theorem State.dismissed_starts (s : State) : (s.dismissed p).starts = s.starts := State.starts_congr (s.dismissed_cal p)

@[simp] theorem State.dismissed_afterReport (s : State) : (s.dismissed p).afterReport = s.afterReport := by
  funext m
  simp only [State.afterReport, State.dismissed_starts, State.dismissed_now, State.dismissed_params, State.dismissed_cal]

@[simp] theorem State.dismissed_noticed (s : State) (l : Fin 32) : (s.dismissed p).noticed P l = s.noticed P l := by
  simp only [State.noticed, State.dismissed_meter, State.dismissed_starts]

theorem State.reportedTo_holders (s : State) (a : Fin 256) : (s.reportedTo P).holders p a = s.holders p a := by
  simp only [State.holders, State.reportedTo_admission]

theorem State.reportedTo_account (s : State) (a : Fin 256) : (s.reportedTo P).account a = s.account a := by
  simp only [State.reportedTo, State.account]

theorem State.reportedTo_queue (s : State) : (s.reportedTo P).queue = s.queue := by simp only [State.reportedTo]

theorem State.dismissed_queue (s : State) : (s.dismissed p).queue = s.queue.filter fun w => !p w.line := by simp only [State.dismissed]

/-- Dismissals and reports to meters speak of different lines. -/
theorem State.reportedTo_dismissed (h : s.MetersStand) (hp : ∀ l, p l = true → (s.line l).state = .waiting) :
    (s.reportedTo P).dismissed p = (s.dismissed p).reportedTo P := by
  refine State.ReportOf.ext (((State.ReportOf.refl s).reportedTo P).dismissed p) (((State.ReportOf.refl s).dismissed p).reportedTo P) ?_
    (fun l => ?_) (fun a => ?_) fun c => ?_
  · rw [State.dismissed_queue, State.reportedTo_queue, State.reportedTo_queue, State.dismissed_queue]
  · rw [State.dismissed_line, State.reportedTo_line, State.reportedTo_line, State.dismissed_line, State.dismissed_noticed,
      State.reportedTo_now, State.dismissed_now, State.dismissed_params]
    cases hl : p l with
    | false => rfl
    | true => rw [State.noticed_waits h P (hp l hl), if_neg Bool.false_ne_true, if_neg Bool.false_ne_true]
  · rw [State.dismissed_account, State.reportedTo_account, State.reportedTo_account, State.dismissed_account, State.reportedTo_holders]
  · rw [State.dismissed_meter, State.reportedTo_meter, State.reportedTo_meter, State.dismissed_meter, State.dismissed_afterReport]

end Commute

/-! ### The end of a drain among the reports -/

theorem drainEnd_reportedTo (P : Fin 24 → Bool) (t : State) : (drainEnd t).reportedTo P = drainEnd (t.reportedTo P) := by
  refine drainEnd_commutes (f := fun t => t.reportedTo P) rfl (by simp only [State.reportedTo]) (State.drained_congr fun l => ?_)
  rw [State.reportedTo_admission, State.reportedTo_state]
  exact ⟨rfl, rfl⟩

theorem State.settledBy_reportedTo (P : Fin 24 → Bool) (p : Fin 32 → Bool) (t : State) :
    (t.settledBy p).reportedTo P = (t.reportedTo P).settledBy p := by
  unfold State.settledBy
  split
  · exact drainEnd_reportedTo P t
  · rfl

/-- The end of a drain changes the service state alone. -/
theorem State.settledBy_reads {α : Type} (f : State → α) {t : State} (h : f (drainEnd t) = f t) (p : Fin 32 → Bool) : f (t.settledBy p) = f t := by
  unfold State.settledBy
  split
  · exact h
  · rfl

@[simp] theorem State.settledBy_cal (t : State) (p : Fin 32 → Bool) : (t.settledBy p).cal = t.cal :=
  State.settledBy_reads State.cal (by simp) p

@[simp] theorem State.settledBy_meter (t : State) (p : Fin 32 → Bool) (c : Fin 24) : (t.settledBy p).meter c = t.meter c :=
  State.settledBy_reads (fun t => t.meter c) (by simp) p

@[simp] theorem State.settledBy_queue (t : State) (p : Fin 32 → Bool) : (t.settledBy p).queue = t.queue :=
  State.settledBy_reads State.queue (by simp) p

section OneClass

variable {s : State} {k : Fin 8} {new : Permit} (hs : s.WaitersStand)

include hs

theorem permitWaiters_eq (hnew : new = s.cal.permits[s.cal.period][k]) : permitWaiters k new s = (s.dismissed (s.drops k)).settledBy (s.drops k) := by
  by_cases ho : s.cal.permits[s.cal.period][k] = .opened
  · have hnone : ∀ l, s.drops k l = false := fun l => by rw [State.drops, ho, decide_eq_false (not_not_intro rfl), Bool.and_false]
    rw [State.dismissed_none hnone, State.settledBy, if_neg fun ⟨l, hl⟩ => Bool.false_ne_true ((hnone l).symm.trans hl), hnew, ho]
    rfl
  · have hall : s.drops k = s.waitsAs k := funext fun l => by rw [State.drops, decide_eq_true ho, Bool.and_true]
    have hdrop : permitWaiters k new s = dropClass k s := by
      rw [← hnew] at ho
      cases new with
      | opened => exact absurd rfl ho
      | closed => rfl
      | expel => rfl
    rw [hdrop, dropClass_dismisses hs, hall]

theorem permitReport_eq (hnew : new = s.cal.permits[s.cal.period][k]) :
    permitReport k new s = ((s.dismissed (s.drops k)).reportedTo (s.servesAs k)).settledBy (s.drops k) := by
  have hserves : ((s.dismissed (s.drops k)).settledBy (s.drops k)).servesAs k = s.servesAs k := by
    funext c
    simp only [State.servesAs, State.settledBy_meter, State.dismissed_meter]
  have hforce : new = ((s.dismissed (s.drops k)).settledBy (s.drops k)).cal.permits[
      ((s.dismissed (s.drops k)).settledBy (s.drops k)).cal.period][k] := by
    simp only [State.settledBy_cal, State.dismissed_cal]
    exact hnew
  rw [permitReport, permitWaiters_eq hs hnew, permitMeters_eq hforce, hserves, State.settledBy_reportedTo]

end OneClass

end Sys2Proof.Machine
end

section
/-! The permit reports of a set of classes (R105) and the evaluation of the period (R101). -/

namespace Sys2Proof.Machine

open Sys2Proof

/-- R105: the classes `ks` and class `k`. -/
def withClass (ks : Fin 8 → Bool) (k : Fin 8) (j : Fin 8) : Bool := ks j || decide (j = k)

/-- R118: the meter of channel `c` serves a class that `ks` marks. -/
def State.serves (s : State) (ks : Fin 8 → Bool) (c : Fin 24) : Bool := (s.meter c).any fun m => ks m.cls

/-- R105: the reports of the classes that `ks` marks have been made. -/
def State.reported (s : State) (ks : Fin 8 → Bool) : State := (s.dismissed (s.dismisses ks)).reportedTo (s.serves ks)

section Sets

variable {s : State} {ks : Fin 8 → Bool} {k : Fin 8}

theorem State.dismisses_iff {l : Fin 32} : s.dismisses ks l = true ↔ (s.line l).state = .waiting ∧
    ∃ a, (s.line l).admission = some a ∧ ks a.cls = true ∧ s.cal.permits[s.cal.period][a.cls] ≠ .opened := by
  rw [State.dismisses, Bool.and_eq_true, decide_eq_true_eq]
  refine and_congr_right fun _ => ?_
  cases (s.line l).admission with
  | none => simp
  | some a => simp

theorem State.drops_iff {l : Fin 32} : s.drops k l = true ↔ (s.line l).state = .waiting ∧
    ∃ a, (s.line l).admission = some a ∧ a.cls = k ∧ s.cal.permits[s.cal.period][k] ≠ .opened := by
  rw [State.drops, Bool.and_eq_true, State.waitsAs_iff, decide_eq_true_eq]
  constructor
  · rintro ⟨⟨hl, a, ha, hk⟩, ho⟩
    exact ⟨hl, a, ha, hk, ho⟩
  · rintro ⟨hl, a, ha, hk, ho⟩
    exact ⟨⟨hl, a, ha, hk⟩, ho⟩

theorem State.dismisses_withClass (l : Fin 32) : s.dismisses (withClass ks k) l = (s.dismisses ks l || s.drops k l) := by
  refine Bool.eq_iff_iff.mpr ?_
  rw [Bool.or_eq_true, State.dismisses_iff, State.dismisses_iff, State.drops_iff]
  simp only [withClass, Bool.or_eq_true, decide_eq_true_eq]
  constructor
  · rintro ⟨hl, a, ha, hk | rfl, ho⟩
    · exact .inl ⟨hl, a, ha, hk, ho⟩
    · exact .inr ⟨hl, a, ha, rfl, ho⟩
  · rintro (⟨hl, a, ha, hk, ho⟩ | ⟨hl, a, ha, rfl, ho⟩)
    · exact ⟨hl, a, ha, .inl hk, ho⟩
    · exact ⟨hl, a, ha, .inr rfl, ho⟩

theorem State.serves_withClass (c : Fin 24) : s.serves (withClass ks k) c = (s.serves ks c || s.servesAs k c) := by
  rw [State.serves, State.serves, State.servesAs]
  cases s.meter c <;> rfl

theorem State.drops_disjoint (hk : ks k = false) (l : Fin 32) (h : s.drops k l = true) : s.dismisses ks l = false := by
  obtain ⟨-, a, ha, rfl, -⟩ := State.drops_iff.mp h
  refine Bool.eq_false_iff.mpr fun hd => ?_
  obtain ⟨-, b, hb, hks, -⟩ := State.dismisses_iff.mp hd
  rw [ha] at hb
  exact Bool.false_ne_true (hk.symm.trans (Option.some.inj hb ▸ hks))

theorem State.serves_disjoint (hk : ks k = false) (c : Fin 24) (h : s.servesAs k c = true) : s.serves ks c = false := by
  obtain ⟨m, hm, rfl⟩ := State.servesAs_iff.mp h
  rw [State.serves, hm, Option.any_some, hk]

/-! ## What the reports of one set leave to another -/

theorem State.reported_line (s : State) (ks : Fin 8 → Bool) (l : Fin 32) : (s.reported ks).line l =
    if s.noticed (s.serves ks) l then Line.request s.now 18 s.params.expelGrace ((s.dismissed (s.dismisses ks)).line l)
    else (s.dismissed (s.dismisses ks)).line l := by
  rw [State.reported, State.reportedTo_line, State.dismissed_noticed, State.dismissed_now, State.dismissed_params]

theorem State.reported_stays {l : Fin 32} (h : s.dismisses ks l = false) :
    ((s.reported ks).line l).state = (s.line l).state ∧ ((s.reported ks).line l).admission = (s.line l).admission := by
  rw [State.reported, State.reportedTo_state, State.reportedTo_admission, State.dismissed_line, h, if_neg Bool.false_ne_true]
  exact ⟨rfl, rfl⟩

theorem State.reported_leaves {l : Fin 32} (h : s.dismisses ks l = true) :
    ((s.reported ks).line l).state = .draining ∧ ((s.reported ks).line l).admission = none := by
  rw [State.reported, State.reportedTo_state, State.reportedTo_admission, State.dismissed_line, h, if_pos rfl]
  exact ⟨rfl, rfl⟩

theorem State.reported_cal (s : State) (ks : Fin 8 → Bool) : (s.reported ks).cal = s.cal := by
  rw [State.reported, State.reportedTo_cal, State.dismissed_cal]

theorem State.reported_drops (hk : ks k = false) : (s.reported ks).drops k = s.drops k := by
  funext l
  refine Bool.eq_iff_iff.mpr ?_
  simp only [State.drops_iff, State.reported_cal]
  cases hd : s.dismisses ks l with
  | false => rw [(State.reported_stays hd).1, (State.reported_stays hd).2]
  | true =>
    rw [(State.reported_leaves hd).1]
    refine ⟨fun h => absurd h.1 (by decide), fun h => ?_⟩
    exact absurd (State.drops_disjoint hk l (State.drops_iff.mpr h)) (by rw [hd]; decide)

theorem State.reported_servesAs (s : State) (ks : Fin 8 → Bool) (k : Fin 8) : (s.reported ks).servesAs k = s.servesAs k := by
  funext c
  rw [State.reported, State.reportedTo_servesAs, State.servesAs, State.dismissed_meter, State.servesAs]

theorem State.dismisses_waits {l : Fin 32} (h : s.dismisses ks l = true) : (s.line l).state = .waiting := (State.dismisses_iff.mp h).1

theorem State.drops_waits {l : Fin 32} (h : s.drops k l = true) : (s.line l).state = .waiting := (State.drops_iff.mp h).1

/-- The two parts of one more class's report. -/
theorem State.reported_withClass (hm : s.MetersStand) (hk : ks k = false) :
    ((s.reported ks).dismissed (s.drops k)).reportedTo (s.servesAs k) = s.reported (withClass ks k) := by
  have hmeters : (s.dismissed (s.dismisses ks)).MetersStand := fun c m hc => by
    rw [State.dismissed_meter] at hc
    rw [State.dismissed_line]
    split
    · exact LineState.noConfusion
    · exact hm c m hc
  have hwait : ∀ l, s.drops k l = true → ((s.dismissed (s.dismisses ks)).line l).state = .waiting := fun l hl => by
    rw [State.dismissed_line, State.drops_disjoint hk l hl, if_neg Bool.false_ne_true]
    exact State.drops_waits hl
  rw [State.reported, State.reportedTo_dismissed _ _ hmeters hwait, State.dismissed_dismissed (State.drops_disjoint hk),
    State.reportedTo_reportedTo (State.serves_disjoint hk), State.reported]
  rw [State.dismissed_congr fun l => (State.dismisses_withClass l).symm, State.reportedTo_congr fun c => (State.serves_withClass c).symm]

theorem State.WaitersStand.reported (hs : s.WaitersStand) : (s.reported ks).WaitersStand := by
  have hwait : ∀ l, ((s.reported ks).line l).state = .waiting → s.dismisses ks l = false := fun l hl =>
    Bool.eq_false_iff.mpr fun hd => by
      rw [(State.reported_leaves hd).1] at hl
      exact absurd hl (by decide)
  have hqueue : (s.reported ks).queue = s.queue.filter fun w => !s.dismisses ks w.line := by
    rw [State.reported, State.reportedTo_queue, State.dismissed_queue]
  refine ⟨fun l => ?_, fun l hl => ?_⟩
  · rw [hqueue]
    constructor
    · rintro ⟨w, hw, rfl⟩
      obtain ⟨hw, hstay⟩ := List.mem_filter.mp hw
      rw [(State.reported_stays (Bool.not_eq_true' _ ▸ hstay)).1]
      exact (hs.1 _).mp ⟨w, hw, rfl⟩
    · intro hl
      have hd := hwait l hl
      rw [(State.reported_stays hd).1] at hl
      obtain ⟨w, hw, rfl⟩ := (hs.1 l).mpr hl
      exact ⟨w, List.mem_filter.mpr ⟨hw, by rw [hd]; rfl⟩, rfl⟩
  · have hd := hwait l hl
    rw [(State.reported_stays hd).1] at hl
    rw [(State.reported_stays hd).2]
    exact hs.2 l hl

end Sets

/-! ## One class after another (R105) -/

section Classes

variable {s : State} (hs : s.WaitersStand) (hm : s.MetersStand)

/-- R105: what the reports of a set of classes leave. -/
def State.outcome (s : State) (ks : Fin 8 → Bool) : State := (s.reported ks).settledBy (s.dismisses ks)

theorem State.WaitersStand.settledBy {t : State} (h : t.WaitersStand) (p : Fin 32 → Bool) : (t.settledBy p).WaitersStand := by
  unfold State.WaitersStand
  simp only [State.settledBy_line, State.settledBy_queue]
  exact h

theorem State.settledBy_drops (t : State) (p : Fin 32 → Bool) (k : Fin 8) : (t.settledBy p).drops k = t.drops k := by
  funext l
  refine Bool.eq_iff_iff.mpr ?_
  simp only [State.drops_iff, State.settledBy_line, State.settledBy_cal]

theorem State.settledBy_servesAs (t : State) (p : Fin 32 → Bool) (k : Fin 8) : (t.settledBy p).servesAs k = t.servesAs k := by
  funext c
  rw [State.servesAs, State.settledBy_meter, State.servesAs]

theorem State.outcome_cal (s : State) (ks : Fin 8 → Bool) : (s.outcome ks).cal = s.cal := by
  rw [State.outcome, State.settledBy_cal, State.reported_cal]

theorem State.outcome_none {ks : Fin 8 → Bool} (h : ∀ k, ks k = false) : s.outcome ks = s := by
  have hdrop : ∀ l, s.dismisses ks l = false := fun l => Bool.eq_false_iff.mpr fun hl => by
    obtain ⟨-, a, -, hk, -⟩ := State.dismisses_iff.mp hl
    exact Bool.false_ne_true ((h _).symm.trans hk)
  rw [State.outcome, State.reported, State.dismissed_none hdrop, State.reportedTo_none, State.settledBy, if_neg]
  · rintro ⟨l, hl⟩
    exact Bool.false_ne_true ((hdrop l).symm.trans hl)
  · intro c hc
    cases hx : s.meter c with
    | none => rfl
    | some m =>
      rw [State.serves, hx, Option.any_some, h] at hc
      exact absurd hc Bool.false_ne_true

include hs hm

theorem permitReport_outcome {ks : Fin 8 → Bool} {k : Fin 8} {new : Permit} (hk : ks k = false) (hnew : new = s.cal.permits[s.cal.period][k]) :
    permitReport k new (s.outcome ks) = s.outcome (withClass ks k) := by
  have hforce : new = (s.outcome ks).cal.permits[(s.outcome ks).cal.period][k] := by
    simp only [State.outcome_cal]
    exact hnew
  have hdrops : (s.outcome ks).drops k = s.drops k := by rw [State.outcome, State.settledBy_drops, State.reported_drops hk]
  have hserves : (s.outcome ks).servesAs k = s.servesAs k := by rw [State.outcome, State.settledBy_servesAs, State.reported_servesAs]
  rw [permitReport_eq (s := s.outcome ks) (hs.reported.settledBy _) hforce, hdrops, hserves]
  have hset : s.dismisses (withClass ks k) = fun l => s.dismisses ks l || s.drops k l := funext State.dismisses_withClass
  by_cases hone : ∃ l, s.drops k l = true
  · obtain ⟨l, hl⟩ := hone
    have hheld : ((s.reported ks).line l).admission ≠ none := by
      obtain ⟨-, a, ha, -⟩ := State.drops_iff.mp hl
      rw [(State.reported_stays (State.drops_disjoint hk l hl)).2, ha]
      exact Option.some_ne_none a
    rw [State.outcome, State.settledBy_held hheld, State.reported_withClass hm hk, State.outcome, State.settledBy, State.settledBy,
      if_pos ⟨l, hl⟩, if_pos ⟨l, (State.dismisses_withClass l).trans (by rw [hl, Bool.or_true])⟩]
  · have hnone : ∀ l, s.drops k l = false := fun l => Bool.eq_false_iff.mpr fun hl => hone ⟨l, hl⟩
    have hsame : s.dismisses (withClass ks k) = s.dismisses ks := hset.trans (funext fun l => by rw [hnone l, Bool.or_false])
    have hwith := State.reported_withClass hm hk
    rw [State.dismissed_none hnone] at hwith
    rw [State.dismissed_none hnone, State.outcome, State.settledBy_reportedTo, hwith, State.outcome, hsame]
    exact if_neg hone

/-- R105: the report of one class alone. -/
theorem permitReport_one {k : Fin 8} {new : Permit} (hnew : new = s.cal.permits[s.cal.period][k]) :
    permitReport k new s = s.outcome fun j => decide (j = k) := by
  have hnone := State.outcome_none (s := s) (ks := fun _ => false) fun _ => rfl
  have hstep := permitReport_outcome (ks := fun _ => false) hs hm (k := k) rfl hnew
  rw [hnone] at hstep
  exact hstep

/-- R105: the classes whose permit in force differs between the row of `old` and the current one. -/
theorem foldl_permitReport (old : Fin 8) (ks : List (Fin 8)) (hks : ks.Nodup) :
    ks.foldl (fun s k => if s.cal.permits[old][k] = s.cal.permits[s.cal.period][k] then s
      else permitReport k s.cal.permits[s.cal.period][k] s) s =
    s.outcome fun k => decide (k ∈ ks) && decide (s.cal.permits[old][k] ≠ s.cal.permits[s.cal.period][k]) := by
  induction ks using List.reverseRecOn with
  | nil => exact (State.outcome_none fun k => by simp).symm
  | append_singleton ks k ih =>
    obtain ⟨hks, -, hk⟩ := List.nodup_append.mp hks
    have hfresh : k ∉ ks := fun h => hk k h k (List.mem_singleton_self k) rfl
    rw [List.foldl_concat, ih hks]
    simp only [State.outcome_cal]
    split
    · next heq =>
      refine congrArg s.outcome (funext fun j => ?_)
      by_cases hj : j = k
      · subst hj
        rw [decide_eq_false (not_not_intro heq), Bool.and_false, Bool.and_false]
      · simp [hj]
    · next hne =>
      rw [permitReport_outcome hs hm (by simp [hfresh]) rfl]
      refine congrArg s.outcome (funext fun j => ?_)
      by_cases hj : j = k
      · subst hj
        rw [withClass, decide_eq_true (rfl : j = j), Bool.or_true, decide_eq_true hne, decide_eq_true (by simp : j ∈ ks ++ [j]), Bool.and_self]
      · simp [withClass, hj]

theorem permitReports_outcome (old : Fin 8) : permitReports old s =
    s.outcome fun k => decide (s.cal.permits[old][k] ≠ s.cal.permits[s.cal.period][k]) := by
  refine (foldl_permitReport hs hm old allClasses (List.nodup_finRange 8)).trans (congrArg s.outcome (funext fun k => ?_))
  rw [decide_eq_true (show k ∈ allClasses from List.mem_finRange k), Bool.true_and]

end Classes

/-! ## The statement's form of a report (R105) -/

section Reported

variable {s : State} {ks : Fin 8 → Bool}

theorem State.expels_eq (s : State) (ks : Fin 8 → Bool) (m : Meter) : s.expels ks m = (ks m.cls && s.starts m) := Bool.and_assoc ..

theorem State.noticed_serves (l : Fin 32) : s.noticed (s.serves ks) l = true ↔
    ∃ c, ((s.meter c).any fun m => decide (m.line = l) && s.expels ks m) = true := by
  rw [State.noticed_iff]
  refine exists_congr fun c => ?_
  simp only [State.serves, State.expels_eq, Option.any_eq_true, Bool.and_eq_true, decide_eq_true_eq]
  constructor
  · rintro ⟨⟨m, hm, hk⟩, m', hm', hl, hst⟩
    obtain rfl : m = m' := Option.some.inj (hm.symm.trans hm')
    exact ⟨m, hm, hl, hk, hst⟩
  · rintro ⟨m, hm, hl, hk, hst⟩
    exact ⟨⟨m, hm, hk⟩, m, hm, hl, hst⟩

theorem State.outcome_line (hm : s.MetersStand) (l : Fin 32) : (s.outcome ks).line l =
    if s.dismisses ks l then (s.line l).dismissed s.now
    else if ∃ c, ((s.meter c).any fun m => decide (m.line = l) && s.expels ks m) = true then
      Line.request s.now 18 s.params.expelGrace (s.line l)
    else s.line l := by
  rw [State.outcome, State.settledBy_line, State.reported_line, State.dismissed_line]
  cases hd : s.dismisses ks l with
  | false => simp only [State.noticed_serves, Bool.false_eq_true, if_false]
  | true =>
    rw [State.noticed_waits hm _ (State.dismisses_waits hd), if_neg Bool.false_ne_true, if_pos rfl]
    rfl

theorem State.reported_meter (s : State) (ks : Fin 8 → Bool) (c : Fin 24) : (s.reported ks).meter c = (s.meter c).map fun m =>
    if s.expels ks m then { m with expelNoticed := true, expel := some (s.now + s.params.expelGrace * 600) }
    else if ks m.cls = true ∧ s.cal.permits[s.cal.period][m.cls] ≠ .expel then { m with expel := none }
    else m := by
  rw [State.reported, State.reportedTo_meter, State.dismissed_meter, State.dismissed_afterReport, State.serves]
  cases s.meter c with
  | none => rw [Option.map_none, Option.map_none, ite_self]
  | some m =>
    rw [Option.any_some, Option.map_some, Option.map_some, State.expels_eq, State.afterReport]
    cases ks m.cls with
    | false => simp
    | true => simp

theorem State.outcome_account (s : State) (ks : Fin 8 → Bool) (a : Fin 256) : (s.outcome ks).account a =
    { s.account a with openCount := (s.account a).openCount - s.holders (s.dismisses ks) a } := by
  rw [State.outcome, State.settledBy_reads (fun t => t.account a) (by simp), State.reported, State.reportedTo_account, State.dismissed_account]

/-- R191: the service state once the lines that `p` marks have left `t`. -/
def State.serviceAfter (t : State) (p : Fin 32 → Bool) : Service :=
  if (∃ l, p l = true) ∧ t.mgt.service = .draining ∧
      ∀ l, (t.line l).admission = none ∧ (t.line l).state ≠ .signon ∧ (t.line l).state ≠ .checking then .closed
  else t.mgt.service

theorem State.settledBy_eq (t : State) (p : Fin 32 → Bool) :
    t.settledBy p = { t with mgt := { t.mgt with service := t.serviceAfter p } } := by
  unfold State.settledBy State.serviceAfter
  by_cases hp : ∃ l, p l = true
  · rw [if_pos hp, drainEnd]
    by_cases hd : t.mgt.service = .draining ∧ t.drained = true
    · rw [if_pos hd, if_pos ⟨hp, hd.1, (State.drained_iff t).mp hd.2⟩]
      rfl
    · rw [if_neg hd, if_neg fun h => hd ⟨h.2.1, (State.drained_iff t).mpr h.2.2⟩]
  · rw [if_neg hp, if_neg fun h => hp h.1]

theorem State.ReportOf.mgt {s t : State} (h : s.ReportOf t) : t.mgt = s.mgt := by
  rw [h]

theorem State.outcome_frame (s : State) (ks : Fin 8 → Bool) : s.outcome ks = { s with
    lines := (s.outcome ks).lines
    meters := (s.outcome ks).meters
    accounts := (s.outcome ks).accounts
    queue := s.queue.filter (fun w => !s.dismisses ks w.line)
    mgt := { s.mgt with service :=
      if (∃ l, s.dismisses ks l = true) ∧ s.mgt.service = .draining ∧
          ∀ l, ((s.outcome ks).line l).admission = none ∧ ((s.outcome ks).line l).state ≠ .signon ∧
            ((s.outcome ks).line l).state ≠ .checking then .closed
      else s.mgt.service } } := by
  have hframe : s.ReportOf (s.reported ks) := ((State.ReportOf.refl s).dismissed _).reportedTo _
  have hqueue : (s.reported ks).queue = s.queue.filter fun w => !s.dismisses ks w.line := by
    rw [State.reported, State.reportedTo_queue, State.dismissed_queue]
  have hmgt : ({ (s.reported ks).mgt with service := (s.reported ks).serviceAfter (s.dismisses ks) } : Management) = { s.mgt with service :=
      if (∃ l, s.dismisses ks l = true) ∧ s.mgt.service = .draining ∧
          ∀ l, ((s.outcome ks).line l).admission = none ∧ ((s.outcome ks).line l).state ≠ .signon ∧
            ((s.outcome ks).line l).state ≠ .checking then .closed
      else s.mgt.service } := by
    simp only [State.serviceAfter, hframe.mgt, State.outcome, State.settledBy_line]
  rw [← hmgt, ← hqueue]
  have hparts : (s.outcome ks).lines = (s.reported ks).lines ∧ (s.outcome ks).meters = (s.reported ks).meters ∧
      (s.outcome ks).accounts = (s.reported ks).accounts := by
    rw [State.outcome, State.settledBy_eq]
    exact ⟨rfl, rfl, rfl⟩
  obtain ⟨hlines, hmeters, haccounts⟩ := hparts
  rw [hlines, hmeters, haccounts]
  refine (State.settledBy_eq ..).trans ?_
  exact congrArg (fun t : State => { t with mgt := { (s.reported ks).mgt with service := (s.reported ks).serviceAfter (s.dismisses ks) } }) hframe

theorem State.outcome_reported (hm : s.MetersStand) : s.Reported ks (s.outcome ks) :=
  ⟨s.outcome_frame ks, s.outcome_line hm, s.outcome_account ks, fun c => by rw [State.outcome, State.settledBy_meter, State.reported_meter]⟩

end Reported

end Sys2Proof.Machine
end

section
/-! The evaluation of the period between boundaries, with its reports (R100, R101, R105). -/

namespace Sys2Proof.Machine

open Sys2Proof

theorem State.Coherent.waitersStand {s : State} (h : s.Coherent) : s.WaitersStand := by
  obtain ⟨-, hlines, -, hqueue, -⟩ := h
  refine ⟨hqueue.2.1, fun l hl => Option.isSome_iff_exists.mp ?_⟩
  have hline := hlines l
  rw [State.LineCoherent, hl] at hline
  exact hline.2

theorem State.Coherent.metersStand {s : State} (h : s.Coherent) : s.MetersStand := by
  intro c m hm
  have hchannel := h.1 c
  unfold State.ChannelCoherent at hchannel
  split at hchannel
  case h_2 =>
    obtain ⟨-, l, -, hl, -, m', a, hm', -, hml, -⟩ := hchannel
    obtain rfl : m = m' := Option.some.inj (hm.symm.trans hm')
    rw [hml, hl]
    exact LineState.noConfusion
  all_goals exact absurd (hm.symm.trans hchannel.1) (Option.some_ne_none m)

/-- R114: the meters of the channels `cs` have taken the period report. -/
def State.periodReported (s : State) (q : Fin 8) (cs : List (Fin 24)) (c : Fin 24) : Option Meter :=
  if c ∈ cs then (s.meter c).map fun m => { m with segments := moveSegments q.val m.segments } else s.meter c

theorem foldl_meterPeriod (s : State) (q : Fin 8) (cs : List (Fin 24)) (hcs : cs.Nodup) :
    cs.foldl (fun s c => meterPeriod q c s) s = { s with meters := Vector.ofFn (s.periodReported q cs) } := by
  induction cs using List.reverseRecOn with
  | nil =>
    have hnone : s.periodReported q [] = fun c => s.meters[c] := funext fun c => if_neg List.not_mem_nil
    have hsame : Vector.ofFn (s.periodReported q []) = s.meters := by
      rw [hnone]
      exact Vector.ext fun i hi => by simp
    rw [hsame]
    rfl
  | append_singleton cs c ih =>
    obtain ⟨hcs, -, hc⟩ := List.nodup_append.mp hcs
    have hfresh : c ∉ cs := fun h => hc c h c (List.mem_singleton_self c) rfl
    have hstep : ∀ v : Vector (Option Meter) 24, meterPeriod q c { s with meters := v } =
        { s with meters := v.set c (v[c].map fun m => { m with segments := moveSegments q.val m.segments }) } := fun _ => rfl
    rw [List.foldl_concat, ih hcs, hstep]
    refine congrArg (fun v => { s with meters := v }) (Vector.ext fun i hi => ?_)
    rw [Vector.getElem_set, Vector.getElem_ofFn, Fin.getElem_fin, Vector.getElem_ofFn, Vector.getElem_ofFn]
    by_cases hx : c.val = i
    · subst hx
      rw [if_pos rfl, State.periodReported, State.periodReported, if_neg hfresh, if_pos (by simp)]
    · have hne : (⟨i, hi⟩ : Fin 24) ≠ c := fun h => hx (congrArg Fin.val h).symm
      rw [if_neg hx, State.periodReported, State.periodReported]
      simp [hne]

theorem periodMeters_eq (s : State) (q : Fin 8) : periodMeters q s = { s with
    meters := Vector.ofFn fun c => (s.meter c).map fun m => { m with segments := moveSegments q.val m.segments } } := by
  refine (foldl_meterPeriod s q allChannels (List.nodup_finRange 24)).trans ?_
  have hall : s.periodReported q allChannels = fun c => (s.meter c).map fun m => { m with segments := moveSegments q.val m.segments } :=
    funext fun c => if_pos (List.mem_finRange c)
  rw [hall]

theorem moveSegments_eq {gs : List Segment} (h : gs ≠ []) (q : Nat) : moveSegments q gs = match gs.getLast? with
    | some g => segmentsAt q gs.dropLast g
    | none => [] := by
  rw [List.getLast?_eq_some_getLast h]
  dsimp only
  rw [← moveSegments_append_singleton, List.dropLast_append_getLast h]

section Retuned

variable {s : State} {cal : Calendar} {f : Meter → Meter}

/-- The state with another calendar and every meter changed by `f`. -/
def State.retuned (s : State) (cal : Calendar) (f : Meter → Meter) : State :=
  { s with cal := cal, meters := Vector.ofFn fun c => (s.meter c).map f }

theorem State.retuned_line (l : Fin 32) : (s.retuned cal f).line l = s.line l := by simp only [State.retuned, State.line]

theorem State.retuned_meter (c : Fin 24) : (s.retuned cal f).meter c = (s.meter c).map f := by
  simp only [State.retuned, State.meter, Vector.getElem_ofFn, Fin.getElem_fin]

theorem State.retuned_waitersStand (h : s.WaitersStand) : (s.retuned cal f).WaitersStand := by
  have hqueue : (s.retuned cal f).queue = s.queue := by simp only [State.retuned]
  unfold State.WaitersStand
  simp only [State.retuned_line, hqueue]
  exact h

theorem State.retuned_metersStand (h : s.MetersStand) (hf : ∀ m, (f m).line = m.line) : (s.retuned cal f).MetersStand := by
  intro c m hm
  rw [State.retuned_meter] at hm
  obtain ⟨m', hm', rfl⟩ := Option.map_eq_some_iff.mp hm
  rw [hf, State.retuned_line]
  exact h c m' hm'

end Retuned

/-- R105: the reports of the classes whose permit in force changed. -/
theorem permitReports_reported {s : State} (hs : s.WaitersStand) (hm : s.MetersStand) {old : Fin 8} {ks : Fin 8 → Bool}
    (hks : ∀ k, ks k = decide (s.cal.permits[old][k] ≠ s.cal.permits[s.cal.period][k])) : s.Reported ks (permitReports old s) := by
  rw [permitReports_outcome hs hm, ← funext hks]
  exact State.outcome_reported hm

/-- R113: a meter after the period moves to `q`. -/
def Meter.retuned (q : Fin 8) (m : Meter) : Meter :=
  { m with segments := match m.segments.getLast? with
    | some g => segmentsAt q.val m.segments.dropLast g
    | none => [] }

theorem Meter.retuned_line (q : Fin 8) (m : Meter) : (m.retuned q).line = m.line := by simp only [Meter.retuned]

theorem reevaluate_moves {s : State} (hq : s.cal.evaluate ≠ s.cal.period) (hsegs : ∀ c m, s.meter c = some m → m.segments ≠ []) :
    reevaluate s = permitReports s.cal.period (s.retuned (s.cal.evaluated s.cal.evaluate) (Meter.retuned s.cal.evaluate)) := by
  have hmeters : (fun c => (s.meter c).map fun m => { m with segments := moveSegments s.cal.evaluate.val m.segments }) =
      fun c => (s.meter c).map (Meter.retuned s.cal.evaluate) := funext fun c => by
    cases hm : s.meter c with
    | none => rfl
    | some m => rw [Option.map_some, Option.map_some, moveSegments_eq (hsegs c m hm), Meter.retuned]
  rw [reevaluate, State.updCal, Calendar.settle_eq]
  refine (if_neg hq).trans (congrArg (permitReports s.cal.period) ?_)
  rw [State.retuned, ← hmeters]
  exact periodMeters_eq { s with cal := s.cal.evaluated s.cal.evaluate } s.cal.evaluate

/-- Settles O26: the reports of the classes that changed, after the period report to the meters. -/
theorem periodMoves : Obligations.PeriodMoves := by
  unfold Obligations.PeriodMoves
  refine ⟨fun s hs hw hsegs => ⟨s.cal.evaluate, Calendar.gives_evaluate, fun hq => ?_, fun hq => ?_⟩,
    fun s old hs => permitReports_reported hs.waitersStand hs.metersStand fun _ => rfl⟩
  · rw [reevaluate, State.updCal, Calendar.settle_eq]
    exact if_pos hq
  · rw [reevaluate_moves hq hsegs]
    refine permitReports_reported (State.retuned_waitersStand hs.waitersStand) (State.retuned_metersStand hs.metersStand fun m => m.retuned_line s.cal.evaluate) fun k => ?_
    rfl

end Sys2Proof.Machine
end

section
/-! The tariff loads (R62, R96 to R106): LOAD HOLIDAY, SCHEDULE, DAYSTART, RATE, PERMIT and CLASS. -/

namespace Sys2Proof.Machine

open Sys2Proof

/-! ## The three answers of a tariff load (R62) -/

section Load

variable {s : State} {load : Option (State → State)}

theorem tariffLoad_protected (h : s.dir.tariffs = true) : tariffLoad load s = (s, isProtected) := if_pos h

variable (h : s.dir.tariffs = false)

include h

theorem tariffLoad_refused (hload : load = none) : tariffLoad load s = (s, badValue) := by
  subst hload
  exact if_neg (by rw [h]; decide)

theorem tariffLoad_takes {f : State → State} (hload : load = some f) : tariffLoad load s = (f s, done) := by
  subst hload
  exact if_neg (by rw [h]; decide)

end Load

/-! ## The values of the fields -/

theorem holidayOf_some {month day : Byte} (h : (month = 0 ∧ day = 0) ∨ (1 ≤ month.toNat ∧ month.toNat ≤ 12 ∧ 1 ≤ day.toNat ∧
    day.toNat ≤ if month = 2 then 29 else if month ∈ [4, 6, 9, 11] then 30 else 31)) :
    holidayOf month day = some (if month = 0 then none else some (month.toNat, day.toNat)) := by
  unfold holidayOf
  rcases h with ⟨rfl, rfl⟩ | h
  · rfl
  · have hmonth : month ≠ 0 := by
      rintro rfl
      exact absurd h.1 (by decide)
    rw [lastDay_toNat]
    exact (if_neg fun hz => hmonth hz.1).trans ((if_pos h).trans (congrArg some (if_neg hmonth).symm))

theorem holidayOf_none {month day : Byte} (h : ¬ ((month = 0 ∧ day = 0) ∨ (1 ≤ month.toNat ∧ month.toNat ≤ 12 ∧ 1 ≤ day.toNat ∧
    day.toNat ≤ if month = 2 then 29 else if month ∈ [4, 6, 9, 11] then 30 else 31))) : holidayOf month day = none := by
  obtain ⟨hempty, hdate⟩ := not_or.mp h
  unfold holidayOf
  rw [lastDay_toNat]
  exact (if_neg hempty).trans (if_neg hdate)

theorem keepIf_true {α : Type} {ok : Bool} (h : ok = true) (a : α) : keepIf ok a = some a := if_pos h

theorem keepIf_false {α : Type} {ok : Bool} (h : ¬ ok = true) (a : α) : keepIf ok a = none := if_neg h

/-- R98: the fields of a schedule entry in range. -/
def ScheduleFields (enabled weekdays hour minute period : Byte) : Prop :=
  enabled.toNat ≤ 1 ∧ weekdays.toNat ≤ 127 ∧ hour.toNat ≤ 23 ∧ minute.toNat ≤ 59 ∧ period.toNat ≤ 7

section Schedule

variable {enabled weekdays hour minute period : Byte}

theorem scheduleOf_some (h : ScheduleFields enabled weekdays hour minute period) {p : Fin 8} (hp : p.val = period.toNat) :
    scheduleOf enabled weekdays hour minute period =
      some ⟨decide (enabled = 1), weekdays.setWidth 7, hour.toNat, minute.toNat, p⟩ := by
  obtain ⟨hen, hdays, hhour, hmin, -⟩ := h
  rw [scheduleOf, flagOf_some hen, finOf_eq hp]
  exact keepIf_true (by simp [hhour, hmin, Nat.lt_succ_of_le hdays]) _

theorem scheduleOf_none (h : ¬ ScheduleFields enabled weekdays hour minute period) : scheduleOf enabled weekdays hour minute period = none := by
  unfold scheduleOf
  by_cases hen : enabled.toNat ≤ 1
  · rw [flagOf_some hen]
    by_cases hp : period.toNat ≤ 7
    · rw [finOf_eq (k := ⟨period.toNat, Nat.lt_succ_of_le hp⟩) rfl]
      refine keepIf_false (fun hk => h ?_) _
      simp only [Bool.and_eq_true, decide_eq_true_eq] at hk
      obtain ⟨⟨hdays, hhour⟩, hmin⟩ := hk
      exact ⟨hen, Nat.le_of_lt_succ hdays, hhour, hmin, hp⟩
    · rw [finOf_none (n := 8) (Nat.lt_of_not_le hp)]
      rfl
  · rw [flagOf_none (Nat.lt_of_not_le hen)]
    rfl

end Schedule

/-- R106: the fields of a class record in range. -/
def ClassFields (maximum : Half) (priority essential : Byte) : Prop :=
  1 ≤ maximum.toNat ∧ maximum.toNat ≤ 1440 ∧ priority.toNat ≤ 1 ∧ essential.toNat ≤ 1

section Class

variable {setup grace priority essential : Byte} {maximum : Half}

theorem classOf_some (h : ClassFields maximum priority essential) : classOf setup maximum grace priority essential =
    some ⟨setup.toNat, maximum.toNat, grace.toNat, decide (priority = 1), decide (essential = 1)⟩ := by
  obtain ⟨hlow, hhigh, hp, he⟩ := h
  rw [classOf, flagOf_some hp, flagOf_some he]
  exact keepIf_true (decide_eq_true ⟨hlow, hhigh⟩) _

theorem classOf_none (h : ¬ ClassFields maximum priority essential) : classOf setup maximum grace priority essential = none := by
  unfold classOf
  by_cases hp : priority.toNat ≤ 1
  · rw [flagOf_some hp]
    by_cases he : essential.toNat ≤ 1
    · rw [flagOf_some he]
      refine keepIf_false (fun hk => h ?_) _
      obtain ⟨hlow, hhigh⟩ := of_decide_eq_true hk
      exact ⟨hlow, hhigh, hp, he⟩
    · rw [flagOf_none (Nat.lt_of_not_le he)]
      rfl
  · rw [flagOf_none (Nat.lt_of_not_le hp)]
    rfl

end Class

theorem permitOf_code (x : Permit) : permitOf x.code = some x := by cases x <;> rfl

theorem permitOf_none {b : Byte} (h : 2 < b.toNat) : permitOf b = none := by
  have h0 : b ≠ 0 := by rintro rfl; exact absurd h (by decide)
  have h1 : b ≠ 1 := by rintro rfl; exact absurd h (by decide)
  have h2 : b ≠ 2 := by rintro rfl; exact absurd h (by decide)
  rw [permitOf, if_neg h0, if_neg h1, if_neg h2]

/-! ## The commands -/

section Commands

variable {s : State} (h : s.dir.tariffs = false)

include h

theorem cmdLoadHoliday_takes {entry month day : Byte} {e : Fin 16} (he : e.val = entry.toNat) {x : Option (Nat × Nat)}
    (hx : holidayOf month day = some x) : cmdLoadHoliday entry month day s = (reevaluate { s with
      cal := Calendar.withDay s.params.holidayWeekday { s.cal with holidays := s.cal.holidays.set e x } }, done) := by
  rw [cmdLoadHoliday, finOf_eq he, hx]
  refine (tariffLoad_takes h rfl).trans ?_
  rw [recomputeDay_eq]
  rfl

theorem cmdLoadHoliday_refused {entry month day : Byte} (hno : 15 < entry.toNat ∨ holidayOf month day = none) :
    cmdLoadHoliday entry month day s = (s, badValue) := by
  refine tariffLoad_refused h ?_
  rcases hno with he | hx
  · rw [finOf_none (n := 16) he]
    rfl
  · rw [hx]
    cases finOf 16 entry <;> rfl

theorem cmdLoadSchedule_takes {entry enabled weekdays hour minute period : Byte} {e : Fin 16} (he : e.val = entry.toNat) {x : ScheduleEntry}
    (hx : scheduleOf enabled weekdays hour minute period = some x) : cmdLoadSchedule entry enabled weekdays hour minute period s =
      (reevaluate { s with cal := { s.cal with schedule := s.cal.schedule.set e x } }, done) := by
  rw [cmdLoadSchedule, finOf_eq he, hx]
  exact tariffLoad_takes h rfl

theorem cmdLoadSchedule_refused {entry enabled weekdays hour minute period : Byte}
    (hno : 15 < entry.toNat ∨ scheduleOf enabled weekdays hour minute period = none) :
    cmdLoadSchedule entry enabled weekdays hour minute period s = (s, badValue) := by
  refine tariffLoad_refused h ?_
  rcases hno with he | hx
  · rw [finOf_none (n := 16) he]
    rfl
  · rw [hx]
    cases finOf 16 entry <;> rfl

theorem cmdLoadDaystart_takes {weekday period : Byte} {w : Fin 7} (hw : w.val = weekday.toNat) {p : Fin 8} (hp : p.val = period.toNat) :
    cmdLoadDaystart weekday period s = (reevaluate { s with cal := { s.cal with dayStart := s.cal.dayStart.set w p } }, done) := by
  rw [cmdLoadDaystart, finOf_eq hw, finOf_eq hp]
  exact tariffLoad_takes h rfl

theorem cmdLoadDaystart_refused {weekday period : Byte} (hno : 6 < weekday.toNat ∨ 7 < period.toNat) :
    cmdLoadDaystart weekday period s = (s, badValue) := by
  refine tariffLoad_refused h ?_
  rcases hno with hw | hp
  · rw [finOf_none (n := 7) hw]
    rfl
  · rw [finOf_none (n := 8) hp]
    cases finOf 7 weekday <;> rfl

theorem cmdLoadRate_takes {period cls : Byte} {p k : Fin 8} (hp : p.val = period.toNat) (hk : k.val = cls.toNat) (rate : Half) :
    cmdLoadRate period cls rate s = ({ s with cal := { s.cal with
      rates := s.cal.rates.set p (s.cal.rates[p].set k rate.toNat) } }, done) := by
  rw [cmdLoadRate, finOf_eq hp, finOf_eq hk]
  exact tariffLoad_takes h rfl

theorem cmdLoadRate_refused {period cls : Byte} (hno : 7 < period.toNat ∨ 7 < cls.toNat) (rate : Half) :
    cmdLoadRate period cls rate s = (s, badValue) := by
  refine tariffLoad_refused h ?_
  rcases hno with hp | hk
  · rw [finOf_none (n := 8) hp]
    rfl
  · rw [finOf_none (n := 8) hk]
    cases finOf 8 period <;> rfl

theorem cmdLoadPermit_takes {period cls : Byte} {p k : Fin 8} (hp : p.val = period.toNat) (hk : k.val = cls.toNat) (x : Permit) :
    cmdLoadPermit period cls x.code s = (loadPermit p k x s, done) := by
  rw [cmdLoadPermit, finOf_eq hp, finOf_eq hk, permitOf_code]
  exact tariffLoad_takes h rfl

theorem cmdLoadPermit_refused {period cls permit : Byte} (hno : 7 < period.toNat ∨ 7 < cls.toNat ∨ 2 < permit.toNat) :
    cmdLoadPermit period cls permit s = (s, badValue) := by
  refine tariffLoad_refused h ?_
  rcases hno with hp | hk | hx
  · rw [finOf_none (n := 8) hp]
    rfl
  · rw [finOf_none (n := 8) hk]
    cases finOf 8 period <;> rfl
  · rw [permitOf_none hx]
    cases finOf 8 period <;> cases finOf 8 cls <;> rfl

theorem cmdLoadClass_takes {cls setup grace priority essential : Byte} {maximum : Half} {k : Fin 8} (hk : k.val = cls.toNat) {x : ClassRecord}
    (hx : classOf setup maximum grace priority essential = some x) : cmdLoadClass cls setup maximum grace priority essential s =
      ({ s with cal := { s.cal with classes := s.cal.classes.set k x } }, done) := by
  rw [cmdLoadClass, finOf_eq hk, hx]
  exact tariffLoad_takes h rfl

theorem cmdLoadClass_refused {cls setup grace priority essential : Byte} {maximum : Half}
    (hno : 7 < cls.toNat ∨ classOf setup maximum grace priority essential = none) :
    cmdLoadClass cls setup maximum grace priority essential s = (s, badValue) := by
  refine tariffLoad_refused h ?_
  rcases hno with hk | hx
  · rw [finOf_none (n := 8) hk]
    rfl
  · rw [hx]
    cases finOf 8 cls <;> rfl

end Commands

/-! ## LOAD PERMIT and its report (R104, R105) -/

section LoadPermit

variable {s : State} {p k : Fin 8} {x : Permit}

/-- R104: the state with permit `x` in the table. -/
def State.permitted (s : State) (p k : Fin 8) (x : Permit) : State :=
  { s with cal := { s.cal with permits := s.cal.permits.set p (s.cal.permits[p].set k x) } }

theorem loadPermit_quiet (h : p ≠ s.cal.period ∨ x = s.cal.permits[p][k]) : loadPermit p k x s = s.permitted p k x :=
  if_neg fun ⟨hp, hx⟩ => h.elim (fun hne => hne hp) fun heq => hx heq.symm

theorem loadPermit_reports (hp : p = s.cal.period) (hx : x ≠ s.cal.permits[p][k]) :
    loadPermit p k x s = permitReport k x (s.permitted p k x) := if_pos ⟨hp, hx.symm⟩

theorem State.permitted_inForce (hp : p = s.cal.period) : x = (s.permitted p k x).cal.permits[(s.permitted p k x).cal.period][k] := by
  subst hp
  simp [State.permitted]

theorem State.permitted_waitersStand (h : s.WaitersStand) : (s.permitted p k x).WaitersStand := h

theorem State.permitted_metersStand (h : s.MetersStand) : (s.permitted p k x).MetersStand := h

/-- R105: the report of one class whose permit in force changes. -/
theorem permitReport_permitted (hs : s.Coherent) (hp : p = s.cal.period) :
    (s.permitted p k x).Reported (fun j => decide (j = k)) (permitReport k x (s.permitted p k x)) := by
  rw [permitReport_one (State.permitted_waitersStand hs.waitersStand) (State.permitted_metersStand hs.metersStand) (State.permitted_inForce hp)]
  exact State.outcome_reported (State.permitted_metersStand hs.metersStand)

theorem State.Reported.replies {t : State} {ks : Fin 8 → Bool} (h : s.Reported ks t) : t.mgt.replies = s.mgt.replies := by
  rw [h.1]

theorem State.replied_undone {q : List Reply} (h : s.mgt.replies = q) {tag code : Byte} {r : Result} {data : List Byte} :
    ({ s.replied tag code r data with mgt := { (s.replied tag code r data).mgt with replies := q } } : State) = s := by
  subst h
  rfl

end LoadPermit

/-- Settles O27: each load is refused or takes its record; a permit in force that changes is reported for its class alone. -/
theorem tariffLoads : Obligations.TariffLoads := by
  unfold Obligations.TariffLoads
  intro s tag entry month day enabled weekdays hour minute period cls permit setup grace priority essential rate maximum hs
  refine ⟨fun ht => ?_, fun ht => ⟨fun hbad => ?_, fun e he hok => ?_, fun hbad => ?_, fun e he p hp hok => ?_, fun hbad => ?_,
    fun w hw p hp => ?_, fun hbad => ⟨?_, ?_⟩, fun hbad => ?_, fun p hp k hk => ⟨?_, fun x hx => ⟨fun hq => ?_, fun hq hne hco => ?_⟩⟩,
    fun hbad => ?_, fun k hk hok => ?_⟩⟩
  · exact ⟨command_answers hs (tariffLoad_protected ht), command_answers hs (tariffLoad_protected ht),
      command_answers hs (tariffLoad_protected ht), command_answers hs (tariffLoad_protected ht),
      command_answers hs (tariffLoad_protected ht), command_answers hs (tariffLoad_protected ht)⟩
  · refine command_answers hs (cmdLoadHoliday_refused ht ?_)
    exact (not_and_or.mp hbad).imp Nat.lt_of_not_le holidayOf_none
  · exact command_answers hs (cmdLoadHoliday_takes ht he (holidayOf_some hok.2))
  · refine command_answers hs (cmdLoadSchedule_refused ht ?_)
    exact (not_and_or.mp hbad).imp Nat.lt_of_not_le scheduleOf_none
  · exact command_answers hs (cmdLoadSchedule_takes ht he (scheduleOf_some hok.2 hp))
  · exact command_answers hs (cmdLoadDaystart_refused ht hbad)
  · exact command_answers hs (cmdLoadDaystart_takes ht hw hp)
  · exact command_answers hs (cmdLoadRate_refused ht hbad rate)
  · exact command_answers hs (cmdLoadPermit_refused ht (hbad.imp_right .inl))
  · exact command_answers hs (cmdLoadPermit_refused ht (.inr (.inr hbad)))
  · exact command_answers hs (cmdLoadRate_takes ht hp hk rate)
  · subst hx
    refine command_answers hs ((cmdLoadPermit_takes ht hp hk x).trans ?_)
    rw [loadPermit_quiet hq]
    rfl
  · subst hx
    have hanswer : cmdLoadPermit period cls x.code s = (permitReport k x (s.permitted p k x), done) := by
      rw [cmdLoadPermit_takes ht hp hk, loadPermit_reports hq hne]
    have hreported := permitReport_permitted (x := x) (k := k) hco hq
    have hreplies : (permitReport k x (s.permitted p k x)).mgt.replies = s.mgt.replies := hreported.replies
    refine ⟨_, command_answers hs hanswer, ?_, ?_⟩
    · rw [State.replied_undone hreplies]
      exact hreported
    · rw [State.replied, hreplies]
  · refine command_answers hs (cmdLoadClass_refused ht ?_)
    exact (not_and_or.mp hbad).imp Nat.lt_of_not_le classOf_none
  · exact command_answers hs (cmdLoadClass_takes ht hk (classOf_some hok.2))

end Sys2Proof.Machine
end

section
/-! The first half of a teardown (R172, R192, R193): the dialogues abandoned and the waiters removed leave a state that is coherent, with the offers and sessions alone. -/

namespace Sys2Proof.Machine

open Sys2Proof

/-- R172 steps 3 and 4, R192 steps 2 and 3: no dialogue and no waiter is left. -/
@[irreducible] def State.cleared (s : State) (m : Fin 24) : State := (s.dialoguesEnded (s.message m)).waitersRemoved m

section Cleared

variable {s : State} {m : Fin 24}

theorem State.dialoguesEnded_line (s : State) (text : List Byte) (l : Fin 32) : (s.dialoguesEnded text).line l =
    if (s.line l).state ∈ [.signon, .checking] then (s.line l).torn s.now text else s.line l := by
  simp only [State.dialoguesEnded, State.line, Vector.getElem_ofFn, Fin.getElem_fin]

theorem State.dialoguesEnded_now (s : State) (text : List Byte) : (s.dialoguesEnded text).now = s.now := by
  simp only [State.dialoguesEnded]

theorem State.waitersRemoved_line (s : State) (m : Fin 24) (l : Fin 32) : (s.waitersRemoved m).line l =
    if (s.line l).state = .waiting then Line.draining s.now { Line.request s.now m 0 (s.line l) with admission := none, channel := none }
    else s.line l := by
  simp only [State.waitersRemoved, State.line, Vector.getElem_ofFn, Fin.getElem_fin]

theorem Line.torn_inDialogue {ln : Line} (h : ln.state ∈ [LineState.signon, .checking]) (now : Nat) (text : List Byte) : ln.torn now text =
    Line.draining now (ln.refused text (if ln.dialogue.lookup = .inFlight then .discarded else ln.dialogue.lookup)) := by
  rcases List.mem_cons.mp h with h | h
  · simp only [Line.torn, h]
  · simp only [Line.torn, List.mem_singleton.mp h]

theorem Line.torn_dialogue_state {ln : Line} (h : ln.state ∈ [LineState.signon, .checking]) (now : Nat) (text : List Byte) :
    (ln.torn now text).state = .draining := by
  rw [Line.torn_inDialogue h]
  rfl

theorem State.cleared_line_dialogue {l : Fin 32} (h : (s.line l).state ∈ [LineState.signon, .checking]) :
    (s.cleared m).line l = (s.line l).torn s.now (s.message m) := by
  rw [State.cleared, State.waitersRemoved_line, State.dialoguesEnded_line, if_pos h, Line.torn_dialogue_state h]
  exact if_neg (by decide)

theorem State.cleared_line_waiting {l : Fin 32} (h : (s.line l).state = .waiting) : (s.cleared m).line l =
    Line.draining s.now { Line.request s.now m 0 (s.line l) with admission := none, channel := none } := by
  have hd : (s.line l).state ∉ [LineState.signon, .checking] := by rw [h]; decide
  rw [State.cleared, State.waitersRemoved_line, State.dialoguesEnded_line, if_neg hd, if_pos h, State.dialoguesEnded_now]

theorem State.cleared_line_other {l : Fin 32} (hd : (s.line l).state ∉ [LineState.signon, .checking]) (hw : (s.line l).state ≠ .waiting) :
    (s.cleared m).line l = s.line l := by
  rw [State.cleared, State.waitersRemoved_line, State.dialoguesEnded_line, if_neg hd, if_neg hw]

/-- The lines with an offer or a session stand as they did. -/
theorem State.cleared_line_called {l : Fin 32} (h : (s.line l).state = .offered ∨ (s.line l).state = .connected) :
    (s.cleared m).line l = s.line l := by
  refine State.cleared_line_other ?_ ?_ <;> rcases h with h | h <;> rw [h] <;> decide

/-- A line of the cleared state is one that had an offer or a session, or it drains, or it had no call. -/
theorem State.cleared_line_cases (hs : s.Coherent) (l : Fin 32) : (s.cleared m).line l = s.line l ∧ (s.line l).state ≠ .waiting ∧
      (s.line l).state ∉ [LineState.signon, .checking] ∨
    ((s.cleared m).line l).state = .draining ∧ ((s.cleared m).line l).channel = none ∧ ((s.cleared m).line l).admission = none ∧
      ((s.cleared m).line l).dialogue.lookup ≠ .inFlight ∧
      ((s.line l).state = .waiting ∨ (s.line l).state ∈ [LineState.signon, .checking]) := by
  have hline := hs.2.1 l
  by_cases hd : (s.line l).state ∈ [LineState.signon, .checking]
  · have hnone : (s.line l).channel = none ∧ (s.line l).admission = none := by
      rw [State.LineCoherent] at hline
      rcases List.mem_cons.mp hd with h | h
      · rw [h] at hline
        exact hline
      · rw [List.mem_singleton.mp h] at hline
        exact hline
    refine .inr ⟨?_, ?_, ?_, ?_, .inr hd⟩
    all_goals rw [State.cleared_line_dialogue hd, Line.torn_inDialogue hd, Line.draining]
    · exact (Line.placeAll_channel ..).trans hnone.1
    · exact (Line.placeAll_admission ..).trans hnone.2
    · show (if _ then _ else _) ≠ Lookup.inFlight
      split
      · exact Lookup.noConfusion
      · assumption
  · by_cases hw : (s.line l).state = .waiting
    · refine .inr ⟨?_, ?_, ?_, ?_, .inl hw⟩
      all_goals rw [State.cleared_line_waiting hw, Line.draining]
      · show (Line.request s.now m 0 (s.line l)).dialogue.lookup ≠ .inFlight
        rw [Line.request_dialogue]
        intro hk
        exact absurd ((hs.2.2.2.2.1 l hk).symm.trans hw) (by decide)
    · exact .inl ⟨State.cleared_line_other hd hw, hw, hd⟩

/-- A line that waits. -/
def State.waits (s : State) (l : Fin 32) : Bool := decide ((s.line l).state = .waiting)

theorem State.waitersRemoved_account (s : State) (m : Fin 24) (a : Fin 256) : (s.waitersRemoved m).account a =
    { s.account a with openCount := (s.account a).openCount - s.holders s.waits a } := by
  simp only [State.waitersRemoved, State.account, Vector.getElem_ofFn, Fin.getElem_fin]
  rfl

theorem State.admissionsOf_any (s : State) (a : Fin 256) :
    s.admissionsOf a = ((List.finRange 32).filter fun l => (s.line l).admission.any fun x => decide (x.account = a)).length := by
  refine congrArg List.length (List.filter_congr fun l _ => ?_)
  cases (s.line l).admission <;> rfl

/-- The abandoned dialogues leave the lines that wait and every admission. -/
theorem State.dialoguesEnded_waits (hs : s.Coherent) (text : List Byte) (l : Fin 32) :
    (s.dialoguesEnded text).waits l = s.waits l ∧ ((s.dialoguesEnded text).line l).admission = (s.line l).admission := by
  rw [State.waits, State.waits, State.dialoguesEnded_line]
  split
  · next hd =>
    have hline := hs.2.1 l
    rw [Line.torn_dialogue_state hd, Line.torn_inDialogue hd, Line.draining]
    refine ⟨?_, Line.placeAll_admission ..⟩
    rcases List.mem_cons.mp hd with h | h
    · rw [h]; rfl
    · rw [List.mem_singleton.mp h]; rfl
  · exact ⟨rfl, rfl⟩

theorem State.cleared_account (hs : s.Coherent) (m : Fin 24) (a : Fin 256) : (s.cleared m).account a =
    { s.account a with openCount := (s.account a).openCount - s.holders s.waits a } := by
  have hholders : (s.dialoguesEnded (s.message m)).holders (s.dialoguesEnded (s.message m)).waits a = s.holders s.waits a := by
    refine congrArg List.length (List.filter_congr fun l _ => ?_)
    rw [(State.dialoguesEnded_waits hs (s.message m) l).1, (State.dialoguesEnded_waits hs (s.message m) l).2]
  have haccount : (s.dialoguesEnded (s.message m)).account a = s.account a := by simp only [State.dialoguesEnded, State.account]
  rw [State.cleared, State.waitersRemoved_account, hholders, haccount]

theorem State.cleared_admission (hs : s.Coherent) (l : Fin 32) : ((s.cleared m).line l).admission =
    if s.waits l then none else (s.line l).admission := by
  rcases State.cleared_line_cases (m := m) hs l with ⟨h, hw, -⟩ | ⟨-, -, hnone, -, hw | hd⟩
  · rw [h, State.waits, decide_eq_false hw, if_neg Bool.false_ne_true]
  · rw [hnone, State.waits, decide_eq_true hw, if_pos rfl]
  · have hline := hs.2.1 l
    rw [hnone]
    split
    · rfl
    · rw [State.LineCoherent] at hline
      rcases List.mem_cons.mp hd with h | h
      · rw [h] at hline
        exact hline.2.symm
      · rw [List.mem_singleton.mp h] at hline
        exact hline.2.symm

/-- R83: the counts of the waiters leave with them. -/
theorem State.cleared_openCounts (hs : s.Coherent) : (s.cleared m).OpenCountsExact := by
  intro a
  have hcount : ∀ l, ((s.line l).admission.any fun x => decide (x.account = a)) =
      ((s.waits l && (s.line l).admission.any fun x => decide (x.account = a)) ||
        ((s.cleared m).line l).admission.any fun x => decide (x.account = a)) ∧
      ¬ ((s.waits l && (s.line l).admission.any fun x => decide (x.account = a)) = true ∧
        (((s.cleared m).line l).admission.any fun x => decide (x.account = a)) = true) := fun l => by
    rw [State.cleared_admission hs]
    cases s.waits l <;> simp
  have hexact := hs.2.2.2.2.2 a
  rw [State.admissionsOf_any, ← length_filter_add _ _ _ hcount] at hexact
  rw [State.cleared_account hs, State.admissionsOf_any]
  exact Nat.sub_eq_of_eq_add' hexact

theorem State.cleared_channel (s : State) (m : Fin 24) (c : Fin 24) : (s.cleared m).channel c = s.channel c := by
  simp only [State.cleared, State.waitersRemoved, State.dialoguesEnded, State.channel]

theorem State.cleared_meter (s : State) (m : Fin 24) (c : Fin 24) : (s.cleared m).meter c = s.meter c := by
  simp only [State.cleared, State.waitersRemoved, State.dialoguesEnded, State.meter]

theorem State.cleared_row (s : State) (m : Fin 24) (r : Fin 64) : (s.cleared m).row r = s.row r := by
  simp only [State.cleared, State.waitersRemoved, State.dialoguesEnded, State.row]

theorem State.cleared_frame (s : State) (m : Fin 24) : s.cleared m = { s with
    lines := (s.cleared m).lines, accounts := (s.cleared m).accounts, queue := [] } := by
  simp only [State.cleared, State.waitersRemoved, State.dialoguesEnded]

theorem State.cleared_queue (s : State) (m : Fin 24) : (s.cleared m).queue = [] := by
  simp only [State.cleared, State.waitersRemoved]

section Coherence

variable (hs : s.Coherent)

include hs

theorem State.cleared_channelCoherent (c : Fin 24) : (s.cleared m).ChannelCoherent c := by
  have hstand : ∀ l, (s.line l).state = .offered ∨ (s.line l).state = .connected → (s.cleared m).line l = s.line l :=
    fun l => State.cleared_line_called
  have hc := hs.1 c
  unfold State.ChannelCoherent at hc ⊢
  simp only [State.cleared_channel, State.cleared_meter]
  split
  · next hst =>
    rw [hst] at hc
    obtain ⟨hm, l, hl, hstate, hrest⟩ := hc
    refine ⟨hm, l, ?_⟩
    unfold State.OfferStands State.HoldsRow
    simp only [State.cleared_channel, State.cleared_row, hstand l (.inl hstate)]
    exact ⟨hl, hstate, hrest⟩
  · next hst =>
    rw [hst] at hc
    obtain ⟨ht, l, hl, hstate, hrest⟩ := hc
    refine ⟨ht, l, ?_⟩
    unfold State.SessionStands State.HoldsRow
    simp only [State.cleared_channel, State.cleared_row, State.cleared_meter, hstand l (.inr hstate)]
    exact ⟨hl, hstate, hrest⟩
  all_goals
    next hst =>
      rw [hst] at hc
      exact hc

theorem State.cleared_lineCoherent (l : Fin 32) : (s.cleared m).LineCoherent l := by
  rcases State.cleared_line_cases (m := m) hs l with ⟨h, -, -⟩ | ⟨hst, hc, ha, -⟩
  · have hl := hs.2.1 l
    unfold State.LineCoherent at hl ⊢
    simp only [h, State.cleared_channel]
    exact hl
  · rw [State.LineCoherent, hst]
    exact ⟨hc, ha⟩

theorem State.cleared_rowCoherent (r : Fin 64) : (s.cleared m).RowCoherent r := by
  have hr := hs.2.2.1 r
  unfold State.RowCoherent at hr ⊢
  rw [State.cleared_row]
  cases hx : s.row r with
  | free => trivial
  | closed x => trivial
  | reserved x =>
    rw [hx] at hr
    dsimp only at hr ⊢
    rw [State.cleared_channel]
    exact hr

theorem State.cleared_unqueued (l : Fin 32) : ((s.cleared m).line l).state ≠ .waiting := by
  rcases State.cleared_line_cases (m := m) hs l with ⟨h, hw, -⟩ | ⟨hst, -⟩
  · rw [h]
    exact hw
  · rw [hst]
    decide

theorem State.cleared_lookups : (s.cleared m).LookupsStand := by
  intro l hk
  rcases State.cleared_line_cases (m := m) hs l with ⟨h, -, -⟩ | ⟨-, -, -, hno, -⟩
  · rw [h] at hk ⊢
    exact hs.2.2.2.2.1 l hk
  · exact absurd hk hno

theorem State.cleared_queueCoherent : (s.cleared m).QueueCoherent := by
  unfold State.QueueCoherent
  rw [State.cleared_queue]
  refine ⟨List.nodup_nil, fun l => ⟨fun ⟨w, hw, _⟩ => absurd hw List.not_mem_nil, fun hl => absurd hl (State.cleared_unqueued hs l)⟩, List.Pairwise.nil⟩

theorem State.cleared_callsOk : (s.cleared m).CallsOk := by
  refine State.callsOk_iff.mpr ⟨?_, ?_⟩
  · unfold State.Coherent
    exact ⟨State.cleared_channelCoherent hs, State.cleared_lineCoherent hs, State.cleared_rowCoherent hs, State.cleared_queueCoherent hs,
      State.cleared_lookups hs, State.cleared_openCounts hs⟩
  · rw [State.QueueBounded, State.cleared_queue]
    exact Nat.zero_le 16

end Coherence

end Cleared

end Sys2Proof.Machine
end

section
/-! The last charge of a session in full (R79, R112, R121): which lines it warns, and what it leaves of the meters and the accounts. -/

namespace Sys2Proof.Machine

open Sys2Proof

/-! ## The low-balance warning (R79) -/

section Debited

variable {s : State} {a : Fin 256} {x : Account}

theorem State.debited_quiet (h : ¬ (x.balance < x.warn ∧ x.warned = false)) : s.debited a x = s.setAccount a x := if_neg h

theorem State.debited_warns (h : x.balance < x.warn ∧ x.warned = false) :
    s.debited a x = (s.setAccount a { x with warned := true }).warned a x.balance := if_pos h

theorem State.warned_account (s : State) (a : Fin 256) (v : Int) (b : Fin 256) : (s.warned a v).account b = s.account b := by
  rw [State.account, State.warned, State.account]

/-- A debit writes its own account, and the warning is for good. -/
theorem State.debited_account (s : State) (a : Fin 256) (x : Account) : ∃ w : Bool, (x.warned = true → w = true) ∧
    ∀ b, (s.debited a x).account b = if b = a then { x with warned := w } else s.account b := by
  by_cases h : x.balance < x.warn ∧ x.warned = false
  · refine ⟨true, fun _ => rfl, fun b => ?_⟩
    rw [State.debited_warns h, State.warned_account, State.setAccount_account]
  · refine ⟨x.warned, id, fun b => ?_⟩
    rw [State.debited_quiet h, State.setAccount_account]

theorem State.debited_line (s : State) (a : Fin 256) (x : Account) (l : Fin 32) : (s.debited a x).line l = s.line l ∨
    (∃ v, (s.debited a x).line l = Line.request s.now 16 v (s.line l)) ∧ x.warned = false ∧ ((s.debited a x).account a).warned = true ∧
      ∃ c m, s.meter c = some m ∧ m.line = l ∧ m.account = a := by
  by_cases h : x.balance < x.warn ∧ x.warned = false
  · rw [State.debited_warns h, State.warned_account, State.setAccount_account_same, State.warned_eq_chargesFor, State.line_ofFn]
    split
    · next hc =>
      simp only [State.chargesFor, Option.any_eq_true, Bool.and_eq_true, decide_eq_true_eq] at hc
      obtain ⟨c, m, hm, hma⟩ := hc
      exact .inr ⟨⟨_, rfl⟩, h.2, rfl, c, m, hm, hma⟩
    · exact .inl rfl
  · rw [State.debited_quiet h]
    exact .inl rfl

end Debited

/-! ## The last charge (R112, R121) -/

section RoundOff

variable {s : State} {c : Fin 24} {m0 : Meter}

theorem debitAccount_one (a : Fin 256) (s : State) : ∃ b p e, debitAccount a 1 s = (s.debited a { s.account a with balance := b }, p, e) := by
  have hdebit : ∃ b p e, (s.account a).debit 1 = ({ s.account a with balance := b }, p, e) := by
    unfold Account.debit
    dsimp only
    split
    · exact ⟨_, _, _, rfl⟩
    · exact ⟨_, _, _, rfl⟩
  obtain ⟨b, p, e, hdebit⟩ := hdebit
  refine ⟨b, p, e, ?_⟩
  rw [debitAccount, if_neg Nat.one_ne_zero, hdebit]
  dsimp only
  rw [checkWarning_setAccount]

theorem roundOff_cases (hm0 : s.meter c = some m0) : roundOff c m0 s = s ∨ ∃ m1 : Meter, ∃ b : Int, ∃ f : Meter → Meter,
    m1.line = m0.line ∧ m1.account = m0.account ∧ roundOff c m0 s =
      ((s.setMeter c (some m1)).debited m0.account { s.account m0.account with balance := b }).updMeter c f := by
  unfold roundOff
  split
  · unfold chargeUnits
    rw [hm0]
    dsimp only
    obtain ⟨b, p, e, hd⟩ := debitAccount_one m0.account (s.setMeter c (some { m0 with
      charge := m0.charge + 1, segments := onLast (fun g => { g with units := g.units + 1 }) m0.segments }))
    rw [hd]
    dsimp only
    refine .inr ⟨{ m0 with charge := m0.charge + 1, segments := onLast (fun g => { g with units := g.units + 1 }) m0.segments }, b, Meter.settled p e, rfl, rfl, ?_⟩
    rw [State.setMeter_account]
    rfl
  · exact .inl rfl

/-- R121: what the last charge of a session leaves. -/
structure State.RoundedOff (s : State) (c : Fin 24) (m0 : Meter) (t : State) : Prop where
  frame : t = { s with lines := t.lines, accounts := t.accounts, meters := t.meters }
  meters : ∀ d, d ≠ c → t.meter d = s.meter d
  account : ∃ b : Int, ∃ w : Bool, ((s.account m0.account).warned = true → w = true) ∧
    t.account m0.account = { s.account m0.account with balance := b, warned := w }
  accounts : ∀ b, b ≠ m0.account → t.account b = s.account b
  line : ∀ l, t.line l = s.line l ∨ (∃ v, t.line l = Line.request s.now 16 v (s.line l)) ∧
    (s.account m0.account).warned = false ∧ (t.account m0.account).warned = true ∧ ∃ d m, s.meter d = some m ∧ m.line = l ∧ m.account = m0.account

theorem State.debited_frame (s : State) (a : Fin 256) (x : Account) :
    s.debited a x = { s with lines := (s.debited a x).lines, accounts := (s.debited a x).accounts } := by
  unfold State.debited
  split <;> rfl

theorem roundOff_roundedOff (hm0 : s.meter c = some m0) : s.RoundedOff c m0 (roundOff c m0 s) := by
  rcases roundOff_cases hm0 with h | ⟨m1, b, f, hline, hacc, h⟩
  · rw [h]
    exact ⟨rfl, fun _ _ => rfl, ⟨_, _, id, rfl⟩, fun _ _ => rfl, fun _ => .inl rfl⟩
  · rw [h]
    generalize hu : (s.setMeter c (some m1)).debited m0.account { s.account m0.account with balance := b } = u
    obtain ⟨w, hw, haccount⟩ := State.debited_account (s.setMeter c (some m1)) m0.account { s.account m0.account with balance := b }
    rw [hu] at haccount
    refine ⟨?_, fun d hd => ?_, ⟨b, w, hw, ?_⟩, fun x hx => ?_, fun l => ?_⟩
    · have hframe := State.debited_frame (s.setMeter c (some m1)) m0.account { s.account m0.account with balance := b }
      rw [hu] at hframe
      exact congrArg (fun t : State => { t with meters := (u.updMeter c f).meters }) hframe
    · have hmeter := State.debited_meter (s.setMeter c (some m1)) m0.account { s.account m0.account with balance := b } d
      rw [hu] at hmeter
      rw [State.updMeter_meter_other _ _ hd, hmeter, State.setMeter_meter_other _ _ hd]
    · rw [State.updMeter_account, haccount, if_pos rfl]
    · rw [State.updMeter_account, haccount, if_neg hx, State.setMeter_account]
    · have hl := State.debited_line (s.setMeter c (some m1)) m0.account { s.account m0.account with balance := b } l
      rw [hu] at hl
      rw [State.updMeter_line, State.updMeter_account]
      refine hl.imp_right ?_
      rintro ⟨hv, hno, hyes, d, m, hm, hml, hma⟩
      refine ⟨hv, hno, hyes, ?_⟩
      rw [State.setMeter_meter] at hm
      split at hm
      · obtain rfl := Option.some.inj hm
        exact ⟨c, m0, hm0, hline.symm.trans hml, rfl⟩
      · exact ⟨d, m, hm, hml, hma⟩

end RoundOff

end Sys2Proof.Machine
end

section
/-! One channel of a teardown (R172 step 5, R192 step 4, R193): what `State.channelDown` makes of a coherent state whose service is closed. -/

namespace Sys2Proof.Machine

open Sys2Proof

/-! ## What is said of one channel -/

/-- R172 step 5, R192 step 4: the channel after the teardown took it. -/
def Channel.down (timeout : Nat) (why : CloseReason) (x : Channel) : Channel :=
  match x.state with
  | .offered =>
    if why = .hostLost then { x with state := .free, line := none, row := none, timer := none }
    else { x with state := .closing, row := none, timer := some timeout }
  | .connected => Channel.ended timeout why x
  | .closing | .quarantined => if why = .hostLost then { x with state := .free, line := none, row := none, timer := none } else x
  | .free => x

/-- R137: the line of an offer that ends with message `m`. -/
def Line.unoffered (now : Nat) (m : Fin 24) (ln : Line) : Line :=
  Line.draining now { Line.request now m 0 ln with admission := none, channel := none }

/-- R151: `y` is the ticket of reservation `x`, closed for `why`. -/
def Ticket.closes (y : Ticket) (x : Reservation) (why : CloseReason) : Prop :=
  y.reason = why ∧ y.line = x.line ∧ y.user = x.user ∧ y.account = x.account ∧ y.cls = x.cls ∧ y.start = x.start

/-- R175: the control queue after the teardown took channel `c`, its channel being `x`. -/
def controlsDown (c : Fin 24) (why : CloseReason) (x : Channel) (q : List Control) : List Control :=
  match x.state with
  | .offered => if why = .hostLost then q else joinControls q ⟨c, .close why⟩
  | .connected => controlsEnded c why q
  | .free | .closing | .quarantined => q

/-- `t` is `s` once the teardown took channel `c`. -/
structure State.DownStep (m : Fin 24) (why : CloseReason) (c : Fin 24) (s t : State) : Prop where
  frame : t = { s with
    lines := t.lines, accounts := t.accounts, meters := t.meters, channels := t.channels, tickets := t.tickets
    trunk := { s.trunk with controls := t.trunk.controls } }
  channel : ∀ d, t.channel d = if d = c then Channel.down (s.now + s.params.close * 10) why (s.channel c) else s.channel d
  meter : ∀ d, t.meter d = if d = c then none else s.meter d
  rowOther : ∀ r, (∀ x, s.row r = .reserved x → x.channel ≠ c) → t.row r = s.row r
  rowSelf : ∀ r x, s.row r = .reserved x → x.channel = c →
    if (s.channel c).state = .connected then ∃ y, t.row r = .closed y ∧ y.closes x why else t.row r = .free
  lineOther : ∀ l, (s.line l).channel ≠ some c → t.line l = s.line l ∨
    (∃ v, t.line l = Line.request s.now 16 v (s.line l)) ∧ ∃ d m0, s.meter d = some m0 ∧ m0.line = l ∧
      (s.account m0.account).warned = false ∧ (t.account m0.account).warned = true
  lineOffered : ∀ l, (s.line l).channel = some c → (s.line l).state = .offered → t.line l = (s.line l).unoffered s.now m
  lineConnected : ∀ l, (s.line l).channel = some c → (s.line l).state = .connected → ∃ told,
    (told = Line.request s.now m 0 (s.line l) ∨ (∃ v, told = Line.request s.now 16 v (Line.request s.now m 0 (s.line l))) ∧
      ∃ m0, s.meter c = some m0 ∧ (s.account m0.account).warned = false) ∧ t.line l = Line.ended s.now why told
  account : ∀ a, t.account a = { s.account a with
    balance := (t.account a).balance, warned := (t.account a).warned, openCount := (t.account a).openCount }
  warned : ∀ a, (s.account a).warned = true → (t.account a).warned = true
  accountIdle : ∀ a, (∀ m0, s.meter c = some m0 → m0.account ≠ a) →
    (t.account a).balance = (s.account a).balance ∧ (t.account a).warned = (s.account a).warned
  serial : s.meter c = none → t.tickets.serial = s.tickets.serial
  closeList : t.tickets.closeList = s.tickets.closeList ++ ((s.meter c).map (·.row)).toList
  controls : t.trunk.controls = controlsDown c why (s.channel c) s.trunk.controls

/-! ## What a coherent state says of a channel -/

section Coherence

variable {s : State} (hs : s.Coherent) {c : Fin 24}

include hs

/-- A row reserved for a channel is the one that the channel names. -/
theorem State.Coherent.row_unique {r : Fin 64} {x : Reservation} (hr : s.row r = .reserved x) (hc : x.channel = c) :
    (s.channel c).row = some r := by
  have hrow := hs.2.2.1 r
  rw [State.RowCoherent, hr] at hrow
  exact hc ▸ hrow.1

/-- A line that names a channel is the one that the channel names. -/
theorem State.Coherent.line_unique {l : Fin 32} (hl : (s.line l).channel = some c) : (s.channel c).line = some l ∧
    ((s.line l).state = .offered ∧ (s.channel c).state = .offered ∨ (s.line l).state = .connected ∧ (s.channel c).state = .connected) := by
  have hline := hs.2.1 l
  unfold State.LineCoherent at hline
  split at hline
  · next hst =>
    obtain ⟨d, hd, hoff, hdl⟩ := hline
    obtain rfl : d = c := Option.some.inj (hd.symm.trans hl)
    exact ⟨hdl, .inl ⟨hst, hoff⟩⟩
  · next hst =>
    obtain ⟨d, hd, hoff, hdl⟩ := hline
    obtain rfl : d = c := Option.some.inj (hd.symm.trans hl)
    exact ⟨hdl, .inr ⟨hst, hoff⟩⟩
  all_goals exact absurd (hl.symm.trans hline.1) (Option.some_ne_none c)

/-- A channel without a call has no meter, no row and no line that names it. -/
theorem State.Coherent.uncalled (hoff : (s.channel c).state ≠ .offered) (hconn : (s.channel c).state ≠ .connected) :
    s.meter c = none ∧ (∀ r x, s.row r = .reserved x → x.channel ≠ c) ∧ ∀ l, (s.line l).channel ≠ some c := by
  have hchannel := hs.1 c
  have hnone : s.meter c = none ∧ (s.channel c).row = none := by
    unfold State.ChannelCoherent at hchannel
    split at hchannel
    · next h => exact absurd h hoff
    · next h => exact absurd h hconn
    · exact ⟨hchannel.1, hchannel.2.1⟩
    · exact hchannel
    · exact ⟨hchannel.1, hchannel.2.1⟩
  refine ⟨hnone.1, fun r x hr hc => ?_, fun l hl => ?_⟩
  · exact Option.some_ne_none r ((hs.row_unique hr hc).symm.trans hnone.2)
  · rcases (hs.line_unique hl).2 with ⟨-, h⟩ | ⟨-, h⟩
    · exact hoff h
    · exact hconn h

end Coherence

/-! ## An offer dropped (R137) -/

section Dropped

variable (m : Fin 24) (c : Fin 24) (l : Fin 32) (a : Fin 256) (r : Fin 64) (k : Channel) (q : List Control) (s : State)

theorem State.offerDropped_line (j : Fin 32) : (s.offerDropped m c l a r k q).line j = if j = l then (s.line l).unoffered s.now m else s.line j :=
  State.setLine_line (s := s) l j ((s.line l).unoffered s.now m)

theorem State.offerDropped_account (b : Fin 256) : (s.offerDropped m c l a r k q).account b = if b = a then (s.account a).left else s.account b :=
  State.setAccount_account (s := s) a b (s.account a).left

theorem State.offerDropped_channel (d : Fin 24) : (s.offerDropped m c l a r k q).channel d = if d = c then k else s.channel d :=
  State.setChannel_channel (s := s) c d k

theorem State.offerDropped_row (j : Fin 64) : (s.offerDropped m c l a r k q).row j = if j = r then .free else s.row j :=
  State.setRow_row (s := s) r j .free

theorem State.offerDropped_meter (d : Fin 24) : (s.offerDropped m c l a r k q).meter d = s.meter d := by
  simp only [State.offerDropped, State.meter]

end Dropped

/-! ## A session closed (R121) -/

/-- R121: the session of channel `c` to line `l`, account `a` and row `r` has ended with ticket `k`. -/
def State.sessionGone (s : State) (c : Fin 24) (l : Fin 32) (a : Fin 256) (r : Fin 64) (k : Ticket) (why : CloseReason) : State :=
  { s with
    tickets := {
      rows := s.tickets.rows.set r (.closed k)
      closeList := s.tickets.closeList ++ [r]
      serial := skipHeld (s.setRow r (.closed k)).heldSerials 64 (nextSerial s.tickets.serial) }
    accounts := s.accounts.set a (s.account a).left
    meters := s.meters.set c none
    lines := s.lines.set l (Line.ended s.now why (s.line l))
    channels := s.channels.set c (Channel.ended (s.now + s.params.close * 10) why (s.channel c))
    trunk := { s.trunk with controls := controlsEnded c why s.trunk.controls } }

section Gone

variable (c : Fin 24) (l : Fin 32) (a : Fin 256) (r : Fin 64) (k : Ticket) (why : CloseReason) (s : State)

theorem State.sessionGone_line (j : Fin 32) : (s.sessionGone c l a r k why).line j = if j = l then Line.ended s.now why (s.line l) else s.line j :=
  State.setLine_line (s := s) l j (Line.ended s.now why (s.line l))

theorem State.sessionGone_account (b : Fin 256) : (s.sessionGone c l a r k why).account b = if b = a then (s.account a).left else s.account b :=
  State.setAccount_account (s := s) a b (s.account a).left

theorem State.sessionGone_channel (d : Fin 24) : (s.sessionGone c l a r k why).channel d =
    if d = c then Channel.ended (s.now + s.params.close * 10) why (s.channel c) else s.channel d :=
  State.setChannel_channel (s := s) c d (Channel.ended (s.now + s.params.close * 10) why (s.channel c))

theorem State.sessionGone_row (j : Fin 64) : (s.sessionGone c l a r k why).row j = if j = r then .closed k else s.row j :=
  State.setRow_row (s := s) r j (.closed k)

theorem State.sessionGone_meter (d : Fin 24) : (s.sessionGone c l a r k why).meter d = if d = c then none else s.meter d :=
  State.setMeter_meter (s := s) c d none

end Gone

/-- A session that ends while no drain can end. -/
theorem closeSession_gone {s t : State} {c : Fin 24} {m0 : Meter} {x : Reservation} (hsvc : t.mgt.service ≠ .draining) (hm0 : s.meter c = some m0)
    (ht : roundOff c m0 s = t) (hl : (t.line m0.line).state = .connected) (hx : t.row m0.row = .reserved x) (hxc : x.channel = c)
    (why : CloseReason) : ∃ k : Ticket, k.closes x why ∧ closeSession c why s = t.sessionGone c m0.line m0.account m0.row k why := by
  obtain ⟨m, hm⟩ : ∃ m, t.meter c = some m := by
    have hcalls : t.calls.meter c = s.calls.meter c := by rw [← ht, roundOff_calls]
    have hsome : (t.meter c).map Meter.call = (s.meter c).map Meter.call := hcalls
    rw [hm0] at hsome
    obtain ⟨m, hm, -⟩ := Option.map_eq_some_iff.mp hsome
    exact ⟨m, hm⟩
  obtain ⟨hline, -, hrow⟩ := roundOff_meter hm0 (by rw [ht]; exact hm)
  refine ⟨ticketOf t x m0 m (t.line m0.line) why, ⟨rfl, rfl, rfl, rfl, rfl, rfl⟩, ?_⟩
  rw [closeSession_eq hm0 ht hm hl hx hxc hline hrow why]
  exact drainEnd_idle hsvc

/-! ## The cases of a channel -/

section Cases

variable {m : Fin 24} {why : CloseReason} {c : Fin 24} {s : State} (hs : s.Coherent)

include hs

/-- A channel without a call, which the teardown frees or leaves. -/
theorem State.DownStep.of_idle (hoff : (s.channel c).state ≠ .offered) (hconn : (s.channel c).state ≠ .connected) {t : State}
    (ht : t = { s with channels := t.channels })
    (hc : ∀ d, t.channel d = if d = c then Channel.down (s.now + s.params.close * 10) why (s.channel c) else s.channel d)
    (hq : controlsDown c why (s.channel c) s.trunk.controls = s.trunk.controls) : State.DownStep m why c s t := by
  obtain ⟨hmeter, hrow, hline⟩ := hs.uncalled hoff hconn
  obtain ⟨v, rfl⟩ : ∃ v, t = { s with channels := v } := ⟨_, ht⟩
  exact {
    frame := rfl
    channel := hc
    meter := fun d => by
      split
      · next h => exact h ▸ hmeter
      · rfl
    rowOther := fun _ _ => rfl
    rowSelf := fun r x hr hx => absurd hx (hrow r x hr)
    lineOther := fun _ _ => .inl rfl
    lineOffered := fun l hl => absurd hl (hline l)
    lineConnected := fun l hl => absurd hl (hline l)
    account := fun _ => rfl
    warned := fun _ h => h
    accountIdle := fun _ _ => ⟨rfl, rfl⟩
    serial := fun _ => rfl
    closeList := by rw [hmeter]; exact (List.append_nil _).symm
    controls := hq.symm }

/-- An offer that the teardown drops. -/
theorem State.DownStep.of_offer {l : Fin 32} (hst : (s.channel c).state = .offered) (hl : (s.channel c).line = some l) {r : Fin 64}
    {x : Reservation} (hr : (s.channel c).row = some r) (hx : s.row r = .reserved x) (hxc : x.channel = c) (a : Admission) (hlc : (s.line l).channel = some c)
    (hm : s.meter c = none) (k : Channel) (hk : k = Channel.down (s.now + s.params.close * 10) why (s.channel c)) (q : List Control)
    (hq : q = controlsDown c why (s.channel c) s.trunk.controls) : State.DownStep m why c s (s.offerDropped m c l a.account r k q) where
  frame := by simp only [State.offerDropped]
  channel d := by rw [State.offerDropped_channel, hk]
  meter d := by
    rw [State.offerDropped_meter]
    split
    · next h => exact h ▸ hm
    · rfl
  rowOther j hj := by
    rw [State.offerDropped_row, if_neg]
    rintro rfl
    exact hj x hx hxc
  rowSelf j y hj hy := by
    have hjr : j = r := Option.some.inj ((hs.row_unique hj hy).symm.trans hr)
    rw [hst, if_neg (by decide), State.offerDropped_row, if_pos hjr]
  lineOther j hj := by
    rw [State.offerDropped_line, if_neg]
    · exact .inl rfl
    · rintro rfl
      exact hj hlc
  lineOffered j hj _ := by
    have hjl : j = l := Option.some.inj ((hs.line_unique hj).1.symm.trans hl)
    rw [State.offerDropped_line, if_pos hjl, hjl]
  lineConnected j hj hjs := by
    have hconn := (hs.line_unique hj).2
    rw [hst, hjs] at hconn
    exact absurd hconn (by decide)
  account b := by
    rw [State.offerDropped_account]
    split
    · next h =>
      subst h
      rfl
    · rfl
  warned b hb := by
    rw [State.offerDropped_account]
    split
    · next h =>
      subst h
      exact hb
    · exact hb
  accountIdle b _ := by
    rw [State.offerDropped_account]
    split
    · next h =>
      subst h
      exact ⟨rfl, rfl⟩
    · exact ⟨rfl, rfl⟩
  serial _ := by simp only [State.offerDropped]
  closeList := by
    rw [hm]
    exact (List.append_nil _).symm
  controls := by rw [← hq, State.offerDropped]

/-- A session that the teardown closes. -/
theorem State.DownStep.of_session {l : Fin 32} (hst : (s.channel c).state = .connected) (hl : (s.channel c).line = some l) {m0 : Meter}
    {x : Reservation} (hm0 : s.meter c = some m0) (hml : m0.line = l) (hx : s.row m0.row = .reserved x) (hxc : x.channel = c)
    (hlc : (s.line l).channel = some c) (hls : (s.line l).state = .connected) (hsvc : s.mgt.service ≠ .draining) :
    State.DownStep m why c s (closeSession c why (s.setLine l (Line.request s.now m 0 (s.line l)))) := by
  subst hml
  generalize hs1 : s.setLine m0.line (Line.request s.now m 0 (s.line m0.line)) = s1
  generalize ht : roundOff c m0 s1 = t
  have hline1 : ∀ j, s1.line j = if j = m0.line then Line.request s.now m 0 (s.line m0.line) else s.line j := fun j => by
    rw [← hs1, State.setLine_line]
  have hframe1 : s1 = { s with lines := s1.lines } := by rw [← hs1]; rfl
  have hm1 : s1.meter c = some m0 := by rw [← hs1]; exact hm0
  have hround := roundOff_roundedOff hm1
  rw [ht] at hround
  have hrounded := hround.frame
  have hlinet : ∀ j, (t.line j).state = (s.line j).state := fun j => by
    rcases hround.line j with h | ⟨⟨v, h⟩, -⟩
    · rw [h, hline1]
      split
      · next h => rw [h, Line.request_state]
      · rfl
    · rw [h, Line.request_state, hline1]
      split
      · next h => rw [h, Line.request_state]
      · rfl
  have hft : t = { s with lines := t.lines, accounts := t.accounts, meters := t.meters } :=
    hrounded.trans (congrArg (fun u : State => { u with lines := t.lines, accounts := t.accounts, meters := t.meters }) hframe1)
  have hnow : t.now = s.now := by rw [hft]
  have hmgt : t.mgt = s.mgt := by rw [hft]
  have hparams : t.params = s.params := by rw [hft]
  have htrunk : t.trunk = s.trunk := by rw [hft]
  have htickets : t.tickets = s.tickets := by rw [hft]
  have hchannel : ∀ d, t.channel d = s.channel d := fun d => by rw [hft, State.channel, State.channel]
  have hrow : ∀ r, t.row r = s.row r := fun r => by rw [hft, State.row, State.row]
  have hmeter1 : ∀ d, s1.meter d = s.meter d := fun d => by rw [← hs1, State.setLine_meter]
  have haccount1 : ∀ a, s1.account a = s.account a := fun a => by rw [← hs1, State.setLine_account]
  obtain ⟨b, w, hw, hself⟩ := hround.account
  have hothers := hround.accounts
  have hlines := hround.line
  have hmeters := hround.meters
  simp only [haccount1, hmeter1] at hw hself hothers hlines hmeters
  obtain ⟨k, hk, hclose⟩ := closeSession_gone (by rw [hmgt]; exact hsvc) hm1 ht (by rw [hlinet]; exact hls) (by rw [hrow]; exact hx) hxc why
  rw [hclose]
  exact {
    frame := by
      exact congrArg (fun u : State => { u with
        lines := (t.sessionGone c m0.line m0.account m0.row k why).lines
        accounts := (t.sessionGone c m0.line m0.account m0.row k why).accounts
        meters := (t.sessionGone c m0.line m0.account m0.row k why).meters
        channels := (t.sessionGone c m0.line m0.account m0.row k why).channels
        tickets := (t.sessionGone c m0.line m0.account m0.row k why).tickets
        trunk := { u.trunk with controls := (t.sessionGone c m0.line m0.account m0.row k why).trunk.controls } }) hft
    channel := fun d => by
      rw [State.sessionGone_channel, hnow, hparams, hchannel, hchannel, Channel.down, hst]
    meter := fun d => by
      rw [State.sessionGone_meter]
      split
      · rfl
      · next h => exact hmeters d h
    rowOther := fun j hj => by
      rw [State.sessionGone_row, if_neg, hrow]
      rintro rfl
      exact hj x hx hxc
    rowSelf := fun j y hj hy => by
      have hjr : j = m0.row := by
        have h1 := hs.row_unique hj hy
        rw [hs.row_unique hx hxc] at h1
        exact (Option.some.inj h1).symm
      subst hjr
      obtain rfl : x = y := Row.reserved.inj (hx.symm.trans hj)
      rw [hst, if_pos rfl, State.sessionGone_row, if_pos rfl]
      exact ⟨k, rfl, hk⟩
    lineOther := fun j hj => by
      have hne : j ≠ m0.line := fun h => hj (h ▸ hlc)
      have hj1 : s1.line j = s.line j := by rw [hline1, if_neg hne]
      have hnow1 : s1.now = s.now := by rw [hframe1]
      rw [State.sessionGone_line, if_neg hne]
      rcases hlines j with h | ⟨⟨v, h⟩, hno, hyes, d, m, hd, hdl, hda⟩
      · exact .inl (h.trans hj1)
      · refine .inr ⟨⟨v, ?_⟩, d, m, hd, hdl, by rw [hda]; exact hno, ?_⟩
        · rw [h, hj1, hnow1]
        · rw [State.sessionGone_account, hda, if_pos rfl]
          exact hyes
    lineOffered := fun j hj hjs => by
      have hoff := (hs.line_unique hj).2
      rw [hst, hjs] at hoff
      exact absurd hoff (by decide)
    lineConnected := fun j hj _ => by
      have hjl : j = m0.line := Option.some.inj ((hs.line_unique hj).1.symm.trans hl)
      subst hjl
      have hj1 : s1.line m0.line = Line.request s.now m 0 (s.line m0.line) := by rw [hline1, if_pos rfl]
      have hnow1 : s1.now = s.now := by rw [hframe1]
      refine ⟨t.line m0.line, ?_, ?_⟩
      · rcases hlines m0.line with h | ⟨⟨v, h⟩, hno, -⟩
        · exact .inl (h.trans hj1)
        · exact .inr ⟨⟨v, by rw [h, hj1, hnow1]⟩, m0, hm0, hno⟩
      · rw [State.sessionGone_line, if_pos rfl, hnow]
    account := fun a => by
      rw [State.sessionGone_account]
      split
      · next h =>
        subst h
        rw [hself]
        rfl
      · next h =>
        rw [hothers a h]
    warned := fun a ha => by
      rw [State.sessionGone_account]
      split
      · next h =>
        subst h
        rw [hself]
        exact hw ha
      · next h => rw [hothers a h]; exact ha
    accountIdle := fun a ha => by
      rw [State.sessionGone_account, if_neg fun h => ha m0 hm0 h.symm, hothers a fun h => ha m0 hm0 h.symm]
      exact ⟨rfl, rfl⟩
    serial := fun h => absurd (hm0.symm.trans h) (Option.some_ne_none m0)
    closeList := by
      rw [hm0, State.sessionGone, htickets]
      rfl
    controls := by
      rw [State.sessionGone, htrunk, controlsDown, hst] }

end Cases

end Sys2Proof.Machine
end

section
/-! Every channel of a teardown in turn (R172 step 5, R192 step 4, R193). -/

namespace Sys2Proof.Machine

open Sys2Proof

/-! ## The step of each channel -/

section Step

variable {s : State} (hs : s.Coherent) (hsvc : s.mgt.service ≠ .draining) (m : Fin 24) (why : CloseReason) (c : Fin 24)

include hs

theorem State.Coherent.takenDown : s.TakenDown c := by
  have hc := hs.1 c
  refine ⟨fun h => ?_, fun h => ?_⟩
  all_goals
    rw [State.ChannelCoherent, h] at hc
    exact hc.2

include hsvc

theorem State.channelDown_step : State.DownStep m why c s (State.channelDown m why s c) := by
  have hself : ∀ d, s.channel d = if d = c then s.channel c else s.channel d := fun d => by
    split
    · next h => rw [h]
    · rfl
  have hkept : Channel.down (s.now + s.params.close * 10) why (s.channel c) = s.channel c → (s.channel c).state ≠ .offered →
      (s.channel c).state ≠ .connected → controlsDown c why (s.channel c) s.trunk.controls = s.trunk.controls →
      State.DownStep m why c s s := fun hdown hoff hconn hq =>
    State.DownStep.of_idle hs hoff hconn rfl (fun d => by rw [hdown]; exact hself d) hq
  have hfreed : why = .hostLost → ((s.channel c).state = .closing ∨ (s.channel c).state = .quarantined) →
      State.DownStep m why c s
        (s.setChannel c { s.channel c with state := .free, line := none, row := none, timer := none }) := fun hwhy hst => by
    have hoff : (s.channel c).state ≠ .offered := by rcases hst with h | h <;> rw [h] <;> decide
    have hconn : (s.channel c).state ≠ .connected := by rcases hst with h | h <;> rw [h] <;> decide
    have hdown : Channel.down (s.now + s.params.close * 10) why (s.channel c) =
        { s.channel c with state := .free, line := none, row := none, timer := none } := by
      rcases hst with h | h <;> rw [Channel.down, h] <;> exact if_pos hwhy
    have hq : controlsDown c why (s.channel c) s.trunk.controls = s.trunk.controls := by
      rcases hst with h | h <;> rw [controlsDown, h]
    refine State.DownStep.of_idle hs hoff hconn rfl (fun d => ?_) hq
    rw [hdown]
    exact State.setChannel_channel s c d _
  cases hst : (s.channel c).state with
  | free =>
    have hdown : State.channelDown m why s c = s := by simp only [State.channelDown, hst]
    rw [hdown]
    exact hkept (by rw [Channel.down, hst]) (by rw [hst]; decide) (by rw [hst]; decide) (by rw [controlsDown, hst])
  | closing =>
    simp only [State.channelDown, hst]
    split
    · next h => exact hfreed h (.inl hst)
    · next h =>
      refine hkept ?_ (by rw [hst]; decide) (by rw [hst]; decide) (by rw [controlsDown, hst])
      rw [Channel.down, hst]
      exact if_neg h
  | quarantined =>
    simp only [State.channelDown, hst]
    split
    · next h => exact hfreed h (.inr hst)
    · next h =>
      refine hkept ?_ (by rw [hst]; decide) (by rw [hst]; decide) (by rw [controlsDown, hst])
      rw [Channel.down, hst]
      exact if_neg h
  | offered =>
    obtain ⟨l, hoff⟩ := (hs.takenDown c).1 hst
    obtain ⟨r, x, a, hr, hx, hxc, ha⟩ := hoff.parts
    obtain ⟨hl, -, hlc, -⟩ := hoff
    have hm : s.meter c = none := by
      have hc := hs.1 c
      rw [State.ChannelCoherent, hst] at hc
      exact hc.1
    simp only [State.channelDown, hst, hl, ha, hr]
    split
    · next h =>
      refine State.DownStep.of_offer hs hst hl hr hx hxc a hlc hm _ ?_ _ ?_
      · rw [Channel.down, hst]
        exact (if_pos h).symm
      · rw [controlsDown, hst]
        exact (if_pos h).symm
    · next h =>
      refine State.DownStep.of_offer hs hst hl hr hx hxc a hlc hm _ ?_ _ ?_
      · simp only [Channel.down, hst, hl, if_neg h]
      · rw [controlsDown, hst]
        exact (if_neg h).symm
  | connected =>
    obtain ⟨l, hl, hls, hlc, m0, a, hm0, -, hml, -, -, hrow⟩ := (hs.takenDown c).2 hst
    cases hx : s.row m0.row with
    | free => rw [hx] at hrow; exact hrow.elim
    | closed y => rw [hx] at hrow; exact hrow.elim
    | reserved x =>
      rw [hx] at hrow
      have hdown : State.channelDown m why s c = closeSession c why (s.setLine l (Line.request s.now m 0 (s.line l))) := by
        simp only [State.channelDown, hst, hl]
        rfl
      rw [hdown]
      exact State.DownStep.of_session hs hst hl hm0 hml hx hrow.1 hlc hls hsvc

end Step

end Sys2Proof.Machine
end

section
/-! The channels of a teardown one after another (R172, R192, R193): what the first channels in order have become, by induction on how many they are. -/

namespace Sys2Proof.Machine

open Sys2Proof

/-- R172, R192, R193: the message and the close reason of a teardown. -/
def TeardownCause (m : Fin 24) (why : CloseReason) : Prop := m = 20 ∧ why = .hostLost ∨ m = 21 ∧ (why = .operator ∨ why = .restart)

/-- The teardown took the channels `cs`. -/
@[irreducible] def State.fell (m : Fin 24) (why : CloseReason) (cs : List (Fin 24)) (u : State) : State := cs.foldl (State.channelDown m why) u

theorem State.fell_nil (m : Fin 24) (why : CloseReason) (u : State) : u.fell m why [] = u := by rw [State.fell, List.foldl_nil]

theorem State.fell_concat (m : Fin 24) (why : CloseReason) (cs : List (Fin 24)) (c : Fin 24) (u : State) :
    u.fell m why (cs ++ [c]) = State.channelDown m why (u.fell m why cs) c := by
  rw [State.fell, List.foldl_concat, State.fell]

section Cause

variable {m : Fin 24} {why : CloseReason} (hcause : TeardownCause m why)

include hcause

theorem State.CallsOk.channelDown {s : State} (hs : s.CallsOk) (hsvc : s.mgt.service ≠ .draining) (c : Fin 24) :
    (State.channelDown m why s c).CallsOk := by
  have hdown := (State.callsOk_iff.mp hs).1.takenDown c
  rcases hcause with ⟨rfl, rfl⟩ | ⟨rfl, hwhy⟩
  · rw [← loseChannel_eq c hsvc hdown]
    exact loseChannel_callsOk hs c
  · have hlost : why ≠ .hostLost := by rcases hwhy with rfl | rfl <;> decide
    have hcarrier : why ≠ .carrierLost := by rcases hwhy with rfl | rfl <;> decide
    rw [← serviceCloseChannel_eq why c hlost hsvc hdown]
    exact serviceCloseChannel_callsOk hs c hcarrier

end Cause

/-! ## A line that names no channel -/

/-- A meter runs for the connected line of its channel. -/
theorem State.Coherent.meter_line {s : State} (hs : s.Coherent) {c : Fin 24} {m0 : Meter} (hm : s.meter c = some m0) :
    (s.line m0.line).channel = some c ∧ (s.line m0.line).state = .connected := by
  have hconn : (s.channel c).state = .connected := by
    by_contra hconn
    by_cases hoff : (s.channel c).state = .offered
    · have hc := hs.1 c
      rw [State.ChannelCoherent, hoff] at hc
      exact Option.some_ne_none m0 (hm.symm.trans hc.1)
    · exact Option.some_ne_none m0 (hm.symm.trans (hs.uncalled hoff hconn).1)
  obtain ⟨l, -, hl, hlc, m', a, hm', -, hml, -⟩ := (hs.takenDown c).2 hconn
  obtain rfl : m0 = m' := Option.some.inj (hm.symm.trans hm')
  rw [hml]
  exact ⟨hlc, hl⟩

theorem State.DownStep.line_unnamed {m : Fin 24} {why : CloseReason} {c : Fin 24} {s t : State} (h : State.DownStep m why c s t) (hs : s.Coherent)
    {l : Fin 32} (hl : (s.line l).channel = none) : t.line l = s.line l := by
  rcases h.lineOther l (by rw [hl]; exact (Option.some_ne_none c).symm) with hsame | ⟨-, d, m0, hm0, hml, -⟩
  · exact hsame
  · have hnamed := (hs.meter_line hm0).1
    rw [hml, hl] at hnamed
    exact absurd hnamed.symm (Option.some_ne_none d)

/-! ## The channels in turn -/

section Falls

variable {m : Fin 24} {why : CloseReason} (hcause : TeardownCause m why) {u : State} (hu : u.CallsOk) (hsvc : u.mgt.service ≠ .draining)

include hcause hu hsvc

theorem State.fell_ok (cs : List (Fin 24)) : (u.fell m why cs).CallsOk ∧ (u.fell m why cs).mgt = u.mgt := by
  induction cs using List.reverseRecOn with
  | nil => rw [State.fell_nil]; exact ⟨hu, rfl⟩
  | append_singleton cs c ih =>
    obtain ⟨hok, hmgt⟩ := ih
    rw [State.fell_concat]
    have hopen : (u.fell m why cs).mgt.service ≠ .draining := by rw [hmgt]; exact hsvc
    refine ⟨hok.channelDown hcause hopen c, ?_⟩
    rw [(State.channelDown_step (State.callsOk_iff.mp hok).1 hopen m why c).frame]
    exact hmgt

theorem State.fell_coherent (cs : List (Fin 24)) : (u.fell m why cs).Coherent :=
  (State.callsOk_iff.mp (State.fell_ok hcause hu hsvc cs).1).1

theorem State.fell_step (cs : List (Fin 24)) (c : Fin 24) : State.DownStep m why c (u.fell m why cs) (u.fell m why (cs ++ [c])) := by
  rw [State.fell_concat]
  refine State.channelDown_step (State.fell_coherent hcause hu hsvc cs) ?_ m why c
  rw [(State.fell_ok hcause hu hsvc cs).2]
  exact hsvc

theorem State.fell_frame (cs : List (Fin 24)) : u.fell m why cs = { u with
    lines := (u.fell m why cs).lines, accounts := (u.fell m why cs).accounts, meters := (u.fell m why cs).meters
    channels := (u.fell m why cs).channels, tickets := (u.fell m why cs).tickets
    trunk := { u.trunk with controls := (u.fell m why cs).trunk.controls } } := by
  induction cs using List.reverseRecOn with
  | nil => rw [State.fell_nil]
  | append_singleton cs c ih =>
    have hstep := (State.fell_step hcause hu hsvc cs c).frame
    generalize u.fell m why cs = s at ih hstep
    generalize u.fell m why (cs ++ [c]) = t at hstep
    exact hstep.trans (congrArg (fun x : State => { x with
      lines := t.lines, accounts := t.accounts, meters := t.meters, channels := t.channels, tickets := t.tickets
      trunk := { x.trunk with controls := t.trunk.controls } }) ih)

theorem State.fell_now (cs : List (Fin 24)) : (u.fell m why cs).now = u.now := by rw [State.fell_frame hcause hu hsvc cs]

theorem State.fell_params (cs : List (Fin 24)) : (u.fell m why cs).params = u.params := by rw [State.fell_frame hcause hu hsvc cs]

theorem State.fell_meter (cs : List (Fin 24)) (d : Fin 24) : (u.fell m why cs).meter d = if d ∈ cs then none else u.meter d := by
  induction cs using List.reverseRecOn with
  | nil => rw [State.fell_nil, if_neg List.not_mem_nil]
  | append_singleton cs c ih =>
    rw [(State.fell_step hcause hu hsvc cs c).meter, ih]
    by_cases hd : d = c <;> by_cases hc : d ∈ cs <;> simp [hd, hc]

theorem State.fell_channel {cs : List (Fin 24)} (hcs : cs.Nodup) (d : Fin 24) : (u.fell m why cs).channel d =
    if d ∈ cs then Channel.down (u.now + u.params.close * 10) why (u.channel d) else u.channel d := by
  induction cs using List.reverseRecOn with
  | nil => rw [State.fell_nil, if_neg List.not_mem_nil]
  | append_singleton cs c ih =>
    obtain ⟨hcs, -, hc⟩ := List.nodup_append.mp hcs
    have hfresh : c ∉ cs := fun h => hc c h c (List.mem_singleton_self c) rfl
    have ihc := ih hcs
    rw [(State.fell_step hcause hu hsvc cs c).channel, State.fell_now hcause hu hsvc, State.fell_params hcause hu hsvc]
    by_cases hd : d = c
    · subst hd
      rw [if_pos rfl, if_pos (by simp), ihc, if_neg hfresh]
    · rw [if_neg hd, ihc]
      simp [hd]

end Falls

end Sys2Proof.Machine
end

section
/-! The rows and the lines of a teardown (R16, R121, R137): each is what the turn of its own channel made of it. -/

namespace Sys2Proof.Machine

open Sys2Proof

/-- R121, R137: row `r` of `t`, the channels `cs` of `u` being taken. -/
def State.RowFell (why : CloseReason) (cs : List (Fin 24)) (u t : State) (r : Fin 64) : Prop :=
  match u.row r with
  | .free => t.row r = .free
  | .closed x => t.row r = .closed x
  | .reserved x =>
    if x.channel ∈ cs then
      if (u.channel x.channel).state = .connected then ∃ y, t.row r = .closed y ∧ y.closes x why else t.row r = .free
    else t.row r = .reserved x

/-- R16, R172: the line told `m`, with at most one M16 (R79) before it or after it. -/
def Line.Told (now : Nat) (m : Fin 24) (ln told : Line) : Prop :=
  told = Line.request now m 0 ln ∨
    ∃ v : Int, told = Line.request now 16 v (Line.request now m 0 ln) ∨ told = Line.request now m 0 (Line.request now 16 v ln)

/-- R16, R137: line `l` of `t`, the channels `cs` of `u` being taken; before its own turn it can have had the M16 of an account that is warned since (R79). -/
def State.LineFell (m : Fin 24) (why : CloseReason) (cs : List (Fin 24)) (u t : State) (l : Fin 32) : Prop :=
  match (u.line l).channel with
  | none => t.line l = u.line l
  | some c =>
    if c ∈ cs then
      if (u.line l).state = .offered then t.line l = (u.line l).unoffered u.now m
      else ∃ told, Line.Told u.now m (u.line l) told ∧ t.line l = Line.ended u.now why told
    else t.line l = u.line l ∨ (u.line l).state = .connected ∧ ∃ v m0, t.line l = Line.request u.now 16 v (u.line l) ∧
      u.meter c = some m0 ∧ (t.account m0.account).warned = true

theorem Line.ended_channel (now : Nat) (why : CloseReason) (ln : Line) : (Line.ended now why ln).channel = none := by
  cases why <;> rfl

section Falls

variable {m : Fin 24} {why : CloseReason} (hcause : TeardownCause m why) {u : State} (hu : u.CallsOk) (hsvc : u.mgt.service ≠ .draining)

include hcause hu hsvc

theorem State.fell_row {cs : List (Fin 24)} (hcs : cs.Nodup) (r : Fin 64) : State.RowFell why cs u (u.fell m why cs) r := by
  induction cs using List.reverseRecOn with
  | nil =>
    rw [State.fell_nil, State.RowFell]
    cases hr : u.row r with
    | free => rfl
    | closed x => rfl
    | reserved x => simp
  | append_singleton cs c ih =>
    obtain ⟨hnodup, -, hc⟩ := List.nodup_append.mp hcs
    have hfresh : c ∉ cs := fun h => hc c h c (List.mem_singleton_self c) rfl
    have hstep := State.fell_step hcause hu hsvc cs c
    have hchannel := State.fell_channel hcause hu hsvc hnodup c
    rw [if_neg hfresh] at hchannel
    have ih := ih hnodup
    unfold State.RowFell at ih ⊢
    cases hr : u.row r with
    | free =>
      rw [hr] at ih
      exact (hstep.rowOther r fun x hx => by rw [ih] at hx; cases hx).trans ih
    | closed y =>
      rw [hr] at ih
      exact (hstep.rowOther r fun x hx => by rw [ih] at hx; cases hx).trans ih
    | reserved x =>
      rw [hr] at ih
      dsimp only at ih ⊢
      by_cases hx : x.channel ∈ cs
      · rw [if_pos (List.mem_append_left _ hx)]
        rw [if_pos hx] at ih
        split
        · next hconn =>
          obtain ⟨y, hy, hcloses⟩ := (if_pos hconn).mp ih
          exact ⟨y, (hstep.rowOther r fun z hz => by rw [hy] at hz; cases hz).trans hy, hcloses⟩
        · next hconn =>
          rw [if_neg hconn] at ih
          exact (hstep.rowOther r fun z hz => by rw [ih] at hz; cases hz).trans ih
      · rw [if_neg hx] at ih
        by_cases hxc : x.channel = c
        · have hself := hstep.rowSelf r x ih hxc
          rw [hchannel] at hself
          rw [if_pos (by simp [hxc]), hxc]
          exact hself
        · rw [if_neg (by simp [hx, hxc])]
          refine (hstep.rowOther r fun z hz => ?_).trans ih
          cases hz.symm.trans ih
          exact hxc

theorem State.fell_line {cs : List (Fin 24)} (hcs : cs.Nodup) (l : Fin 32) : State.LineFell m why cs u (u.fell m why cs) l := by
  induction cs using List.reverseRecOn with
  | nil =>
    rw [State.fell_nil, State.LineFell]
    cases (u.line l).channel with
    | none => rfl
    | some c => exact .inl rfl
  | append_singleton cs c ih =>
    obtain ⟨hnodup, -, hc⟩ := List.nodup_append.mp hcs
    have hfresh : c ∉ cs := fun h => hc c h c (List.mem_singleton_self c) rfl
    have hstep := State.fell_step hcause hu hsvc cs c
    have hcoh := State.fell_coherent hcause hu hsvc cs
    have hnow := State.fell_now hcause hu hsvc cs
    have hmeter := State.fell_meter hcause hu hsvc cs
    have ih := ih hnodup
    generalize u.fell m why cs = s at *
    generalize u.fell m why (cs ++ [c]) = t at *
    unfold State.LineFell at ih ⊢
    cases hl : (u.line l).channel with
    | none =>
      rw [hl] at ih
      dsimp only at ih ⊢
      rw [← ih] at hl ⊢
      exact hstep.line_unnamed hcoh hl
    | some d =>
      rw [hl] at ih
      dsimp only at ih ⊢
      by_cases hd : d ∈ cs
      · rw [if_pos (List.mem_append_left _ hd)]
        rw [if_pos hd] at ih
        have hgone : (s.line l).channel = none := by
          split at ih
          · rw [ih]; rfl
          · obtain ⟨told, -, htold⟩ := ih
            rw [htold]
            exact Line.ended_channel ..
        rw [hstep.line_unnamed hcoh hgone]
        exact ih
      · rw [if_neg hd] at ih
        have hmd : s.meter d = u.meter d := by rw [hmeter d, if_neg hd]
        have hnamed : (s.line l).channel = some d ∧ (s.line l).state = (u.line l).state := by
          rcases ih with h | ⟨-, v, m0, h, -⟩
          · rw [h]; exact ⟨hl, rfl⟩
          · rw [h, Line.request_channel, Line.request_state]; exact ⟨hl, rfl⟩
        obtain ⟨hsl, hstate⟩ := hnamed
        by_cases hdc : d = c
        · subst hdc
          rw [if_pos (by simp)]
          rcases (hcoh.line_unique hsl).2 with ⟨hst, -⟩ | ⟨hst, -⟩
          · rw [if_pos (hstate ▸ hst), hstep.lineOffered l hsl hst, hnow]
            rcases ih with h | ⟨hconn, -⟩
            · rw [h]
            · exact absurd (hst.symm.trans (hstate.trans hconn)) (by decide)
          · have hoff : (u.line l).state ≠ .offered := by rw [← hstate, hst]; decide
            rw [if_neg hoff]
            obtain ⟨told, htold, ht⟩ := hstep.lineConnected l hsl hst
            rw [hnow] at htold ht
            refine ⟨told, ?_, ht⟩
            rcases ih with h | ⟨-, v, m0, h, hm0, hw⟩
            · rw [h] at htold
              rcases htold with h | ⟨⟨v, h⟩, -⟩
              · exact .inl h
              · exact .inr ⟨v, .inl h⟩
            · rcases htold with htold | ⟨-, m1, hm1, hno⟩
              · exact .inr ⟨v, .inr (by rw [htold, h])⟩
              · obtain rfl : m0 = m1 := Option.some.inj (hm0.symm.trans (hmd.symm.trans hm1))
                exact absurd (hw.symm.trans hno) (by decide)
        · rw [if_neg (by simp [hd, hdc])]
          rcases hstep.lineOther l (by rw [hsl]; exact fun h => hdc (Option.some.inj h)) with hsame | ⟨⟨v, hv⟩, e, m0, hm0, hml, hno, hyes⟩
          · rw [hsame]
            rcases ih with h | ⟨hconn, v, m0, h, hm0, hw⟩
            · exact .inl h
            · exact .inr ⟨hconn, v, m0, h, hm0, hstep.warned _ hw⟩
          · obtain ⟨hme, hms⟩ := hcoh.meter_line hm0
            rw [hml] at hme hms
            obtain rfl : d = e := Option.some.inj (hsl.symm.trans hme)
            rw [hmd] at hm0
            rcases ih with h | ⟨-, w, m1, h, hm1, hw⟩
            · rw [hv, h, hnow]
              exact .inr ⟨hstate ▸ hms, v, m0, rfl, hm0, hyes⟩
            · obtain rfl : m0 = m1 := Option.some.inj (hm0.symm.trans hm1)
              exact absurd (hw.symm.trans hno) (by decide)

end Falls

end Sys2Proof.Machine
end

section
/-! The accounts, the tickets and the counts of a teardown, and what the whole of it leaves (R158, R172, R192, R193). -/

namespace Sys2Proof.Machine

open Sys2Proof

theorem Channel.down_uncalled (why : CloseReason) (timeout : Nat) (x : Channel) :
    (Channel.down timeout why x).state ≠ .offered ∧ (Channel.down timeout why x).state ≠ .connected := by
  cases hst : x.state <;> simp only [Channel.down, hst]
  case free => decide
  case offered => split <;> exact ⟨ChannelState.noConfusion, ChannelState.noConfusion⟩
  case connected => cases why <;> exact ⟨ChannelState.noConfusion, ChannelState.noConfusion⟩
  all_goals
    split
    · exact ⟨ChannelState.noConfusion, ChannelState.noConfusion⟩
    · rw [hst]; decide

section Falls

variable {m : Fin 24} {why : CloseReason} (hcause : TeardownCause m why) {u : State} (hu : u.CallsOk) (hsvc : u.mgt.service ≠ .draining)

include hcause hu hsvc

theorem State.fell_account (cs : List (Fin 24)) (a : Fin 256) : (u.fell m why cs).account a = { u.account a with
    balance := ((u.fell m why cs).account a).balance, warned := ((u.fell m why cs).account a).warned
    openCount := ((u.fell m why cs).account a).openCount } := by
  induction cs using List.reverseRecOn with
  | nil => rw [State.fell_nil]
  | append_singleton cs c ih =>
    have hstep := (State.fell_step hcause hu hsvc cs c).account a
    generalize (u.fell m why cs).account a = x at ih hstep
    generalize (u.fell m why (cs ++ [c])).account a = y at hstep
    exact hstep.trans (congrArg (fun z : Account => { z with balance := y.balance, warned := y.warned, openCount := y.openCount }) ih)

/-- R79: an account without a session keeps its balance and its warning. -/
theorem State.fell_accountIdle (cs : List (Fin 24)) {a : Fin 256} (ha : ∀ c, ((u.meter c).any fun m0 => decide (m0.account = a)) = false) :
    ((u.fell m why cs).account a).balance = (u.account a).balance ∧ ((u.fell m why cs).account a).warned = (u.account a).warned := by
  induction cs using List.reverseRecOn with
  | nil => rw [State.fell_nil]; exact ⟨rfl, rfl⟩
  | append_singleton cs c ih =>
    obtain ⟨hbalance, hwarned⟩ := ih
    obtain ⟨hb, hw⟩ := (State.fell_step hcause hu hsvc cs c).accountIdle a fun m0 hm0 heq => by
      rw [State.fell_meter hcause hu hsvc] at hm0
      split at hm0
      · cases hm0
      · have hany := ha c
        rw [hm0, Option.any_some, heq] at hany
        simp at hany
    exact ⟨hb.trans hbalance, hw.trans hwarned⟩

/-- R152: the serial counter moves only when a session closes. -/
theorem State.fell_serial (cs : List (Fin 24)) (hno : ∀ c, u.meter c = none) : (u.fell m why cs).tickets.serial = u.tickets.serial := by
  induction cs using List.reverseRecOn with
  | nil => rw [State.fell_nil]
  | append_singleton cs c ih =>
    refine ((State.fell_step hcause hu hsvc cs c).serial ?_).trans ih
    rw [State.fell_meter hcause hu hsvc, hno c, ite_self]

/-- R158: the tickets enter the close list in the order of the channels. -/
theorem State.fell_closeList {cs : List (Fin 24)} (hcs : cs.Nodup) : (u.fell m why cs).tickets.closeList =
    u.tickets.closeList ++ cs.filterMap fun c => (u.meter c).map (·.row) := by
  induction cs using List.reverseRecOn with
  | nil => rw [State.fell_nil, List.filterMap_nil, List.append_nil]
  | append_singleton cs c ih =>
    obtain ⟨hnodup, -, hc⟩ := List.nodup_append.mp hcs
    have hfresh : c ∉ cs := fun h => hc c h c (List.mem_singleton_self c) rfl
    rw [(State.fell_step hcause hu hsvc cs c).closeList, ih hnodup, State.fell_meter hcause hu hsvc, if_neg hfresh, List.filterMap_append,
      List.append_assoc]
    cases hm : u.meter c <;> simp [hm]

/-! ## Every channel taken -/

/-- No line has an admission or a channel once every channel is taken. -/
theorem State.fell_unheld (hq : u.queue = []) (l : Fin 32) :
    ((u.fell m why (List.finRange 24)).line l).admission = none ∧ ((u.fell m why (List.finRange 24)).line l).channel = none := by
  have hcoh := State.fell_coherent hcause hu hsvc (List.finRange 24)
  have hchannel := State.fell_channel hcause hu hsvc (List.nodup_finRange 24)
  have hqueue : (u.fell m why (List.finRange 24)).queue = [] := by rw [State.fell_frame hcause hu hsvc]; exact hq
  generalize u.fell m why (List.finRange 24) = t at *
  have hno : (t.line l).channel = none := by
    cases hl : (t.line l).channel with
    | none => rfl
    | some c =>
      have hdown := Channel.down_uncalled why (u.now + u.params.close * 10) (u.channel c)
      rw [← (hchannel c).trans (if_pos (List.mem_finRange c))] at hdown
      rcases (hcoh.line_unique hl).2 with ⟨-, h⟩ | ⟨-, h⟩
      · exact absurd h hdown.1
      · exact absurd h hdown.2
  have hwait : (t.line l).state ≠ .waiting := fun h => by
    obtain ⟨w, hw, -⟩ := (hcoh.2.2.2.1.2.1 l).mpr h
    rw [hqueue] at hw
    exact List.not_mem_nil hw
  refine ⟨?_, hno⟩
  have hl := hcoh.2.1 l
  unfold State.LineCoherent at hl
  split at hl
  · obtain ⟨c, hc, -⟩ := hl
    exact absurd (hc.symm.trans hno) (Option.some_ne_none c)
  · obtain ⟨c, hc, -⟩ := hl
    exact absurd (hc.symm.trans hno) (Option.some_ne_none c)
  · next h => exact absurd h hwait
  all_goals exact hl.2

/-- R83: no account has an open admission once every channel is taken. -/
theorem State.fell_openCount (hq : u.queue = []) (a : Fin 256) : ((u.fell m why (List.finRange 24)).account a).openCount = 0 := by
  rw [(State.fell_coherent hcause hu hsvc (List.finRange 24)).2.2.2.2.2 a, State.admissionsOf_any, List.length_eq_zero_iff, List.filter_eq_nil_iff]
  intro l _
  rw [(State.fell_unheld hcause hu hsvc hq l).1]
  exact Bool.false_ne_true

end Falls

/-! ## The whole teardown -/

section Teardown

variable {m : Fin 24} {why : CloseReason} {s : State} (hs : s.Coherent) (hsvc : s.mgt.service = .closed)

theorem State.callsEnded_eq_fell (m : Fin 24) (why : CloseReason) (s : State) :
    s.callsEnded m why = (s.cleared m).fell m why (List.finRange 24) := by
  rw [State.callsEnded, State.fell, State.cleared]

include hsvc in
theorem State.cleared_open : (s.cleared m).mgt.service ≠ .draining := by
  rw [State.cleared_frame]
  exact fun h => absurd (hsvc.symm.trans h) (by decide)

variable (hcause : TeardownCause m why)

include hs hsvc hcause

theorem State.callsEnded_tornDown : s.TornDown why (s.callsEnded m why) := by
  have hu := State.cleared_callsOk (m := m) hs
  have hopen := State.cleared_open (m := m) hsvc
  have hq := State.cleared_queue s m
  have htickets : (s.cleared m).tickets = s.tickets := by rw [State.cleared_frame]
  have haccount := State.fell_account hcause hu hopen (List.finRange 24)
  have hcount := State.fell_openCount hcause hu hopen hq
  rw [State.callsEnded_eq_fell]
  refine ⟨?_, ?_, fun c => ?_, State.fell_unheld hcause hu hopen hq, fun a => ?_, fun a ha => ?_, fun hno => ?_, ?_, fun r => ?_⟩
  · rw [State.fell_frame hcause hu hopen, State.cleared_frame]
    exact hsvc
  · rw [State.fell_frame hcause hu hopen]
    exact hq
  · rw [State.fell_meter hcause hu hopen, if_pos (List.mem_finRange c)]
  · rw [haccount a, hcount a, State.cleared_account hs]
  · obtain ⟨hb, hw⟩ := State.fell_accountIdle hcause hu hopen (List.finRange 24) (a := a) fun c => by rw [State.cleared_meter]; exact ha c
    rw [haccount a, hcount a, hb, hw, State.cleared_account hs]
  · rw [State.fell_serial hcause hu hopen _ fun c => (State.cleared_meter s m c).trans (hno c), htickets]
  · simp only [State.fell_closeList hcause hu hopen (List.nodup_finRange 24), htickets, State.cleared_meter]
  · have hrow := State.fell_row hcause hu hopen (List.nodup_finRange 24) r
    unfold State.RowFell at hrow
    rw [State.cleared_row] at hrow
    cases hr : s.row r with
    | free => rw [hr] at hrow; exact hrow
    | closed x => rw [hr] at hrow; exact hrow
    | reserved x =>
      rw [hr] at hrow
      dsimp only at hrow ⊢
      rw [if_pos (List.mem_finRange _), State.cleared_channel] at hrow
      split
      · next hconn =>
        obtain ⟨y, hy, hcloses⟩ := (if_pos hconn).mp hrow
        rw [hy]
        exact hcloses
      · next hconn => exact (if_neg hconn).mp hrow

end Teardown

end Sys2Proof.Machine
end

section
/-! The lines and the channels that a whole teardown leaves (R16, R172 step 5, R192 step 4). -/

namespace Sys2Proof.Machine

open Sys2Proof

/-! ## A line of a teardown -/

/-- R18: a notice request changes the notices and the counters alone. -/
theorem Line.request_frame (now : Nat) (m : Fin 24) (v : Int) (ln : Line) : Line.request now m v ln = { ln with
    notices := (Line.request now m v ln).notices, counters := (Line.request now m v ln).counters } := by
  unfold Line.request
  split <;> rfl

theorem Line.Told.frame {now : Nat} {m : Fin 24} {ln told : Line} (h : Line.Told now m ln told) :
    told = { ln with notices := told.notices, counters := told.counters } := by
  rcases h with rfl | ⟨v, rfl | rfl⟩
  · exact Line.request_frame ..
  · rw [Line.request_frame now 16, Line.request_frame now m]
  · rw [Line.request_frame now m, Line.request_frame now 16]

theorem Line.unoffered_tornDown {ln : Line} (h : ln.state = .waiting ∨ ln.state = .offered) (now : Nat) (m : Fin 24) (text : List Byte) (why : CloseReason) :
    Line.TornDown now m text why ln (ln.unoffered now m) := by
  unfold Line.TornDown Line.torn
  rcases h with h | h
  all_goals
    simp only [h]
    rw [Line.unoffered, Line.request_frame now m 0 ln]
    rfl

theorem Line.ended_tornDown {ln told : Line} (h : ln.state = .connected) {now : Nat} {m : Fin 24} (text : List Byte) {why : CloseReason}
    (hcause : TeardownCause m why) (htold : Line.Told now m ln told) : Line.TornDown now m text why ln (Line.ended now why told) := by
  have hended : Line.ended now why told = Line.draining now { Line.request now 19 why.code told with
      rx := [], admission := none, channel := none } := by
    rcases hcause with ⟨-, rfl⟩ | ⟨-, rfl | rfl⟩ <;> simp [Line.ended, Line.draining]
  unfold Line.TornDown Line.torn
  simp only [h]
  refine ⟨told, htold, ?_⟩
  rw [hended, Line.request_frame now 19 why.code told]
  rw [htold.frame]
  rfl

/-! ## A whole teardown -/

section Teardown

variable {m : Fin 24} {why : CloseReason} {s : State} (hs : s.Coherent) (hsvc : s.mgt.service = .closed) (hcause : TeardownCause m why)

include hs hsvc hcause

theorem State.callsEnded_frame : s.callsEnded m why = { s with
    queue := [], lines := (s.callsEnded m why).lines, accounts := (s.callsEnded m why).accounts, meters := (s.callsEnded m why).meters
    channels := (s.callsEnded m why).channels, tickets := (s.callsEnded m why).tickets
    trunk := { s.trunk with controls := (s.callsEnded m why).trunk.controls } } := by
  have hframe := State.fell_frame hcause (State.cleared_callsOk (m := m) hs) (State.cleared_open (m := m) hsvc) (List.finRange 24)
  rw [← State.callsEnded_eq_fell] at hframe
  generalize s.callsEnded m why = t at hframe
  exact hframe.trans (congrArg (fun x : State => { x with
    lines := t.lines, accounts := t.accounts, meters := t.meters, channels := t.channels, tickets := t.tickets
    trunk := { x.trunk with controls := t.trunk.controls } }) (State.cleared_frame s m))

theorem State.callsEnded_channel (c : Fin 24) :
    (s.callsEnded m why).channel c = Channel.down (s.now + s.params.close * 10) why (s.channel c) := by
  have hchannel := State.fell_channel hcause (State.cleared_callsOk (m := m) hs) (State.cleared_open (m := m) hsvc) (List.nodup_finRange 24) c
  rw [← State.callsEnded_eq_fell, if_pos (List.mem_finRange c), State.cleared_channel] at hchannel
  rw [hchannel, State.cleared_frame]

theorem State.callsEnded_line (l : Fin 32) :
    Line.TornDown s.now m (s.message m) why (s.line l) ((s.callsEnded m why).line l) := by
  have hline := State.fell_line hcause (State.cleared_callsOk (m := m) hs) (State.cleared_open (m := m) hsvc) (List.nodup_finRange 24) l
  have hnow : (s.cleared m).now = s.now := by rw [State.cleared_frame]
  have hcoh := hs.2.1 l
  rw [← State.callsEnded_eq_fell, State.LineFell, hnow] at hline
  rw [State.LineCoherent] at hcoh
  have hdialogue : (s.line l).state ∈ [LineState.signon, .checking] → (s.callsEnded m why).line l = (s.line l).torn s.now (s.message m) := fun h => by
    have hnone : ((s.cleared m).line l).channel = none := by
      rcases State.cleared_line_cases (m := m) hs l with ⟨-, -, hno⟩ | ⟨-, hnone, -⟩
      · exact absurd h hno
      · exact hnone
    rw [hnone] at hline
    exact hline.trans (State.cleared_line_dialogue h)
  have hidle : (s.line l).state ∉ [LineState.signon, .checking] → (s.line l).state ≠ .waiting → (s.line l).channel = none →
      (s.callsEnded m why).line l = s.line l := fun hd hw hnone => by
    rw [State.cleared_line_other hd hw, hnone] at hline
    exact hline
  cases hst : (s.line l).state with
  | signon | checking =>
    have htorn := hdialogue (by rw [hst]; decide)
    rw [htorn, Line.TornDown, hst]
  | waiting =>
    rw [State.cleared_line_waiting hst] at hline
    have hwaited : (s.callsEnded m why).line l = (s.line l).unoffered s.now m := hline
    rw [hwaited]
    exact Line.unoffered_tornDown (.inl hst) ..
  | offered =>
    rw [hst] at hcoh
    obtain ⟨c, hc, -⟩ := hcoh
    rw [State.cleared_line_called (.inl hst), hc] at hline
    dsimp only at hline
    rw [if_pos (List.mem_finRange c), if_pos hst] at hline
    rw [hline]
    exact Line.unoffered_tornDown (.inr hst) ..
  | connected =>
    rw [hst] at hcoh
    obtain ⟨c, hc, -⟩ := hcoh
    rw [State.cleared_line_called (.inr hst), hc] at hline
    dsimp only at hline
    rw [if_pos (List.mem_finRange c), if_neg (by rw [hst]; decide)] at hline
    obtain ⟨told, htold, ht⟩ := hline
    rw [ht]
    exact Line.ended_tornDown hst _ hcause htold
  | idle | ringing | answering | draining | clearing | blocked =>
    rw [hst] at hcoh
    rw [hidle (by rw [hst]; decide) (by rw [hst]; decide) hcoh.1, Line.TornDown, hst, Line.torn, hst]

end Teardown

end Sys2Proof.Machine
end

section
/-! The control queue of CLOSE SERVICE (R175, R192), and the machine's teardowns as the ones that are described (R172, R192, R193). -/

namespace Sys2Proof.Machine

open Sys2Proof

/-! ## The control queue -/

theorem mem_joinControls {q : List Control} {c x : Control} : x ∈ joinControls q c ↔ x = c ∨ x ∈ q ∧ c.sameSlot x = false := by
  unfold joinControls
  split
  · next hany =>
    obtain ⟨y, hy, hslot⟩ := List.any_eq_true.mp hany
    rw [List.mem_map]
    constructor
    · rintro ⟨z, hz, rfl⟩
      split
      · exact .inl rfl
      · next hno => exact .inr ⟨hz, Bool.eq_false_iff.mpr hno⟩
    · rintro (rfl | ⟨hx, hno⟩)
      · exact ⟨y, hy, if_pos hslot⟩
      · exact ⟨x, hx, if_neg (Bool.eq_false_iff.mp hno)⟩
  · next hany =>
    have hno : ∀ y ∈ q, c.sameSlot y = false := fun y hy => Bool.eq_false_iff.mpr fun h => hany (List.any_eq_true.mpr ⟨y, hy, h⟩)
    rw [List.mem_append, List.mem_singleton]
    exact ⟨fun h => h.elim (fun h => .inr ⟨h, hno x h⟩) .inl, fun h => h.elim .inr fun h => .inl h.1⟩

/-- A channel in OFFERED or CONNECTED. -/
def Channel.called (x : Channel) : Prop := x.state ∈ [ChannelState.offered, .connected]

/-- R175, R192: the queue `q` once the channels `cs` of `u` are closed by the operator. -/
structure State.QueueFell (cs : List (Fin 24)) (u : State) (q : List Control) : Prop where
  closed : ∀ c ∈ cs, (u.channel c).called → (⟨c, .close .operator⟩ : Control) ∈ q
  origin : ∀ x ∈ q, x = ⟨x.channel, .close .operator⟩ ∧ (u.channel x.channel).called ∨
    x ∈ u.trunk.controls ∧ (x.channel ∈ cs → (u.channel x.channel).state ≠ .connected)
  kept : ∀ x ∈ u.trunk.controls, ¬ (u.channel x.channel).called → x ∈ q

theorem sameSlot_other {c : Fin 24} {k : ControlKind} {x : Control} (h : x.channel ≠ c) : Control.sameSlot ⟨c, k⟩ x = false := by
  rw [Control.sameSlot, decide_eq_false (fun h' => h h'.symm), Bool.false_and]

/-- The queue after the operator's close of a called channel: its CLOSE, and what stood there before. -/
theorem mem_controlsDown {c : Fin 24} {x : Channel} (hx : x.called) {q : List Control} {k : Control} :
    k ∈ controlsDown c .operator x q →
      k = ⟨c, .close .operator⟩ ∨ k ∈ q ∧ (k.channel = c → x.state ≠ .connected) := by
  intro hk
  rcases List.mem_cons.mp hx with h | h
  · rw [controlsDown, h] at hk
    rcases mem_joinControls.mp hk with rfl | ⟨hk, -⟩
    · exact .inl rfl
    · exact .inr ⟨hk, fun _ => by rw [h]; decide⟩
  · rw [controlsDown, List.mem_singleton.mp h] at hk
    rcases mem_joinControls.mp hk with rfl | ⟨hk, hslot⟩
    · exact .inl rfl
    · obtain ⟨hk, hkeep⟩ := List.mem_filter.mp hk
      refine .inr ⟨hk, fun hc => ?_⟩
      have hzero : k.kind.slot = 0 := by simpa [hc] using hkeep
      rw [Control.sameSlot, decide_eq_true hc.symm, Bool.true_and] at hslot
      exact absurd hzero.symm (of_decide_eq_false hslot)

theorem controlsDown_closed {c : Fin 24} {x : Channel} (hx : x.called) (q : List Control) :
    (⟨c, .close .operator⟩ : Control) ∈ controlsDown c .operator x q := by
  rcases List.mem_cons.mp hx with h | h
  · rw [controlsDown, h]
    exact mem_joinControls.mpr (.inl rfl)
  · rw [controlsDown, List.mem_singleton.mp h]
    exact mem_joinControls.mpr (.inl rfl)

theorem controlsDown_other {c : Fin 24} {x : Channel} {q : List Control} {k : Control} (hk : k ∈ q) (hc : k.channel ≠ c) :
    k ∈ controlsDown c .operator x q := by
  have hfilter : k ∈ q.filter fun x => decide (x.channel ≠ c) || decide (x.kind.slot = 0) := by simp [hk, hc]
  unfold controlsDown
  split
  · exact mem_joinControls.mpr (.inr ⟨hk, sameSlot_other hc⟩)
  · exact mem_joinControls.mpr (.inr ⟨hfilter, sameSlot_other hc⟩)
  all_goals exact hk

theorem controlsDown_uncalled {c : Fin 24} {x : Channel} (hx : ¬ x.called) (q : List Control) : controlsDown c .operator x q = q := by
  cases h : x.state with
  | offered | connected => exact absurd (show x.state ∈ _ by rw [h]; decide) hx
  | free | closing | quarantined => rw [controlsDown, h]

theorem State.fell_controls {u : State} (hu : u.CallsOk) (hsvc : u.mgt.service ≠ .draining) {cs : List (Fin 24)} (hcs : cs.Nodup) :
    State.QueueFell cs u (u.fell 21 .operator cs).trunk.controls := by
  have hcause : TeardownCause 21 .operator := .inr ⟨rfl, .inl rfl⟩
  induction cs using List.reverseRecOn with
  | nil =>
    rw [State.fell_nil]
    exact {
      closed := fun c hc => absurd hc List.not_mem_nil
      origin := fun x hx => .inr ⟨hx, fun h => absurd h List.not_mem_nil⟩
      kept := fun x hx _ => hx }
  | append_singleton cs c ih =>
    obtain ⟨hnodup, -, hc⟩ := List.nodup_append.mp hcs
    have hfresh : c ∉ cs := fun h => hc c h c (List.mem_singleton_self c) rfl
    obtain ⟨hclosed, horigin, hkept⟩ := ih hnodup
    have hstep := (State.fell_step hcause hu hsvc cs c).controls
    rw [State.fell_channel hcause hu hsvc hnodup c, if_neg hfresh] at hstep
    rw [hstep]
    by_cases hcalled : (u.channel c).called
    · refine { closed := fun d hd hdc => ?_, origin := fun x hx => ?_, kept := fun x hx hno => ?_ }
      · by_cases hdc' : d = c
        · subst hdc'
          exact controlsDown_closed hcalled _
        · refine controlsDown_other (hclosed d ?_ hdc) hdc'
          rcases List.mem_append.mp hd with h | h
          · exact h
          · exact absurd (List.mem_singleton.mp h) hdc'
      · rcases mem_controlsDown hcalled hx with rfl | ⟨hx, hconn⟩
        · exact .inl ⟨rfl, hcalled⟩
        · rcases horigin x hx with h | ⟨hxu, hcs⟩
          · exact .inl h
          · refine .inr ⟨hxu, fun h => ?_⟩
            rcases List.mem_append.mp h with h | h
            · exact hcs h
            · have hxc := List.mem_singleton.mp h
              rw [hxc]
              exact hconn hxc
      · refine controlsDown_other (hkept x hx hno) fun hxc => hno ?_
        rw [hxc]
        exact hcalled
    · rw [controlsDown_uncalled hcalled]
      refine { closed := fun d hd hdc => hclosed d ?_ hdc, origin := fun x hx => ?_, kept := hkept }
      · rcases List.mem_append.mp hd with h | h
        · exact h
        · rw [List.mem_singleton.mp h] at hdc
          exact absurd hdc hcalled
      · refine (horigin x hx).imp_right fun ⟨hxu, hcs⟩ => ⟨hxu, fun h => ?_⟩
        rcases List.mem_append.mp h with h | h
        · exact hcs h
        · rw [List.mem_singleton.mp h]
          exact fun hconn => hcalled (by rw [Channel.called, hconn]; decide)

/-! ## The machine's teardown -/

section Machine

variable {s : State} (hs : s.Coherent)

theorem State.dialoguesEnded_queueCoherent (hs : s.Coherent) (text : List Byte) : (s.dialoguesEnded text).QueueCoherent := by
  have hq : (s.dialoguesEnded text).queue = s.queue := by simp only [State.dialoguesEnded]
  obtain ⟨hnodup, hlines, hsorted⟩ := hs.2.2.2.1
  unfold State.QueueCoherent
  rw [hq]
  refine ⟨hnodup, fun l => (hlines l).trans ?_, hsorted⟩
  have hwaits := (State.dialoguesEnded_waits hs text l).1
  rw [State.waits, State.waits, decide_eq_decide] at hwaits
  exact hwaits.symm

/-- R172 steps 3 and 4, R192 steps 2 and 3. -/
theorem removeAllWaiters_abandonAll (hs : s.Coherent) (hsvc : s.mgt.service ≠ .draining) (m : Fin 24) :
    removeAllWaiters m (abandonAll m s) = s.cleared m := by
  have hsvc' : (s.dialoguesEnded (s.message m)).mgt.service ≠ .draining := by simp only [State.dialoguesEnded]; exact hsvc
  rw [abandonAll_eq m hsvc, removeAllWaiters_eq m hsvc' (State.dialoguesEnded_queueCoherent hs _), State.cleared]
  intro l hl
  obtain ⟨hwaits, hadmission⟩ := State.dialoguesEnded_waits hs (s.message m) l
  rw [State.waits, State.waits, decide_eq_decide] at hwaits
  have hline := hs.2.1 l
  rw [State.LineCoherent, hwaits.mp hl] at hline
  rw [hadmission]
  exact hline.2

/-- The channels in turn, by any step that takes a coherent channel down. -/
theorem foldl_eq_fell {m : Fin 24} {why : CloseReason} (hcause : TeardownCause m why) {f : State → Fin 24 → State}
    (hf : ∀ u c, u.Coherent → u.mgt.service ≠ .draining → f u c = u.channelDown m why c) {u : State} (hu : u.CallsOk)
    (hsvc : u.mgt.service ≠ .draining) (cs : List (Fin 24)) : cs.foldl f u = u.fell m why cs := by
  induction cs using List.reverseRecOn with
  | nil => rw [State.fell_nil, List.foldl_nil]
  | append_singleton cs c ih =>
    rw [List.foldl_concat, ih, State.fell_concat]
    refine hf _ c (State.fell_coherent hcause hu hsvc cs) ?_
    rw [(State.fell_ok hcause hu hsvc cs).2]
    exact hsvc

variable (hclosed : s.mgt.service = .closed)

include hs hclosed

/-- R192 steps 2 to 4, R193. -/
theorem serviceCloseAll_eq_callsEnded {why : CloseReason} (hwhy : why = .operator ∨ why = .restart) :
    serviceCloseAll why (removeAllWaiters Config.mClosing (abandonAll Config.mClosing s)) = s.callsEnded 21 why := by
  have hopen : s.mgt.service ≠ .draining := fun h => absurd (hclosed.symm.trans h) (by decide)
  have hlost : why ≠ .hostLost := by rcases hwhy with rfl | rfl <;> decide
  rw [show Config.mClosing = 21 from rfl, removeAllWaiters_abandonAll hs hopen, State.callsEnded_eq_fell]
  exact foldl_eq_fell (.inr ⟨rfl, hwhy⟩) (fun u c hu hsvc => serviceCloseChannel_eq why c hlost hsvc (hu.takenDown c))
    (State.cleared_callsOk hs) (State.cleared_open hclosed) _

/-- R172 steps 3 to 5. -/
theorem loseChannels_eq_callsEnded :
    loseChannels (removeAllWaiters Config.mDown (abandonAll Config.mDown s)) = s.callsEnded 20 .hostLost := by
  have hopen : s.mgt.service ≠ .draining := fun h => absurd (hclosed.symm.trans h) (by decide)
  rw [show Config.mDown = 20 from rfl, removeAllWaiters_abandonAll hs hopen, State.callsEnded_eq_fell]
  exact foldl_eq_fell (.inl ⟨rfl, rfl⟩) (fun u c hu hsvc => loseChannel_eq c hsvc (hu.takenDown c))
    (State.cleared_callsOk hs) (State.cleared_open hclosed) _

end Machine

end Sys2Proof.Machine
end

section
/-! CLOSE SERVICE, RESTART and trunk loss (R172, R192, R193). -/

namespace Sys2Proof.Machine

open Sys2Proof

/-! ## CLOSE SERVICE (R192) -/

section Teardown

variable {s : State} {m : Fin 24} {why : CloseReason} {t u : State}

/-- The state with its service closed, its trunk and its clock as given. -/
def State.shut (s : State) (now : Nat) (trunk : Trunk) : State :=
  { s with now := now, trunk := trunk, mgt := { s.mgt with service := .closed } }

theorem setService_shut (s : State) : setService .closed s = s.shut s.now s.trunk := rfl

theorem State.Coherent.shut (hs : s.Coherent) (now : Nat) (trunk : Trunk) : (s.shut now trunk).Coherent := hs

/-- The teardown of a state is that of the state whose service it closed, and what follows may touch the lines but for their calls. -/
theorem State.TornDown.after {now : Nat} {trunk : Trunk} (h : (s.shut now trunk).TornDown why t) (hservice : u.mgt.service = t.mgt.service)
    (hqueue : u.queue = t.queue) (hmeter : u.meters = t.meters) (haccount : u.accounts = t.accounts) (htickets : u.tickets = t.tickets)
    (hline : ∀ l, (u.line l).admission = (t.line l).admission ∧ (u.line l).channel = (t.line l).channel) : s.TornDown why u := by
  have hm : ∀ c, u.meter c = t.meter c := fun c => by rw [State.meter, State.meter, hmeter]
  have ha : ∀ a, u.account a = t.account a := fun a => by rw [State.account, State.account, haccount]
  have hr : ∀ r, u.row r = t.row r := fun r => by rw [State.row, State.row, htickets]
  unfold State.TornDown at h ⊢
  simp only [hservice, hqueue, hm, ha, hr, htickets, hline]
  exact h

theorem State.TornDown.replied {now : Nat} {trunk : Trunk} (h : (s.shut now trunk).TornDown why t) (tag code : Byte) (r : Result) (data : List Byte) :
    s.TornDown why (t.replied tag code r data) :=
  h.after rfl rfl rfl rfl rfl fun _ => ⟨rfl, rfl⟩

end Teardown

/-- R192 steps 1 to 4, R193 step 1. -/
theorem teardown_shut {s : State} (hs : s.Coherent) {why : CloseReason} (hwhy : why = .operator ∨ why = .restart) :
    teardown why s = (s.shut s.now s.trunk).callsEnded 21 why := by
  rw [teardown, setService_shut]
  exact serviceCloseAll_eq_callsEnded (hs.shut _ _) rfl hwhy

/-- R175, R192: the control queue after CLOSE SERVICE. -/
theorem State.Coherent.shut_queueFell {s : State} (hs : s.Coherent) :
    State.QueueFell (List.finRange 24) s ((s.shut s.now s.trunk).callsEnded 21 .operator).trunk.controls := by
  have h0 := hs.shut s.now s.trunk
  have hclosed : (s.shut s.now s.trunk).mgt.service = .closed := rfl
  have htrunk : ((s.shut s.now s.trunk).cleared 21).trunk = s.trunk := by rw [State.cleared_frame]; rfl
  obtain ⟨hjoined, horigin, hkept⟩ :=
    State.fell_controls (State.cleared_callsOk (m := 21) h0) (State.cleared_open (m := 21) hclosed) (List.nodup_finRange 24)
  rw [← State.callsEnded_eq_fell] at hjoined horigin hkept
  simp only [State.cleared_channel, htrunk] at hjoined horigin hkept
  exact { closed := hjoined, origin := horigin, kept := hkept }

/-- Settles O43: each channel in turn takes its call down, after the dialogues and the waiters, and its CLOSE joins the control queue. -/
theorem closeService : Obligations.CloseService := by
  unfold Obligations.CloseService
  intro s tag hready hs
  have h0 := hs.shut s.now s.trunk
  have hcause : TeardownCause 21 .operator := .inr ⟨rfl, .inl rfl⟩
  have hclosed : (s.shut s.now s.trunk).mgt.service = .closed := rfl
  have hexec := teardown_shut hs (.inl rfl : CloseReason.operator = .operator ∨ _)
  have hcontrols := hs.shut_queueFell
  have hframe := State.callsEnded_frame h0 hclosed hcause
  have htorn := State.callsEnded_tornDown h0 hclosed hcause
  have hline := State.callsEnded_line h0 hclosed hcause
  have hchannel := State.callsEnded_channel h0 hclosed hcause
  rw [show ({ s with mgt := { s.mgt with service := .closed } } : State) = s.shut s.now s.trunk from rfl]
  generalize (s.shut s.now s.trunk).callsEnded 21 .operator = e at *
  refine ⟨?_, ?_, htorn.replied .., hline, fun c => ?_, fun c hc => hcontrols.closed c (List.mem_finRange c) hc, fun x hx => ?_,
    fun x hx hno => hcontrols.kept x hx hno⟩
  · exact command_answers hready (congrArg (·, done) hexec)
  · exact congrArg (fun x : State => x.replied tag 0x82 .done []) hframe
  · refine (hchannel c).trans ?_
    have hk : (s.shut s.now s.trunk).channel c = s.channel c := rfl
    rw [hk]
    cases hst : (s.channel c).state <;> simp only [Channel.down, hst]
    all_goals rfl
  · exact (hcontrols.origin x hx).imp_right fun ⟨hxs, hconn⟩ => ⟨hxs, hconn (List.mem_finRange _)⟩

end Sys2Proof.Machine
end

section
/-! RESTART and trunk loss (R172, R193). -/

namespace Sys2Proof.Machine

open Sys2Proof

/-! ## What RESTART does after the teardown (R193 steps 2 to 7) -/

/-- R193: a channel without a call. -/
def Channel.freed (x : Channel) : Channel := { x with state := .free, line := none, row := none, timer := none }

theorem foldl_freeChannel_frame (cs : List (Fin 24)) (e : State) : cs.foldl (fun u c => freeChannel c u) e =
    { e with channels := (cs.foldl (fun u c => freeChannel c u) e).channels } := by
  induction cs using List.reverseRecOn with
  | nil => rfl
  | append_singleton cs c ih =>
    rw [List.foldl_concat]
    generalize cs.foldl (fun u c => freeChannel c u) e = t at ih
    exact congrArg (fun x : State => { x with channels := (freeChannel c t).channels }) ih

theorem foldl_freeChannel_channel (cs : List (Fin 24)) (e : State) (d : Fin 24) :
    (cs.foldl (fun u c => freeChannel c u) e).channel d = if d ∈ cs then (e.channel d).freed else e.channel d := by
  induction cs using List.reverseRecOn with
  | nil => rfl
  | append_singleton cs c ih =>
    rw [List.foldl_concat]
    generalize cs.foldl (fun u c => freeChannel c u) e = t at ih
    have hset : (freeChannel c t).channel d = if d = c then (t.channel c).freed else t.channel d := State.setChannel_channel t c d _
    rw [hset]
    by_cases hd : d = c
    · subst hd
      have hmem : d ∈ cs ++ [d] := List.mem_append_right _ (List.mem_singleton_self d)
      rw [if_pos rfl, ih, if_pos hmem]
      split <;> rfl
    · rw [if_neg hd, ih]
      simp [hd]

theorem freeAllChannels_eq (e : State) : freeAllChannels e = { e with channels := Vector.ofFn fun c => (e.channel c).freed } := by
  have hchannels : (freeAllChannels e).channels = Vector.ofFn fun c => (e.channel c).freed := by
    refine Vector.ext fun i hi => ?_
    rw [Vector.getElem_ofFn]
    exact (foldl_freeChannel_channel allChannels e ⟨i, hi⟩).trans (if_pos (List.mem_finRange _))
  have hframe : freeAllChannels e = { e with channels := (freeAllChannels e).channels } := foldl_freeChannel_frame allChannels e
  rw [hframe, hchannels]

/-- R52, R59: the stage after RESTART. -/
theorem Stage.restart_eq (g : Stage) : Stage.restart g =
    if g.write = .none then ⟨.empty, none, [], .none, none, false⟩
    else if g.write = .page then g
    else { g with page := none, staged := [], timer := none } := by
  unfold Stage.restart
  cases g.write <;> rfl

/-- R25, R172: a torn line loses its notices and its counters. -/
theorem Line.TornDown.silenced {now : Nat} {m : Fin 24} {text : List Byte} {why : CloseReason} {ln t : Line}
    (h : Line.TornDown now m text why ln t) :
    { t with notices := [], counters := ⟨0, 0, 0, 0⟩ } = { ln.torn now text with notices := [], counters := ⟨0, 0, 0, 0⟩ } := by
  unfold Line.TornDown at h
  split at h
  case h_3 =>
    obtain ⟨told, -, rfl⟩ := h
    rfl
  all_goals
    subst h
    rfl

/-- R193: the state after a RESTART with tag `tag`, `e` being what the teardown left. -/
@[irreducible] def State.restarted (e : State) (tag : Byte) : State :=
  { e with
    lines := Vector.ofFn fun l => { e.line l with notices := [], counters := ⟨0, 0, 0, 0⟩ }
    channels := Vector.ofFn fun c => (e.channel c).freed
    dir := { e.dir with stage := Stage.restart e.dir.stage }
    trunk := { e.trunk with controls := [], announced := Vector.replicate 24 .go, counters := ⟨0, 0, 0, 0⟩ }
    mgt := { e.mgt with held := none, replies := [⟨tag, 0x83, .done, []⟩] } }

section Restarted

variable (e : State) (tag : Byte)

theorem State.restarted_frame : e.restarted tag = { e with
    lines := (e.restarted tag).lines, channels := (e.restarted tag).channels, dir := (e.restarted tag).dir
    trunk := { e.trunk with controls := [], announced := Vector.replicate 24 .go, counters := ⟨0, 0, 0, 0⟩ }
    mgt := { e.mgt with held := none, replies := [⟨tag, 0x83, .done, []⟩] } } := by
  simp only [State.restarted]

theorem State.restarted_line (l : Fin 32) : (e.restarted tag).line l = { e.line l with notices := [], counters := ⟨0, 0, 0, 0⟩ } := by
  simp only [State.restarted, State.line, Vector.getElem_ofFn, Fin.getElem_fin]

theorem State.restarted_channel (c : Fin 24) : (e.restarted tag).channel c = (e.channel c).freed := by
  simp only [State.restarted, State.channel, Vector.getElem_ofFn, Fin.getElem_fin]

/-- R193 steps 2 to 7. -/
theorem restartSteps_replied : (restartManagement (restartLines ((restartTrunk (freeAllChannels e)).updStage Stage.restart))).replied tag 0x83 .done [] =
    e.restarted tag := by
  simp only [freeAllChannels_eq, State.restarted, restartManagement, restartLines, restartTrunk, State.updTrunk, State.updStage, State.updMgt,
    State.replied, List.nil_append, LineCounters.zero, TrunkCounters.zero]
  rfl

theorem exec_restart {s : State} (hready : s.Ready) (he : teardown .restart s = e) : exec (.restart tag) s = .next (e.restarted tag) := by
  have hcmd : exec (.restart tag) s = command tag 0x83 [] cmdRestart s := rfl
  have hown : cmdRestart s = (restartManagement (restartLines ((restartTrunk (freeAllChannels e)).updStage Stage.restart)), .reply .done []) := by
    rw [← he]
    rfl
  rw [hcmd, command_answers hready hown, restartSteps_replied]

end Restarted

/-- R139, R146: the channel once it was taken down with a reason that the host did not give, and freed. -/
theorem Channel.down_freed (timeout : Nat) {why : CloseReason} (hwhy : why = .hostLost ∨ why = .restart) (x : Channel) :
    (Channel.down timeout why x).freed = { x with
      state := .free, line := none, row := none, timer := none
      hostFlow := if x.state = .connected then .go else x.hostFlow
      lastClose := if x.state = .connected then why.code else x.lastClose } := by
  unfold Channel.down
  rcases hwhy with rfl | rfl <;> cases hst : x.state <;> rfl

/-- Settles O44: the teardown with reason RESTART, then the channels freed and the line, directory, trunk and management units reset. -/
theorem restart : Obligations.Restart := by
  unfold Obligations.Restart
  intro s tag hready hs
  have h0 := hs.shut s.now s.trunk
  have hcause : TeardownCause 21 .restart := .inr ⟨rfl, .inr rfl⟩
  have hclosed : (s.shut s.now s.trunk).mgt.service = .closed := rfl
  have hexec := exec_restart _ tag hready (teardown_shut hs (.inr rfl : _ ∨ CloseReason.restart = .restart))
  have hframe := State.callsEnded_frame h0 hclosed hcause
  have htorn := State.callsEnded_tornDown h0 hclosed hcause
  have hline := State.callsEnded_line h0 hclosed hcause
  have hchannel := State.callsEnded_channel h0 hclosed hcause
  rw [show ({ s with mgt := { s.mgt with service := .closed } } : State) = s.shut s.now s.trunk from rfl]
  generalize (s.shut s.now s.trunk).callsEnded 21 .restart = e at *
  have hdir : e.dir = s.dir := by rw [hframe]; rfl
  rw [← Stage.restart_eq, ← hdir]
  intro e' t
  have ht : t = e.restarted tag := by simp only [State.restarted]; rfl
  clear_value t
  subst ht
  have hrest := State.restarted_frame e tag
  have hlines := State.restarted_line e tag
  have hchannels := State.restarted_channel e tag
  generalize e.restarted tag = t at *
  have hmeter : t.meters = e.meters := by rw [hrest]
  have haccount : t.accounts = e.accounts := by rw [hrest]
  have htickets : t.tickets = e.tickets := by rw [hrest]
  refine ⟨hexec, ?_, ?_, fun l => ?_, fun c => ?_⟩
  · rw [hmeter, haccount, htickets]
    refine hrest.trans ?_
    generalize t.lines = lines
    generalize t.channels = channels
    generalize t.dir = dir
    exact congrArg (fun x : State => { x with
      lines := lines, channels := channels, dir := dir
      trunk := { x.trunk with controls := [], announced := Vector.replicate 24 .go, counters := ⟨0, 0, 0, 0⟩ }
      mgt := { x.mgt with held := none, replies := [⟨tag, 0x83, .done, []⟩] } }) hframe
  · refine htorn.after ?_ ?_ hmeter haccount htickets fun l => ?_
    · rw [hrest]
    · rw [hrest]
    · rw [hlines]
      exact ⟨rfl, rfl⟩
  · rw [hlines]
    exact (hline l).silenced
  · rw [hchannels, hchannel]
    exact Channel.down_freed _ (.inr rfl) _

/-! ## TRUNK_LOSS (R172) -/

theorem dropPartial_eq (s : State) : dropPartial s = { s with mgt := { s.mgt with
    held := none
    replies := s.mgt.replies ++ (match s.mgt.held with | some p => [⟨p.tag, p.code, .badValue, []⟩] | none => []) } } := by
  cases h : s.mgt.held with
  | some p =>
    simp only [dropPartial, h]
    rfl
  | none =>
    simp only [dropPartial, h, List.append_nil]
    rw [← h]

/-- R172: the state after a trunk loss, `e` being what the teardown left. -/
@[irreducible] def State.disconnected (e : State) : State :=
  { e with
    trunk := { e.trunk with controls := [], announced := Vector.replicate 24 .go }
    mgt := { e.mgt with
      held := none
      replies := e.mgt.replies ++ (match e.mgt.held with | some p => [⟨p.tag, p.code, .badValue, []⟩] | none => []) } }

theorem State.disconnected_frame (e : State) : e.disconnected = { e with
    trunk := { e.trunk with controls := [], announced := Vector.replicate 24 .go }
    mgt := { e.mgt with held := none, replies := e.disconnected.mgt.replies } } := by
  simp only [State.disconnected]

theorem dropPartial_emptyControls (e : State) : dropPartial (emptyControls e) = e.disconnected := by
  rw [dropPartial_eq]
  simp only [State.disconnected, emptyControls, State.updTrunk]

/-- R172 steps 1 and 2. -/
theorem trunkDown_shut (s : State) (now : Nat) :
    trunkDown { s with now := now } = s.shut now { s.trunk with up := false, lossTimer := none } := rfl

theorem exec_trunkLoss {s : State} (hreset : s.inReset = false) (hs : s.Coherent) {d : Nat} (hd : s.trunk.lossTimer = some d) : exec .trunkLoss s =
    .next ((s.shut (max s.now d) { s.trunk with up := false, lossTimer := none }).callsEnded 20 .hostLost).disconnected := by
  have hexec : exec .trunkLoss s = whenRunning s fun s => whenDue s.trunk.lossTimer s loseTrunk := rfl
  rw [hexec, whenRunning_run hreset, hd, whenDue_some, loseTrunk, trunkDown_shut, loseChannels_eq_callsEnded (hs.shut _ _) rfl,
    dropPartial_emptyControls]

/-- R146, R172 step 5: the host being lost frees every channel. -/
theorem State.Coherent.hostLost_freed {s : State} (hs : s.Coherent) (timeout : Nat) (c : Fin 24) :
    Channel.down timeout .hostLost (s.channel c) = (Channel.down timeout .hostLost (s.channel c)).freed := by
  have hc := hs.1 c
  unfold Channel.down
  cases hst : (s.channel c).state with
  | free =>
    rw [State.ChannelCoherent, hst] at hc
    obtain ⟨-, hrow, hline, htimer⟩ := hc
    dsimp only
    rw [Channel.freed, ← hst, ← hrow, ← hline, ← htimer]
  | offered | connected | closing | quarantined => rfl

/-- Settles O45: the trunk down and the service closed, then the teardown with reason HOST LOST. -/
theorem trunkLoss : Obligations.TrunkLoss := by
  unfold Obligations.TrunkLoss
  intro s hreset hs d hd
  have h0 := hs.shut (max s.now d) { s.trunk with up := false, lossTimer := none }
  have hcause : TeardownCause 20 .hostLost := .inl ⟨rfl, rfl⟩
  have hclosed : (s.shut (max s.now d) { s.trunk with up := false, lossTimer := none }).mgt.service = .closed := rfl
  have hexec := exec_trunkLoss hreset hs hd
  have hframe := State.callsEnded_frame h0 hclosed hcause
  have htorn := State.callsEnded_tornDown h0 hclosed hcause
  have hline := State.callsEnded_line h0 hclosed hcause
  have hchannel := State.callsEnded_channel h0 hclosed hcause
  intro now
  rw [show ({ s with
      now := now, trunk := { s.trunk with up := false, lossTimer := none }
      mgt := { s.mgt with service := .closed } } : State) = s.shut now { s.trunk with up := false, lossTimer := none } from rfl]
  change exec .trunkLoss s = .next ((s.shut now { s.trunk with up := false, lossTimer := none }).callsEnded 20 .hostLost).disconnected at hexec
  generalize (s.shut now { s.trunk with up := false, lossTimer := none }).callsEnded 20 .hostLost = e at *
  have hheld : e.mgt.held = s.mgt.held := by rw [hframe]; rfl
  have hreplies : e.mgt.replies = s.mgt.replies := by rw [hframe]; rfl
  rw [← hheld, ← hreplies]
  intro e' t
  have ht : t = e.disconnected := by simp only [State.disconnected]; rfl
  clear_value t
  subst ht
  have hrest := State.disconnected_frame e
  generalize e.disconnected = t at *
  have hmeter : t.meters = e.meters := by rw [hrest]
  have haccount : t.accounts = e.accounts := by rw [hrest]
  have htickets : t.tickets = e.tickets := by rw [hrest]
  have hlines : t.lines = e.lines := by rw [hrest]
  have hchannels : t.channels = e.channels := by rw [hrest]
  have htline : ∀ l, t.line l = e.line l := fun l => by rw [State.line, hlines, State.line]
  have htchannel : ∀ c, t.channel c = e.channel c := fun c => by rw [State.channel, hchannels, State.channel]
  refine ⟨hexec, ?_, ?_, fun l => ?_, fun c => ?_⟩
  · rw [hmeter, haccount, htickets, hlines, hchannels]
    refine hrest.trans ?_
    generalize t.mgt.replies = replies
    exact congrArg (fun x : State => { x with
      trunk := { x.trunk with controls := [], announced := Vector.replicate 24 .go }
      mgt := { x.mgt with held := none, replies := replies } }) hframe
  · refine htorn.after ?_ ?_ hmeter haccount htickets fun l => ?_
    · rw [hrest]
    · rw [hrest]
    · rw [htline]
      exact ⟨rfl, rfl⟩
  · rw [htline]
    exact hline l
  · have hdown := hchannel c
    have hk : (s.shut now { s.trunk with up := false, lossTimer := none }).channel c = s.channel c := rfl
    rw [hk, hs.hostLost_freed, Channel.down_freed _ (.inl rfl)] at hdown
    exact (htchannel c).trans hdown

end Sys2Proof.Machine
end

section
/-! The upward block (R174, R176): the controls taken from the head, then one turn of the channels. -/

namespace Sys2Proof.Machine

open Sys2Proof

/-! ## The controls (R174 step 1) -/

/-- R174, R199: the framer's segment of a control. -/
theorem Control.bytes_eq (x : Control) : x.bytes = upwardSegment x := by
  obtain ⟨c, k⟩ := x
  have hheader : byteOf (0x41 + c.val) = controlHeader c := congrArg byteOf (Nat.add_right_comm 0x40 1 c.val)
  rw [upwardSegment, hheader]
  cases k with
  | opened l user account cls => rfl
  | close why => rfl
  | closed => rfl
  | flow f => cases f <;> rfl
  | lineBreak => rfl

/-- R174 step 1: `k` controls of `q` fit in `space`, and one more does not. -/
structure ControlsFit (space : Nat) (q : List Control) (k : Nat) : Prop where
  count : k ≤ q.length
  fits : ((q.take k).flatMap upwardSegment).length ≤ space
  next : ∀ x, q[k]? = some x → space < ((q.take k).flatMap upwardSegment).length + (upwardSegment x).length

theorem takeControls_fit (q : List Control) (space : Nat) :
    ∃ k, takeControls space q = ((q.take k).flatMap upwardSegment, q.drop k) ∧ ControlsFit space q k := by
  induction q generalizing space with
  | nil => exact ⟨0, rfl, { count := Nat.zero_le _, fits := Nat.zero_le _, next := fun x hx => by cases hx }⟩
  | cons c t ih =>
    rw [takeControls]
    split
    · next hfit =>
      rw [Control.bytes_eq] at hfit ⊢
      obtain ⟨k, htake, hcount, hfits, hnext⟩ := ih (space - (upwardSegment c).length)
      refine ⟨k + 1, ?_, { count := Nat.succ_le_succ hcount, fits := ?_, next := fun x hx => ?_ }⟩
      · rw [htake, List.take_succ_cons, List.flatMap_cons, List.drop_succ_cons]
      · rw [List.take_succ_cons, List.flatMap_cons, List.length_append]
        omega
      · have h := hnext x hx
        rw [List.take_succ_cons, List.flatMap_cons, List.length_append]
        omega
    · next hfit =>
      rw [Control.bytes_eq] at hfit
      refine ⟨0, rfl, { count := Nat.zero_le _, fits := Nat.zero_le _, next := fun x hx => ?_ }⟩
      obtain rfl : c = x := Option.some.inj hx
      simpa using hfit

/-! ## One turn of the channels (R176) -/

/-- R176: the channels after the pointer, then the rest. -/
theorem turn_eq (p : Fin 24) : turn p =
    ((List.finRange 24).filter fun c => decide (p < c)) ++ (List.finRange 24).filter fun c => decide (c ≤ p) := by
  revert p
  decide

theorem turn_nodup (p : Fin 24) : (turn p).Nodup := by
  revert p
  decide

/-- R176: the segments' bytes. -/
def State.givenBytes (s : State) (given : List (Fin 24 × Fin 32 × Nat)) : List Byte :=
  given.flatMap fun x => [byteOf (x.1.val + 1), byteOf x.2.2] ++ (s.line x.2.1).rx.take x.2.2

/-- R176: the number of characters that line `l` gave. -/
def givenOf (given : List (Fin 24 × Fin 32 × Nat)) (l : Fin 32) : Nat := ((given.filter fun x => decide (x.2.1 = l)).map (·.2.2)).sum

/-- R176: the pointer after the segments. -/
def pointerAfter (p : Fin 24) (given : List (Fin 24 × Fin 32 × Nat)) : Fin 24 :=
  match given.getLast? with
  | some x => x.1
  | none => p

theorem pointerAfter_cons (p : Fin 24) (x : Fin 24 × Fin 32 × Nat) (given : List (Fin 24 × Fin 32 × Nat)) :
    pointerAfter p (x :: given) = pointerAfter x.1 given := by
  unfold pointerAfter
  rw [List.getLast?_cons]
  cases given.getLast? <;> rfl

/-- `u` with the payload `r` is what the segments `given` make of `s` with the payload `pay`, the receive FIFOs being those of `base`. -/
structure State.Given (base s : State) (pay : List Byte) (given : List (Fin 24 × Fin 32 × Nat)) (u : State) (r : List Byte) : Prop where
  payload : r = pay ++ base.givenBytes given
  fits : r.length ≤ 61
  frame : u = { s with lines := u.lines, trunk := { s.trunk with pointer := pointerAfter s.trunk.pointer given } }
  line : ∀ l, u.line l = { s.line l with rx := (s.line l).rx.drop (givenOf given l) }

theorem State.Given.nil {base s : State} {pay : List Byte} (h : pay.length ≤ 61) : State.Given base s pay [] s pay where
  payload := (List.append_nil pay).symm
  fits := h
  frame := rfl
  line _ := rfl

/-- Two connected channels have two lines. -/
def State.LinesApart (s : State) : Prop :=
  ∀ c d l, (s.channel c).state = .connected → (s.channel d).state = .connected → (s.channel c).line = some l → (s.channel d).line = some l → c = d

theorem State.Coherent.linesApart {s : State} (hs : s.Coherent) : s.LinesApart := by
  intro c d l hc hd hcl hdl
  have hline : ∀ e, (s.channel e).state = .connected → (s.channel e).line = some l → (s.line l).channel = some e := fun e he hel => by
    obtain ⟨j, hj, -, hjc, -⟩ := (hs.takenDown e).2 he
    obtain rfl : j = l := Option.some.inj (hj.symm.trans hel)
    exact hjc
  exact Option.some.inj ((hline c hc hcl).symm.trans (hline d hd hdl))

/-- R176: channel `c` gives `n` characters of line `l`. -/
def State.gives (s : State) (c : Fin 24) (l : Fin 32) (n : Nat) : State :=
  (s.updLine l fun ln => { ln with rx := ln.rx.drop n }).updTrunk fun t => { t with pointer := c }

theorem State.gives_line (s : State) (c : Fin 24) (l : Fin 32) (n : Nat) (j : Fin 32) :
    (s.gives c l n).line j = if j = l then { s.line l with rx := (s.line l).rx.drop n } else s.line j :=
  State.setLine_line (s := s) l j _

theorem State.Given.cons {base s : State} {pay : List Byte} {c : Fin 24} {l : Fin 32} {n : Nat} {given : List (Fin 24 × Fin 32 × Nat)} {u : State}
    {r : List Byte} (h : State.Given base (s.gives c l n) (pay ++ dataSegmentBytes c ((base.line l).rx.take n)) given u r)
    (hn : n ≤ (base.line l).rx.length) : State.Given base s pay ((c, l, n) :: given) u r where
  payload := by
    rw [h.payload, State.givenBytes, State.givenBytes, List.flatMap_cons, dataSegmentBytes, List.length_take, Nat.min_eq_left hn, List.append_assoc]
  fits := h.fits
  frame := by
    rw [pointerAfter_cons]
    exact h.frame
  line j := by
    rw [h.line j, State.gives_line, givenOf, givenOf, List.filter_cons]
    by_cases hj : j = l
    · subst hj
      simp only [if_pos, decide_true, List.map_cons, List.sum_cons, List.drop_drop]
    · simp only [if_neg hj, decide_eq_false (Ne.symm hj), if_neg Bool.false_ne_true]

/-- R176: the segment of a channel whose line has characters, when 3 payload bytes are left. -/
theorem giveSegment_gives {s : State} {pay : List Byte} {c : Fin 24} {l : Fin 32} (hstate : (s.channel c).state = .connected)
    (hflow : (s.channel c).hostFlow = .go) (hline : (s.channel c).line = some l) (hrx : (s.line l).rx ≠ []) (hspace : pay.length + 3 ≤ 61) :
    giveSegment (s, pay) c =
      (s.gives c l (segmentSize pay.length (s.line l).rx.length),
        pay ++ dataSegmentBytes c ((s.line l).rx.take (segmentSize pay.length (s.line l).rx.length))) := by
  have heligible : s.eligible c = some l := by
    rw [State.eligible, if_pos ⟨hstate, hflow⟩, hline]
    exact if_neg hrx
  simp only [giveSegment, heligible]
  exact if_pos hspace

theorem giveSegment_skips {s : State} {pay : List Byte} {c : Fin 24} (h : ∀ l, s.eligible c = some l → ¬ pay.length + 3 ≤ 61) :
    giveSegment (s, pay) c = (s, pay) := by
  unfold giveSegment
  cases he : s.eligible c with
  | none => rfl
  | some l => exact if_neg (h l he)

/-- R176: a channel is eligible when it is connected with GO and its line has characters. -/
theorem State.eligible_iff {s : State} {c : Fin 24} {l : Fin 32} : s.eligible c = some l ↔
    (s.channel c).state = .connected ∧ (s.channel c).hostFlow = .go ∧ (s.channel c).line = some l ∧ (s.line l).rx ≠ [] := by
  unfold State.eligible
  by_cases h : (s.channel c).state = .connected ∧ (s.channel c).hostFlow = .go
  · obtain ⟨hstate, hflow⟩ := h
    rw [if_pos ⟨hstate, hflow⟩]
    cases hline : (s.channel c).line with
    | none => simp
    | some j =>
      by_cases hj : (s.line j).rx = []
      · simp only [if_pos hj]
        refine ⟨nofun, fun ⟨_, _, hjl, hrx⟩ => ?_⟩
        obtain rfl : j = l := Option.some.inj hjl
        exact absurd hj hrx
      · simp only [if_neg hj]
        exact ⟨fun h => ⟨hstate, hflow, h, Option.some.inj h ▸ hj⟩, fun ⟨_, _, hjl, _⟩ => hjl⟩
  · rw [if_neg h]
    exact ⟨nofun, fun ⟨hstate, hflow, _⟩ => absurd ⟨hstate, hflow⟩ h⟩

/-- R176: the turn of a channel that is not eligible, or that finds no space, gives nothing. -/
theorem State.schedule_skips {s : State} {c : Fin 24} {cs : List (Fin 24)} {space : Nat} (h : ∀ l, s.eligible c = some l → ¬ 3 ≤ space) :
    s.schedule (c :: cs) space = s.schedule cs space := by
  rw [State.schedule]
  split
  · next hc =>
    obtain ⟨hstate, hflow, hspace⟩ := hc
    split
    · next l hl =>
      refine if_pos (Classical.byContradiction fun hrx => ?_)
      exact h l (State.eligible_iff.mpr ⟨hstate, hflow, hl, hrx⟩) hspace
    · rfl
  · rfl

theorem State.schedule_gives {s : State} {c : Fin 24} {l : Fin 32} (h : s.eligible c = some l) (cs : List (Fin 24)) {space : Nat} (hspace : 3 ≤ space) :
    s.schedule (c :: cs) space = (c, l, min (space - 2) (min 59 (s.line l).rx.length)) ::
      s.schedule cs (space - 2 - min (space - 2) (min 59 (s.line l).rx.length)) := by
  obtain ⟨hstate, hflow, hline, hrx⟩ := State.eligible_iff.mp h
  rw [State.schedule, if_pos ⟨hstate, hflow, hspace⟩, hline]
  exact if_neg hrx

/-- R176: the turn of the channels `cs`, from a state whose channels are those of `base` and whose lines hold, for `cs`, what they held there. -/
theorem serveTurn_given {base : State} (hapart : base.LinesApart) {cs : List (Fin 24)} (hcs : cs.Nodup) {s : State} {pay : List Byte}
    (hpay : pay.length ≤ 61) (hchannels : s.channels = base.channels)
    (hlines : ∀ c ∈ cs, ∀ l, (base.channel c).state = .connected → (base.channel c).line = some l → (s.line l).rx = (base.line l).rx) :
    State.Given base s pay (base.schedule cs (61 - pay.length)) (serveTurn cs (s, pay)).1 (serveTurn cs (s, pay)).2 := by
  induction cs generalizing s pay with
  | nil => exact State.Given.nil hpay
  | cons c cs ih =>
    obtain ⟨hfresh, hnodup⟩ := List.nodup_cons.mp hcs
    have hchannel : ∀ d, s.channel d = base.channel d := fun d => by rw [State.channel, State.channel, hchannels]
    have hsame : ∀ l, s.eligible c = some l ↔ base.eligible c = some l := fun l => by
      rw [State.eligible_iff, State.eligible_iff, hchannel]
      constructor
      · rintro ⟨hstate, hflow, hline, hrx⟩
        exact ⟨hstate, hflow, hline, hlines c List.mem_cons_self l hstate hline ▸ hrx⟩
      · rintro ⟨hstate, hflow, hline, hrx⟩
        exact ⟨hstate, hflow, hline, (hlines c List.mem_cons_self l hstate hline).symm ▸ hrx⟩
    have hserve : serveTurn (c :: cs) (s, pay) = serveTurn cs (giveSegment (s, pay) c) := rfl
    have hrest : ∀ d ∈ cs, ∀ l, (base.channel d).state = .connected → (base.channel d).line = some l → (s.line l).rx = (base.line l).rx :=
      fun d hd => hlines d (List.mem_cons_of_mem c hd)
    rw [hserve]
    by_cases hgive : ∃ l, base.eligible c = some l ∧ pay.length + 3 ≤ 61
    · obtain ⟨l, hl, hspace⟩ := hgive
      obtain ⟨hstate, hflow, hline, hrx⟩ := State.eligible_iff.mp hl
      have hrxs : (s.line l).rx = (base.line l).rx := hlines c List.mem_cons_self l hstate hline
      have hgiven := giveSegment_gives (hchannel c ▸ hstate) (hchannel c ▸ hflow) (hchannel c ▸ hline) (hrxs.symm ▸ hrx) hspace
      rw [hrxs] at hgiven
      have hsize : segmentSize pay.length (base.line l).rx.length = min (61 - pay.length - 2) (min 59 (base.line l).rx.length) := rfl
      rw [hgiven, hsize, State.schedule_gives hl cs (by omega)]
      generalize hn : min (61 - pay.length - 2) (min 59 (base.line l).rx.length) = n
      have hheld : n ≤ (base.line l).rx.length := by omega
      have hlength : (pay ++ dataSegmentBytes c ((base.line l).rx.take n)).length = pay.length + 2 + n := by
        rw [dataSegmentBytes, List.length_append, List.length_append, List.length_take, Nat.min_eq_left hheld]
        exact (Nat.add_assoc ..).symm
      have hleft : 61 - pay.length - 2 - n = 61 - (pay ++ dataSegmentBytes c ((base.line l).rx.take n)).length := by omega
      rw [hleft]
      refine State.Given.cons (ih hnodup (by omega) hchannels fun d hd j hdstate hdline => ?_) hheld
      have hjl : j ≠ l := fun h => hfresh (hapart c d l hstate hdstate hline (h ▸ hdline) ▸ hd)
      rw [State.gives_line, if_neg hjl]
      exact hrest d hd j hdstate hdline
    · have hskip : ∀ l, base.eligible c = some l → ¬ pay.length + 3 ≤ 61 := fun l hl hspace => hgive ⟨l, hl, hspace⟩
      rw [giveSegment_skips fun l hl => hskip l ((hsame l).mp hl), State.schedule_skips fun l hl hspace => hskip l hl (by omega)]
      exact ih hnodup hpay hchannels hrest

/-! ## The block (R173, R174) -/

/-- Settles O48: the controls that fit, then one turn of the channels, each with what its line holds. -/
theorem upwardBlock : Obligations.UpwardBlock := by
  unfold Obligations.UpwardBlock
  intro s hreset hs
  refine ⟨fun hcounter => ?_, fun hcounter => ?_⟩
  · exact (whenRunning_run hreset _).trans (congrArg Host.Outcome.next (if_neg (Nat.not_lt.mpr hcounter)))
  · obtain ⟨k, htake, hfit⟩ := takeControls_fit s.trunk.controls 61
    have hserved := serveTurn_given (s := setControls (s.trunk.controls.drop k) s) hs.linesApart (turn_nodup s.trunk.pointer) hfit.fits rfl
      fun _ _ _ _ _ => rfl
    have hbuild : buildPayload s =
        serveTurn (turn s.trunk.pointer) (setControls (s.trunk.controls.drop k) s, (s.trunk.controls.take k).flatMap upwardSegment) := by
      rw [buildPayload, show Config.payload = 61 from rfl, htake]
    have hexec : exec .upwardBlock s = .next (sendBlock s) := (whenRunning_run hreset _).trans (congrArg Host.Outcome.next (if_pos hcounter))
    rw [sendBlock, hbuild] at hexec
    generalize serveTurn (turn s.trunk.pointer) (setControls (s.trunk.controls.drop k) s, (s.trunk.controls.take k).flatMap upwardSegment) = r
      at hserved hexec
    obtain ⟨u, pay⟩ := r
    obtain ⟨hpayload, hfits, hframe, hlines⟩ := hserved
    dsimp only at hpayload hfits hframe hlines hexec
    subst hpayload
    rw [turn_eq] at hexec hfits hframe hlines
    refine ⟨k, hfit.count, hfit.fits, hfits, hfit.next, _, hexec, ?_, hlines⟩
    refine (congrArg (fun x : State => x.updTrunk fun t => { t with
      counter := t.counter + 1
      sent := blockBytes _ _ }) hframe).trans ?_
    rfl

end Sys2Proof.Machine
end

section
/-! Downward blocks decoded (R169 to R171, R177, R199): the segments of a TRAFFIC block, each the row that it delivers. -/

namespace Sys2Proof.Machine

open Sys2Proof

/-! ## A block as it is framed -/

theorem crcGood_blockBytes (kind : Byte) (pay : List Byte) : 64 ≤ (blockBytes kind pay).length ∧ crcGood (blockBytes kind pay) = true := by
  refine ⟨(blockBytes_length kind pay).ge, (crcGood_iff _).mpr ?_⟩
  rw [blockBytes_drop]
  rfl

/-- R169: a framed block is good, and its payload is filled with zeros. -/
theorem takeDownward_blockBytes (kind : Byte) (pay : List Byte) (lv : InputLevels) (s : State) :
    takeDownward (blockBytes kind pay) lv s = takeGood lv kind (zeroTo 61 pay) s := by
  have htake : (blockBytes kind pay).take 62 = kind :: zeroTo 61 pay := blockBytes_take kind pay
  have hkind : (blockBytes kind pay).getD 0 0 = kind := rfl
  have hpay : ((blockBytes kind pay).drop 1).take 61 = zeroTo 61 pay := by
    rw [List.take_drop, show 1 + 61 = 62 from rfl, htake, List.drop_succ_cons, List.drop_zero]
  rw [takeDownward_good (crcGood_blockBytes kind pay), hkind, hpay]

theorem exec_trafficBlock {s : State} (hr : s.inReset = false) (pay : List Byte) (lv : InputLevels) :
    exec (.downwardBlock (blockBytes 0x22 pay) lv) s = .next (takeTraffic (zeroTo 61 pay) s.heard) := by
  rw [exec_downwardBlock hr, takeDownward_blockBytes, ← trunkAlive_eq]
  rfl

theorem exec_commandBlock {s : State} (hr : s.inReset = false) (pay : List Byte) (lv : InputLevels) :
    exec (.downwardBlock (blockBytes 0x23 pay) lv) s = .next (takeCommand lv (zeroTo 61 pay) s.heard) := by
  rw [exec_downwardBlock hr, takeDownward_blockBytes, ← trunkAlive_eq]
  rfl

/-! ## Headers (R199) -/

theorem channelOf_data (c : Fin 24) : channelOf (byteOf (c.val + 1)) = some c ∧ byteOf (c.val + 1) ≠ 0 := by
  revert c
  decide

theorem channelOf_control (c : Fin 24) : channelOf (byteOf (0x41 + c.val)) = none ∧ channelOf (byteOf (0x41 + c.val) - 0x40) = some c ∧
    byteOf (0x41 + c.val) ≠ 0 := by
  revert c
  decide

theorem channelOf_isSome_iff (h : Byte) : (channelOf h).isSome ↔ 1 ≤ h.toNat ∧ h.toNat ≤ 24 := by
  have hzero : h = 0 ↔ h.toNat = 0 := ⟨fun h => by rw [h]; rfl, fun h => BitVec.eq_of_toNat_eq h⟩
  unfold channelOf
  split
  · split
    · next _ h0 => simp [hzero.mp h0]
    · next hlt h0 =>
      have hpos : h.toNat ≠ 0 := fun h => h0 (hzero.mpr h)
      simp only [Option.isSome_some, true_iff]
      omega
  · simp only [Option.isSome_none, Bool.false_eq_true, false_iff]
    omega

/-- R199: a control header is a channel number above 0x40. -/
theorem channelOf_sub_isSome_iff (h : Byte) : (channelOf (h - 0x40)).isSome ↔ 0x41 ≤ h.toNat ∧ h.toNat ≤ 0x58 := by
  rw [channelOf_isSome_iff]
  bv_omega

/-! ## A delivery row on the wire (R177) -/

/-- R177: the segment `seg` is that of delivery `d`, whatever follows it. -/
structure SegmentParses (seg : List Byte) (d : Delivery) : Prop where
  parse : ∃ h t, seg = h :: t ∧ h ≠ 0 ∧ ∀ rest, parseSegment h (t ++ rest) = some (d, rest)
  length : 2 ≤ seg.length

theorem parseSegment_data (c : Fin 24) (t : List Byte) : parseSegment (byteOf (c.val + 1)) t = dataSegment c t := by
  rw [parseSegment, (channelOf_data c).1]

theorem parseSegment_control (c : Fin 24) (t : List Byte) : parseSegment (byteOf (0x41 + c.val)) t = controlSegment c t := by
  rw [parseSegment, (channelOf_control c).1, (channelOf_control c).2.1]

theorem SegmentParses.control {c : Fin 24} {t : List Byte} {d : Delivery} (ht : t ≠ []) (h : ∀ rest, controlSegment c (t ++ rest) = some (d, rest)) :
    SegmentParses (byteOf (0x41 + c.val) :: t) d where
  parse := ⟨_, _, rfl, (channelOf_control c).2.2, fun rest => (parseSegment_control c _).trans (h rest)⟩
  length := Nat.succ_le_succ (List.length_pos_iff.mpr ht)

theorem SegmentParses.data (c : Fin 24) {cs : List Byte} (hpos : 1 ≤ cs.length) (hmax : cs.length ≤ 59) :
    SegmentParses (byteOf (c.val + 1) :: byteOf cs.length :: cs) (.data c cs) where
  parse := by
    have hn : (byteOf cs.length).toNat = cs.length := by
      rw [byteOf, BitVec.toNat_ofNat]
      exact Nat.mod_eq_of_lt (by omega)
    refine ⟨_, _, rfl, (channelOf_data c).2, fun rest => ?_⟩
    rw [parseSegment_data, List.cons_append, dataSegment, hn, if_pos ⟨hpos, hmax, by rw [List.length_append]; omega⟩, List.take_left, List.drop_left]
  length := Nat.succ_le_succ (Nat.succ_le_succ (Nat.zero_le _))

/-- R177: the row whose segment is `seg` is the delivery of that segment. -/
theorem segmentOf_delivers {i : Instr} {seg : List Byte} (h : segmentOf i = some seg) :
    ∃ d, SegmentParses seg d ∧ ∀ u : State, u.inReset = false → exec i u = .next (deliver d u) := by
  cases i
  case dataSegment c cs =>
    rw [segmentOf] at h
    obtain ⟨⟨hpos, hmax⟩, rfl⟩ := Option.ite_none_right_eq_some.mp h |>.imp id Option.some.inj
    exact ⟨_, .data c hpos hmax, fun u hu => whenRunning_run hu _⟩
  case accept c =>
    obtain rfl := Option.some.inj h
    exact ⟨.accept c, .control (List.cons_ne_nil _ _) fun _ => rfl, fun u hu => whenRunning_run hu _⟩
  case reject c a =>
    obtain rfl := Option.some.inj h
    exact ⟨.reject c a, .control (List.cons_ne_nil _ _) fun _ => rfl, fun u hu => whenRunning_run hu _⟩
  case close c =>
    obtain rfl := Option.some.inj h
    exact ⟨.close c, .control (List.cons_ne_nil _ _) fun _ => rfl, fun u hu => whenRunning_run hu _⟩
  case closed c =>
    obtain rfl := Option.some.inj h
    exact ⟨.closed c, .control (List.cons_ne_nil _ _) fun _ => rfl, fun u hu => whenRunning_run hu _⟩
  case flow c go =>
    obtain rfl := Option.some.inj h
    exact ⟨.flow c (if go then .go else .stop), .control (List.cons_ne_nil _ _) fun _ => by cases go <;> rfl, fun u hu => whenRunning_run hu _⟩
  all_goals cases h

/-! ## A payload of segments (R177) -/

/-- R177: the segments `segs` parse, and the rest of the payload after them. -/
theorem parseSegments_append {segs : List (List Byte)} {ds : List Delivery} (h : List.Forall₂ SegmentParses segs ds) (fuel : Nat) (rest : List Byte) :
    parseSegments (fuel + segs.length) (segs.flatten ++ rest) = (ds ++ (parseSegments fuel rest).1, (parseSegments fuel rest).2) := by
  induction h with
  | nil => rfl
  | cons hseg hrest ih =>
    obtain ⟨⟨b, t, rfl, hb, hparse⟩, -⟩ := hseg
    rw [List.length_cons, ← Nat.add_assoc, List.flatten_cons, List.append_assoc, List.cons_append, parseSegments, if_neg hb, hparse]
    simp only [ih]
    rfl

theorem forall₂_segments_length {segs : List (List Byte)} {ds : List Delivery} (h : List.Forall₂ SegmentParses segs ds) :
    2 * segs.length ≤ segs.flatten.length := by
  induction h with
  | nil => exact Nat.le_refl 0
  | cons hseg hrest ih =>
    have := hseg.length
    rw [List.length_cons, List.flatten_cons, List.length_append]
    omega

theorem deliver_inReset (d : Delivery) (s : State) : (deliver d s).inReset = s.inReset := by simp

/-- The rows of the segments deliver them in their order. -/
theorem rows_deliver {is : List Instr} {segs : List (List Byte)} (h : is.map segmentOf = segs.map some) :
    ∃ ds, List.Forall₂ SegmentParses segs ds ∧ ∀ u : State, u.inReset = false → runRows is u = deliverAll ds u := by
  induction is generalizing segs with
  | nil =>
    obtain rfl : segs = [] := List.map_eq_nil_iff.mp h.symm
    exact ⟨[], .nil, fun u _ => rfl⟩
  | cons i is ih =>
    cases segs with
    | nil => cases h
    | cons seg segs =>
      rw [List.map_cons, List.map_cons, List.cons.injEq] at h
      obtain ⟨hseg, hsegs⟩ := h
      obtain ⟨d, hd, hexec⟩ := segmentOf_delivers hseg
      obtain ⟨ds, hds, hrun⟩ := ih hsegs
      refine ⟨d :: ds, .cons hd hds, fun u hu => ?_⟩
      rw [runRows, hexec u hu]
      exact hrun _ ((deliver_inReset d u).trans hu)

theorem controlSegment_unknown (c : Fin 24) {k : Byte} (hk : k ∉ [(0x02 : Byte), 0x03, 0x04, 0x05, 0x06]) (u : List Byte) :
    controlSegment c (k :: u) = none := by
  simp only [List.mem_cons, List.not_mem_nil, or_false, not_or] at hk
  obtain ⟨h2, h3, h4, h5, h6⟩ := hk
  refine (if_neg h2).trans ((if_neg h4).trans ((if_neg h5).trans ?_))
  cases u with
  | nil => rfl
  | cons a v => exact (if_neg h3).trans (if_neg h6)

theorem controlSegment_short (c : Fin 24) {k : Byte} (hk : k ∈ [(0x03 : Byte), 0x06]) : controlSegment c [k] = none := by
  rcases List.mem_cons.mp hk with rfl | hk
  · rfl
  · obtain rfl := List.mem_singleton.mp hk
    rfl

theorem controlSegment_flow (c : Fin 24) {a : Byte} (ha : 1 < a.toNat) (v : List Byte) : controlSegment c (0x06 :: a :: v) = none := by
  have h0 : a ≠ 0 := by rintro rfl; cases ha
  have h1 : a ≠ 1 := by rintro rfl; exact absurd ha (by decide)
  have hflag : flagOf a = none := (if_neg h0).trans (if_neg h1)
  show (flagOf a).map _ = none
  rw [hflag]
  rfl

/-- R177: a malformed segment parses to nothing. -/
theorem MalformedSegment.parse {bs : List Byte} (h : MalformedSegment bs) : ∃ b t, bs = b :: t ∧ b ≠ 0 ∧ parseSegment b t = none := by
  obtain ⟨b, t, rfl, hbad⟩ := h
  refine ⟨b, t, rfl, ?_⟩
  have hnone : ∀ {x : Byte}, ¬ (1 ≤ x.toNat ∧ x.toNat ≤ 24) → channelOf x = none := fun hx => by
    rw [← channelOf_isSome_iff, Option.not_isSome_iff_eq_none] at hx
    exact hx
  have hpos : 1 ≤ b.toNat → b ≠ 0 := by rintro h rfl; cases h
  rcases hbad with ⟨hb, hdata, hcontrol⟩ | ⟨hdata, hbad⟩ | ⟨hcontrol, hbad⟩
  · rw [← channelOf_sub_isSome_iff, Option.not_isSome_iff_eq_none] at hcontrol
    refine ⟨hb, ?_⟩
    rw [parseSegment, hnone hdata, hcontrol]
  · refine ⟨hpos hdata.1, ?_⟩
    obtain ⟨c, hc⟩ := Option.isSome_iff_exists.mp ((channelOf_isSome_iff b).mpr hdata)
    rw [parseSegment, hc]
    rcases hbad with rfl | ⟨n, u, rfl, hn⟩
    · rfl
    · refine if_neg fun ⟨h1, h59, hlen⟩ => ?_
      rcases hn with rfl | hn | hn
      · cases h1
      · exact absurd h59 (Nat.not_le.mpr hn)
      · omega
  · refine ⟨hpos (by omega), ?_⟩
    obtain ⟨c, hc⟩ := Option.isSome_iff_exists.mp ((channelOf_sub_isSome_iff b).mpr hcontrol)
    rw [parseSegment, hnone (by omega), hc]
    dsimp only
    rcases hbad with rfl | ⟨k, u, rfl, hk | ⟨hk, rfl⟩ | ⟨rfl, a, v, rfl, ha⟩⟩
    · rfl
    · exact controlSegment_unknown c hk u
    · exact controlSegment_short c hk
    · exact controlSegment_flow c ha v

theorem takeTraffic_segments {segs : List (List Byte)} {ds : List Delivery} (h : List.Forall₂ SegmentParses segs ds) (hfit : segs.flatten.length ≤ 61)
    (rest : List Byte) (s : State) : ∃ fuel, takeTraffic (segs.flatten ++ rest) s =
      (if (parseSegments (fuel + 1) rest).2 then protocolError (deliverAll (ds ++ (parseSegments (fuel + 1) rest).1) s)
      else deliverAll (ds ++ (parseSegments (fuel + 1) rest).1) s) := by
  have hcount := forall₂_segments_length h
  obtain ⟨fuel, hfuel⟩ : ∃ fuel, 61 = fuel + 1 + segs.length := ⟨60 - segs.length, by omega⟩
  refine ⟨fuel, ?_⟩
  simp only [takeTraffic, show Config.payload = 61 from rfl, hfuel, parseSegments_append h]

theorem protocolError_warned (s : State) : protocolError s = s.warnedOfProtocol := rfl

/-- R177: a payload ends at its end or at a zero. -/
theorem parseSegments_ended {rest : List Byte} (h : rest = [] ∨ ∃ t, rest = 0 :: t) (fuel : Nat) : parseSegments (fuel + 1) rest = ([], false) := by
  rcases h with rfl | ⟨t, rfl⟩
  · rfl
  · exact if_pos rfl

theorem replicate_zero_ended (n : Nat) : List.replicate n (0 : Byte) = [] ∨ ∃ t, List.replicate n (0 : Byte) = 0 :: t := by
  cases n with
  | zero => exact .inl rfl
  | succ n => exact .inr ⟨_, List.replicate_succ⟩

/-- Settles O52: the payload's segments are those of the rows, then its zeros, its end or the malformed one. -/
theorem trafficOnWire : Obligations.TrafficOnWire := by
  unfold Obligations.TrafficOnWire
  intro s lv is segs hr hsegs hfit
  obtain ⟨ds, hds, hrun⟩ := rows_deliver hsegs
  have hheard : s.heard.inReset = false := hr
  have hends : ∀ rest, segs.flatten.length + rest.length ≤ 61 → (rest = [] ∨ ∃ t, rest = 0 :: t) →
      exec (.downwardBlock (blockBytes 0x22 (segs.flatten ++ rest)) lv) s = .next (runRows is s.heard) := fun rest hlen hrest => by
    have hpay : zeroTo 61 (segs.flatten ++ rest) = segs.flatten ++ (rest ++ List.replicate (61 - (segs.flatten ++ rest).length) 0) := by
      rw [zeroTo_of_le (by rw [List.length_append]; exact hlen), List.append_assoc]
    have hended : rest ++ List.replicate (61 - (segs.flatten ++ rest).length) 0 = [] ∨
        ∃ t, rest ++ List.replicate (61 - (segs.flatten ++ rest).length) 0 = 0 :: t := by
      rcases hrest with rfl | ⟨t, rfl⟩
      · exact replicate_zero_ended _
      · exact .inr ⟨_, rfl⟩
    generalize rest ++ List.replicate (61 - (segs.flatten ++ rest).length) 0 = tail at hpay hended
    obtain ⟨fuel, htraffic⟩ := takeTraffic_segments hds hfit tail s.heard
    rw [exec_trafficBlock hr, hpay, htraffic, parseSegments_ended hended, List.append_nil, if_neg Bool.false_ne_true, hrun _ hheard]
  refine ⟨?_, fun rest hlen => hends _ ?_ (.inr ⟨rest, rfl⟩), fun rest hlen hbad => ?_⟩
  · have h := hends [] hfit (.inl rfl)
    rwa [List.append_nil] at h
  · rw [List.length_cons]
    omega
  · have hpay : zeroTo 61 (segs.flatten ++ rest) = segs.flatten ++ (rest ++ List.replicate (61 - segs.flatten.length - rest.length) 0) := by
      rw [zeroTo_of_le (by rw [List.length_append]; exact hlen), List.append_assoc, List.length_append, Nat.sub_sub]
    obtain ⟨b, t, hbt, hb, hparse⟩ := hbad.parse
    obtain ⟨fuel, htraffic⟩ := takeTraffic_segments hds hfit (b :: t) s.heard
    have hmalformed : parseSegments (fuel + 1) (b :: t) = ([], true) := by rw [parseSegments, if_neg hb, hparse]
    rw [exec_trafficBlock hr, hpay, hbt, htraffic, hmalformed, List.append_nil, if_pos rfl, protocolError_warned, hrun _ hheard]

end Sys2Proof.Machine
end

section
/-! Command rows as the blocks that they are on the wire (R183, R184, R200). -/

namespace Sys2Proof.Machine

open Sys2Proof

/-! ## Fields of 2 and of 3 bytes (R196) -/

theorem halfOf_halfBytes (h : Half) : halfOf (h.extractLsb' 8 8) (h.extractLsb' 0 8) = h := by
  rw [halfOf, BitVec.extractLsb'_append_extractLsb'_eq_extractLsb' (show 8 = 0 + 8 from rfl)]
  exact BitVec.extractLsb'_eq_self

theorem tripleOf_wideBytes (t : Triple) : tripleOf (t.extractLsb' 16 8) (t.extractLsb' 8 8) (t.extractLsb' 0 8) = t := by
  rw [tripleOf, BitVec.extractLsb'_append_extractLsb'_eq_extractLsb' (show 8 = 0 + 8 from rfl)]
  change t.extractLsb' 16 8 ++ t.extractLsb' 0 16 = t
  rw [BitVec.extractLsb'_append_extractLsb'_eq_extractLsb' (show 16 = 0 + 16 from rfl)]
  exact BitVec.extractLsb'_eq_self

theorem tripleBytes_eq (t : Triple) : tripleBytes t = wideBytes t := by
  have hhigh : byteOf (t.toNat / 65536) = t.extractLsb' 16 8 :=
    BitVec.eq_of_toNat_eq (by simp [byteOf, BitVec.extractLsb'_toNat, Nat.shiftRight_eq_div_pow])
  have hmiddle : byteOf (t.toNat / 256) = t.extractLsb' 8 8 :=
    BitVec.eq_of_toNat_eq (by simp [byteOf, BitVec.extractLsb'_toNat, Nat.shiftRight_eq_div_pow])
  have hlow : byteOf t.toNat = t.extractLsb' 0 8 := BitVec.eq_of_toNat_eq (by simp [byteOf, BitVec.extractLsb'_toNat])
  rw [tripleBytes, be24, hhigh, hmiddle, hlow, wideBytes]

/-! ## A row with the parameters of one block -/

/-- R183, R200: a row whose owner is the one that its code names is taken as its block. -/
theorem command_takesBlock (lv : InputLevels) {tag code : Byte} {ps : List Byte} {own : State → State × Answer} (hcode : commandCodes.contains code = true)
    (hlen : ps.length ≤ 58) (hown : ∀ u, runCommand lv code ps u = own u) (s : State) :
    command tag code ps own s = whenRunning s (takeCommandBlock lv ⟨tag, code, ps.length, ps⟩) := by
  have hbody : dispatchBody lv ⟨tag, code, ps.length, ps⟩ = own := by
    funext u
    have hlong : ¬ Config.longestParams < ps.length := Nat.not_lt.mpr (hlen.trans (by decide))
    have hblock : ¬ Config.blockParams < ps.length := Nat.not_lt.mpr hlen
    rw [dispatchBody, if_pos hcode, lengthStep, if_neg hlong, if_neg hblock, zeroTo_self rfl, hown]
  rw [command]
  refine congrArg (whenRunning s) (funext fun u => ?_)
  rw [takeCommandBlock, hbody]

/-- R183 steps 3 and 4: what the length step makes of a text's own block. -/
theorem command_takesText (lv : InputLevels) {tag code : Byte} {ps : List Byte} {own : State → State × Answer} (hcode : commandCodes.contains code = true)
    (hown : ∀ u, runCommand lv code ps u = own u) (s : State) :
    command tag code ps (lengthStep ps.length ps own) s = whenRunning s (takeCommandBlock lv ⟨tag, code, ps.length, ps⟩) := by
  have hbody : dispatchBody lv ⟨tag, code, ps.length, ps⟩ = lengthStep ps.length ps own := by
    funext u
    rw [dispatchBody, if_pos hcode, zeroTo_self rfl, funext hown]
  rw [command]
  refine congrArg (whenRunning s) (funext fun u => ?_)
  rw [takeCommandBlock, hbody]

/-- The row `i` is taken as its block, whose stated length is one byte. -/
def TakenAsBlock (lv : InputLevels) (s : State) (i : Instr) : Prop :=
  ∀ b, blockOf i = some b → exec i s = whenRunning s (takeCommandBlock lv b) ∧ b.length ≤ 255

theorem TakenAsBlock.of_command {lv : InputLevels} {s : State} {i : Instr} {tag code : Byte} {n : Nat} {ps : List Byte} {own : State → State × Answer}
    (hb : blockOf i = some ⟨tag, code, n, ps⟩) (hexec : exec i s = command tag code ps own s) (hn : ps.length = n) (hlen : n ≤ 58)
    (hcode : commandCodes.contains code = true) (hown : ∀ u, runCommand lv code ps u = own u) : TakenAsBlock lv s i := by
  intro b hb'
  obtain rfl : _ = b := Option.some.inj (hb.symm.trans hb')
  subst hn
  exact ⟨hexec.trans (command_takesBlock lv hcode hlen hown s), hlen.trans (by decide)⟩

/-! ## The rows whose parameters are not all bytes of the block -/

section Rows

variable {s : State} {lv : InputLevels}

theorem readLine_takesBlock {t l : Byte} {ring : Bool} (hring : l.toNat < 32 → ring = lv.ring.getLsbD l.toNat) : TakenAsBlock lv s (.readLine t l ring) := by
  refine .of_command rfl rfl rfl (Nat.le_of_ble_eq_true rfl) rfl fun u => ?_
  show cmdReadLine l (fun j => lv.ring.getLsbD j.val) u = cmdReadLine l (fun _ => ring) u
  unfold cmdReadLine finOf
  by_cases hl : l.toNat < 32
  · simp only [dif_pos hl, hring hl]
  · simp only [dif_neg hl]

theorem exists_eq_ofFn {n : Nat} {bs : List Byte} (h : bs.length = n) : ∃ f : Fin n → Byte, bs = List.ofFn f := by
  subst h
  exact ⟨bs.get, (List.ofFn_get bs).symm⟩

theorem stageEntry_takesBlock {t : Byte} {i : Half} {u p : List Byte} {k a c e : Byte} (hu : u.length = 6) (hp : p.length = 8) :
    TakenAsBlock lv s (.stageEntry t i u k p a c e) := by
  obtain ⟨u, rfl⟩ := exists_eq_ofFn hu
  obtain ⟨p, rfl⟩ := exists_eq_ofFn hp
  have hexec : exec (.stageEntry t i (List.ofFn u) k (List.ofFn p) a c e) s =
      command t 0x20 (be16 i.toNat ++ List.ofFn u ++ [k] ++ List.ofFn p ++ [a, c, e])
        (cmdStageEntry (stagedOf i (List.ofFn u) k (List.ofFn p) a c e)) s := rfl
  rw [be16_toNat] at hexec
  refine .of_command rfl hexec rfl (Nat.le_of_ble_eq_true rfl) rfl fun v => ?_
  exact congrArg (fun x => cmdStageEntry (stagedOf x (List.ofFn u) k (List.ofFn p) a c e) v) (halfOf_halfBytes i)

theorem findUser_takesBlock {t : Byte} {u : List Byte} (hu : u.length = 6) : TakenAsBlock lv s (.findUser t u) :=
  .of_command rfl rfl hu (Nat.le_of_ble_eq_true rfl) rfl fun _ => if_pos hu

theorem readEntry_takesBlock {t : Byte} {i : Half} : TakenAsBlock lv s (.readEntry t i) := by
  have hexec : exec (.readEntry t i) s = command t 0x23 (be16 i.toNat) (cmdReadEntry i) s := rfl
  rw [be16_toNat] at hexec
  exact .of_command rfl hexec rfl (Nat.le_of_ble_eq_true rfl) rfl fun v => congrArg (fun x => cmdReadEntry x v) (halfOf_halfBytes i)

theorem unlockUser_takesBlock {t : Byte} {i : Half} : TakenAsBlock lv s (.unlockUser t i) := by
  have hexec : exec (.unlockUser t i) s = command t 0x25 (be16 i.toNat) (cmdUnlockUser i) s := rfl
  rw [be16_toNat] at hexec
  exact .of_command rfl hexec rfl (Nat.le_of_ble_eq_true rfl) rfl fun v => congrArg (fun x => cmdUnlockUser x v) (halfOf_halfBytes i)

theorem releaseTicket_takesBlock {t : Byte} {n : Half} : TakenAsBlock lv s (.releaseTicket t n) := by
  have hexec : exec (.releaseTicket t n) s = command t 0x61 (be16 n.toNat) (cmdReleaseTicket n) s := rfl
  rw [be16_toNat] at hexec
  exact .of_command rfl hexec rfl (Nat.le_of_ble_eq_true rfl) rfl fun v => congrArg (fun x => cmdReleaseTicket x v) (halfOf_halfBytes n)

theorem loadRate_takesBlock {t p c : Byte} {r : Half} : TakenAsBlock lv s (.loadRate t p c r) := by
  have hexec : exec (.loadRate t p c r) s = command t 0x49 ([p, c] ++ be16 r.toNat) (cmdLoadRate p c r) s := rfl
  rw [be16_toNat] at hexec
  exact .of_command rfl hexec rfl (Nat.le_of_ble_eq_true rfl) rfl fun v => congrArg (fun x => cmdLoadRate p c x v) (halfOf_halfBytes r)

theorem loadClass_takesBlock {t c k g p e : Byte} {m : Half} : TakenAsBlock lv s (.loadClass t c k m g p e) := by
  have hexec : exec (.loadClass t c k m g p e) s = command t 0x4D ([c, k] ++ be16 m.toNat ++ [g, p, e]) (cmdLoadClass c k m g p e) s := rfl
  rw [be16_toNat] at hexec
  exact .of_command rfl hexec rfl (Nat.le_of_ble_eq_true rfl) rfl fun v => congrArg (fun x => cmdLoadClass c k x g p e v) (halfOf_halfBytes m)

theorem creditAccount_takesBlock {t a : Byte} {n : Triple} : TakenAsBlock lv s (.creditAccount t a n) := by
  have hexec : exec (.creditAccount t a n) s = command t 0x32 (a :: tripleBytes n) (cmdCreditAccount (accountOf a) n.toInt) s := rfl
  rw [tripleBytes_eq] at hexec
  exact .of_command rfl hexec rfl (Nat.le_of_ble_eq_true rfl) rfl fun v =>
    congrArg (fun x : Triple => cmdCreditAccount (accountOf a) x.toInt v) (tripleOf_wideBytes n)

theorem setAccount_takesBlock {t a st l : Byte} {b o w : Triple} : TakenAsBlock lv s (.setAccount t a st b o w l) := by
  have hexec : exec (.setAccount t a st b o w l) s = command t 0x30 ([a, st] ++ tripleBytes b ++ tripleBytes o ++ tripleBytes w ++ [l])
      (cmdSetAccount (accountOf a) st b.toInt o.toNat w.toInt l.toNat) s := rfl
  rw [tripleBytes_eq, tripleBytes_eq, tripleBytes_eq] at hexec
  refine .of_command rfl hexec rfl (Nat.le_of_ble_eq_true rfl) rfl fun v => ?_
  have hrun : runCommand lv 0x30 ([a, st] ++ wideBytes b ++ wideBytes o ++ wideBytes w ++ [l]) v =
      cmdSetAccount (accountOf a) st (tripleOf (b.extractLsb' 16 8) (b.extractLsb' 8 8) (b.extractLsb' 0 8)).toInt
        (tripleOf (o.extractLsb' 16 8) (o.extractLsb' 8 8) (o.extractLsb' 0 8)).toNat
        (tripleOf (w.extractLsb' 16 8) (w.extractLsb' 8 8) (w.extractLsb' 0 8)).toInt l.toNat v := rfl
  rw [hrun, tripleOf_wideBytes, tripleOf_wideBytes, tripleOf_wideBytes]

theorem loadMessage_takesBlock {t n l : Byte} {cs : List Byte} (hcs : cs.length ≤ 253) : TakenAsBlock lv s (.loadMessage t n l cs) := by
  intro b hb
  have hlen : 2 + cs.length = (n :: l :: cs).length := Nat.add_comm ..
  have hbound : (n :: l :: cs).length ≤ 255 := by omega
  rw [blockOf, hlen] at hb
  obtain rfl := Option.some.inj hb
  exact ⟨command_takesText lv rfl (fun _ => rfl) s, hbound⟩

theorem broadcast_takesBlock {t l : Byte} {cs : List Byte} (hcs : cs.length ≤ 254) : TakenAsBlock lv s (.broadcast t l cs) := by
  intro b hb
  have hlen : 1 + cs.length = (l :: cs).length := Nat.add_comm ..
  have hbound : (l :: cs).length ≤ 255 := by omega
  rw [blockOf, hlen] at hb
  obtain rfl := Option.some.inj hb
  exact ⟨command_takesText lv rfl (fun _ => rfl) s, hbound⟩

theorem unknownCommand_takesBlock {t c : Byte} (hlv : s.levels = lv) : TakenAsBlock lv s (.unknownCommand t c) := by
  intro b hb
  obtain rfl := Option.some.inj hb
  subst hlv
  have hexec : exec (.unknownCommand t c) s = whenRunning s fun u => takeCommandBlock u.levels ⟨t, c, 0, []⟩ u := rfl
  refine ⟨hexec.trans ?_, Nat.zero_le _⟩
  unfold whenRunning
  rfl

theorem continuation_takesBlock {t c n : Byte} {bs : List Byte} : TakenAsBlock lv s (.continuation t c n bs lv) := by
  intro b hb
  obtain rfl := Option.some.inj hb
  exact ⟨rfl, Nat.le_of_lt_succ n.isLt⟩

end Rows

/-- R183, R200: a command row is its block, handed to the owner that its code names. -/
theorem exec_takesBlock {s : State} {i : Instr} {lv : InputLevels} (hlv : LevelsAgree lv s i) (hwf : i.wellFormed = true) : TakenAsBlock lv s i := by
  cases i
  case loadGroup | lineOutOfService | lineReturn | forceClear | commitPage | discardStage | protectBlock | protectTariffs | setAccountState | readAccount
      | setClock | readClock | loadParameters | loadHoliday | readHoliday | loadSchedule | readSchedule | loadDaystart | readDaystart | readRate | loadPermit
      | readPermit | readClass | readPeriod | setChannelPriority | clearChannel | readChannel | readQueue | fetchTicket | readTicketCounts | loadWatch
      | readWatch | ackAlert | openService | drainService | closeService | restart | readParameters | readCounters =>
    exact .of_command rfl rfl rfl (Nat.le_of_ble_eq_true rfl) rfl fun _ => rfl
  case unprotectAll | readProtection =>
    cases hlv
    exact .of_command rfl rfl rfl (Nat.le_of_ble_eq_true rfl) rfl fun _ => rfl
  case readLine => exact readLine_takesBlock hlv
  case stageEntry =>
    rw [Instr.wellFormed, Bool.and_eq_true, decide_eq_true_eq, decide_eq_true_eq] at hwf
    exact stageEntry_takesBlock hwf.1 hwf.2
  case findUser => exact findUser_takesBlock (of_decide_eq_true hwf)
  case readEntry => exact readEntry_takesBlock
  case unlockUser => exact unlockUser_takesBlock
  case releaseTicket => exact releaseTicket_takesBlock
  case loadRate => exact loadRate_takesBlock
  case loadClass => exact loadClass_takesBlock
  case creditAccount => exact creditAccount_takesBlock
  case setAccount => exact setAccount_takesBlock
  case loadMessage => exact loadMessage_takesBlock (of_decide_eq_true hwf)
  case broadcast => exact broadcast_takesBlock (of_decide_eq_true hwf)
  case unknownCommand => exact unknownCommand_takesBlock hlv
  case continuation =>
    cases hlv
    exact continuation_takesBlock
  all_goals exact fun b hb => nomatch hb

end Sys2Proof.Machine
end

section
/-! A command block on the wire, and what the management unit does with it (R183, R184, R200). -/

namespace Sys2Proof.Machine

open Sys2Proof

/-! ## The block as its payload carries it -/

/-- The block as its receiver has it: 58 parameter bytes, of which what the sender did not carry is 0 (R200). -/
def CommandBlock.received (b : CommandBlock) : CommandBlock := ⟨b.tag, b.code, b.length, zeroTo 58 (b.bytes.take 58)⟩

/-- Bytes beyond those kept do not matter. -/
theorem zeroTo_take {n m : Nat} (h : n ≤ m) (bs : List Byte) : zeroTo n (zeroTo m (bs.take m)) = zeroTo n bs := by
  have hlong : n ≤ (zeroTo m (bs.take m)).length := h.trans (zeroTo_length m _).ge
  rw [zeroTo_of_ge hlong]
  rcases Nat.le_total m bs.length with hm | hm
  · have hself : zeroTo m (bs.take m) = bs.take m := zeroTo_self (by rw [List.length_take, Nat.min_eq_left hm])
    rw [hself, zeroTo_of_ge (h.trans hm), List.take_take, Nat.min_eq_left h]
  · rw [List.take_of_length_le hm, zeroTo, zeroTo, List.take_take, Nat.min_eq_left h, List.take_append, List.take_append, List.take_replicate,
      List.take_replicate]
    congr 2
    omega

theorem CommandBlock.received_dispatch (lv : InputLevels) (b : CommandBlock) : dispatchBody lv b.received = dispatchBody lv b := by
  funext s
  have hcode : b.received.code = b.code := rfl
  have hlength : b.received.length = b.length := rfl
  have hbytes : zeroTo Config.blockParams b.received.bytes = zeroTo Config.blockParams b.bytes := zeroTo_take (Nat.le_refl 58) b.bytes
  unfold dispatchBody lengthStep
  rw [hcode, hlength, hbytes]
  split
  · split
    · rfl
    · split
      · rfl
      · next hlen =>
        have hle : b.length ≤ 58 := Nat.not_lt.mp hlen
        have hshort : zeroTo b.length b.received.bytes = zeroTo b.length b.bytes := zeroTo_take hle b.bytes
        rw [hshort]
  · rfl

/-- R184: what is owed to a partial command is at most one block's parameters. -/
theorem CommandBlock.received_taken {s : State} (hs : s.PartialSound) (lv : InputLevels) (b : CommandBlock) :
    takeCommandBlock lv b.received s = takeCommandBlock lv b s := by
  unfold takeCommandBlock takeBlock
  rw [CommandBlock.received_dispatch]
  cases hheld : s.mgt.held with
  | none => rfl
  | some p =>
    have hcompletes : b.received.completes p = b.completes p := rfl
    dsimp only
    rw [hcompletes]
    split
    · next hc =>
      obtain ⟨-, hmax, -⟩ := hs p hheld
      have howed : b.length + 58 = p.length := of_decide_eq_true (Bool.and_eq_true_iff.mp hc).2
      have hle : b.length ≤ 58 := by omega
      have hshort : zeroTo b.received.length b.received.bytes = zeroTo b.length b.bytes := zeroTo_take hle b.bytes
      rw [hshort]
    · rfl

/-- R170, R200: the payload of a command block read back. -/
theorem takeCommand_payload (lv : InputLevels) {b : CommandBlock} (hlen : b.length ≤ 255) (s : State) :
    takeCommand lv (zeroTo 61 (b.tag :: b.code :: byteOf b.length :: b.bytes.take 58)) s = takeCommandBlock lv b.received s := by
  have hpay : zeroTo 61 (b.tag :: b.code :: byteOf b.length :: b.bytes.take 58) = b.tag :: b.code :: byteOf b.length :: zeroTo 58 (b.bytes.take 58) := by
    rw [zeroTo, zeroTo, List.take_append, List.take_append, List.take_replicate, List.take_replicate]
    simp only [List.length_cons, List.take_succ_cons, List.cons_append]
    congr 5
    omega
  have hbyte : (byteOf b.length).toNat = b.length := by
    rw [byteOf, BitVec.toNat_ofNat]
    exact Nat.mod_eq_of_lt (by omega)
  rw [hpay, takeCommand, CommandBlock.received]
  simp only [List.getD_cons_zero, List.getD_cons_succ, hbyte, List.drop_succ_cons, List.drop_zero]

theorem State.heard_levels (s : State) : s.heard.levels = s.levels := rfl

theorem LevelsAgree.congr {lv : InputLevels} {s t : State} {i : Instr} (h : LevelsAgree lv s i) (hlevels : t.levels = s.levels) : LevelsAgree lv t i := by
  cases i
  case unknownCommand => exact hlevels.trans h
  all_goals exact h

/-- Settles O53: the block is received as it was sent, and its row is the block handed to the owner. -/
theorem commandOnWire : Obligations.CommandOnWire := by
  unfold Obligations.CommandOnWire
  intro s i lv hr hs b hb hwf hlv
  have hheard : s.heard.PartialSound := hs
  obtain ⟨hexec, hlen⟩ := exec_takesBlock (hlv.congr s.heard_levels) hwf b hb
  rw [exec_commandBlock hr, takeCommand_payload lv hlen, CommandBlock.received_taken hheard, hexec]
  exact (whenRunning_run (s := s.heard) hr _).symm

end Sys2Proof.Machine
end

section
/-! What the management unit makes of any command block (R183 to R185). -/

namespace Sys2Proof.Machine

open Sys2Proof

/-! ## Lengths (R183 step 5, R200) -/

/-- R183 step 5: a parameter length other than the required one is refused. -/
theorem runCommand_badLength {code : Byte} {n : Nat} (h : requiredLength code = some n) (lv : InputLevels) {q : List Byte} (hq : q.length ≠ n)
    (s : State) : runCommand lv code q s = (s, badValue) := by
  unfold requiredLength at h
  repeat' split at h
  all_goals cases h
  iterate 8
    next hc => fin_cases hc <;> simp [runCommand, runLine, runDirectory, runAccount, runCalendar, runChannel, runService, fixed, hq]
  · next hc => simp [hc, runCommand, runLine, fixed, hq]
  · next hc => simp [hc, runCommand, runDirectory, fixed, hq]

theorem getD_zeroTo (n : Nat) (bs : List Byte) (k : Nat) (hk : k < n) : (zeroTo n bs).getD k 0 = bs.getD k 0 := by
  rw [zeroTo, List.getD_eq_getElem?_getD, List.getD_eq_getElem?_getD, List.getElem?_take_of_lt hk, List.getElem?_append]
  split
  · rfl
  · next hlen =>
    rw [List.getElem?_eq_none (Nat.not_lt.mp hlen)]
    cases h : (List.replicate n (0 : Byte))[k - bs.length]? with
    | none => rfl
    | some x => exact List.eq_of_mem_replicate (List.mem_of_getElem? h)


theorem cmdLoadMessage_badLength {q : List Byte} (h : q.length < 2 ∨ q.length ≠ 2 + (q.getD 1 0).toNat) (s : State) :
    cmdLoadMessage q s = (s, badValue) := by
  match q with
  | [] => rfl
  | [_] => rfl
  | slot :: n :: text =>
    refine cmdLoadMessage_badValue (.inr fun hn => ?_)
    simp only [List.length_cons, List.getD_cons_succ, List.getD_cons_zero] at h
    omega

theorem cmdBroadcast_badLength {q : List Byte} (h : q.length < 1 ∨ q.length ≠ 1 + (q.getD 0 0).toNat) (s : State) :
    cmdBroadcast q s = (s, badValue) := by
  match q with
  | [] => rfl
  | n :: text =>
    refine cmdBroadcast_badValue (fun hn => ?_) s
    simp only [List.length_cons, List.getD_cons_zero] at h
    omega

/-- R183 step 5: the parameter length is checked against what the command requires. -/
theorem runCommand_wrongLength {b : CommandBlock} (h : b.WrongLength) (lv : InputLevels) (s : State) :
    runCommand lv b.code (zeroTo b.length b.bytes) s = (s, badValue) := by
  have hlen := zeroTo_length b.length b.bytes
  rcases h with ⟨n, hn, hne⟩ | ⟨hcode, hbad⟩ | ⟨hcode, hbad⟩
  · exact runCommand_badLength hn lv (by rw [hlen]; exact hne) s
  · have hrun : runCommand lv b.code (zeroTo b.length b.bytes) s = cmdLoadMessage (zeroTo b.length b.bytes) s := by rw [hcode]; rfl
    rw [hrun]
    refine cmdLoadMessage_badLength ?_ s
    rw [hlen]
    by_cases hshort : b.length < 2
    · exact .inl hshort
    · rw [getD_zeroTo _ _ _ (Nat.not_lt.mp hshort)]
      exact hbad
  · have hrun : runCommand lv b.code (zeroTo b.length b.bytes) s = cmdBroadcast (zeroTo b.length b.bytes) s := by rw [hcode]; rfl
    rw [hrun]
    refine cmdBroadcast_badLength ?_ s
    rw [hlen]
    by_cases hshort : b.length < 1
    · exact .inl hshort
    · rw [getD_zeroTo _ _ _ (Nat.not_lt.mp hshort)]
      exact hbad

/-! ## The management unit (R183, R184) -/

theorem exists_levelsAgree (s : State) (i : Instr) : ∃ lv, LevelsAgree lv s i := by
  cases i
  case unknownCommand => exact ⟨s.levels, rfl⟩
  case continuation levels => exact ⟨levels, rfl⟩
  case unprotectAll key => exact ⟨⟨key, 0⟩, rfl⟩
  case readProtection key => exact ⟨⟨key, 0⟩, rfl⟩
  case readLine l ring =>
    refine ⟨⟨false, if ring then BitVec.allOnes 32 else 0⟩, fun hl => ?_⟩
    cases ring with
    | false => exact BitVec.getLsbD_zero.symm
    | true =>
      rw [if_pos rfl, BitVec.getLsbD_allOnes]
      exact (decide_eq_true hl).symm
  all_goals exact ⟨s.levels, trivial⟩

section Blocks

variable {s : State} {lv : InputLevels} {b : CommandBlock}

theorem takeCommandBlock_unheld (hheld : s.mgt.held = none) : takeCommandBlock lv b s = takeFresh b.tag b.code (dispatchBody lv b) s := by
  unfold takeCommandBlock takeBlock
  rw [hheld]

theorem takeCommandBlock_ready (h : s.Ready) : takeCommandBlock lv b s = finish b.tag b.code (dispatchBody lv b s) := by
  rw [takeCommandBlock_unheld h.held, takeFresh, h.replyFull, if_neg Bool.false_ne_true]

theorem takeFresh_full {tag code : Byte} {own : State → State × Answer} (hheld : s.mgt.held = none)
    (hfull : 16 ≤ s.mgt.replies.length + (if s.mgt.writing.isSome then 1 else 0)) : takeFresh tag code own s = discardCommand s := by
  have hreply : s.replyFull = true := by
    rw [State.replyFull, Management.load, hheld]
    exact decide_eq_true hfull
  rw [takeFresh, hreply, if_pos rfl]

theorem dispatchBody_unknown (h : b.code ∉ commandCodes) : dispatchBody lv b s = (s, .reply .unknown []) := by
  refine if_neg fun hc => h ?_
  exact List.contains_iff_mem.mp hc

theorem dispatchBody_known (h : b.code ∈ commandCodes) :
    dispatchBody lv b s = lengthStep b.length b.bytes (runCommand lv b.code (zeroTo b.length b.bytes)) s :=
  if_pos (List.contains_iff_mem.mpr h)

/-- R184: a block that completes the partial command held. -/
theorem takeCommandBlock_completes {p : PartialCommand} (hp : s.mgt.held = some p) (htag : b.tag = p.tag) (hcode : b.code = p.code)
    (howed : b.length + 58 = p.length) (hbytes : b.bytes.length = b.length) : takeCommandBlock lv b s =
    finish p.tag p.code (takeCompleted p.code (p.bytes ++ b.bytes) { s with mgt := { s.mgt with held := none } }) := by
  have hcompletes : b.completes p = true := by
    rw [CommandBlock.completes, decide_eq_true htag, decide_eq_true hcode]
    exact decide_eq_true howed
  unfold takeCommandBlock takeBlock
  rw [hp]
  dsimp only
  rw [if_pos hcompletes, zeroTo_self hbytes]
  rfl

/-- R184: another block drops the partial command, and is then taken as any other. -/
theorem takeCommandBlock_drops {p : PartialCommand} (hp : s.mgt.held = some p)
    (hno : ¬ (b.tag = p.tag ∧ b.code = p.code ∧ b.length + 58 = p.length)) : takeCommandBlock lv b s =
    takeCommandBlock lv b (State.replied { s with mgt := { s.mgt with held := none } } p.tag p.code .badValue []) := by
  have hcompletes : b.completes p ≠ true := fun h => hno <| by
    simpa [CommandBlock.completes, Config.blockParams, and_assoc] using h
  rw [takeCommandBlock_unheld (s := State.replied { s with mgt := { s.mgt with held := none } } p.tag p.code .badValue []) rfl]
  unfold takeCommandBlock takeBlock
  rw [hp]
  dsimp only
  rw [if_neg hcompletes, dropPartial, hp]
  rfl

end Blocks

end Sys2Proof.Machine
end

section
/-! Any command block (R183 to R185). -/

namespace Sys2Proof.Machine

open Sys2Proof

/-- R183: a row in a running part is what the management unit does with its block, in this state and in another with its input levels. -/
theorem exists_takesBlock {s : State} {i : Instr} {b : CommandBlock} (hb : blockOf i = some b) (hwf : i.wellFormed = true) :
    ∃ lv, ∀ t : State, t.inReset = false → t.levels = s.levels → exec i t = .next (takeCommandBlock lv b t) := by
  obtain ⟨lv, hlv⟩ := exists_levelsAgree s i
  refine ⟨lv, fun t hr hlevels => ?_⟩
  rw [(exec_takesBlock (hlv.congr hlevels) hwf b hb).1]
  exact whenRunning_run hr _

theorem takeCompleted_other {code : Byte} (h1 : code ≠ 0x11) (h2 : code ≠ 0x12) (params : List Byte) (s : State) :
    takeCompleted code params s = (s, badValue) := (if_neg h1).trans (if_neg h2)

theorem takeCompleted_loadMessage (params : List Byte) (s : State) : takeCompleted 0x11 params s = cmdLoadMessage params s := rfl

theorem takeCompleted_broadcast (params : List Byte) (s : State) : takeCompleted 0x12 params s = cmdBroadcast params s := rfl

theorem cmdLoadMessage_long {slot n : Byte} {text : List Byte} (h : 64 < text.length) (s : State) :
    cmdLoadMessage (slot :: n :: text) s = (s, badValue) := if_neg fun hc => Nat.not_le.mpr h hc.2

theorem cmdBroadcast_long {n : Byte} {text : List Byte} (h : 64 < text.length) (s : State) : cmdBroadcast (n :: text) s = (s, badValue) :=
  if_neg fun hc => Nat.not_le.mpr h hc.2

/-- Settles O47: a row is its block; the unit discards it, refuses it, keeps it for its continuation, or completes the partial command that it holds. -/
theorem commandBlocks : Obligations.CommandBlocks := by
  unfold Obligations.CommandBlocks
  intro s i hr b hb hwf
  obtain ⟨lv, htakes⟩ := exists_takesBlock (s := s) hb hwf
  have hexec := htakes s hr rfl
  refine ⟨fun hheld hfull => ?_, fun hready hcode => ?_, fun hready hcode => ⟨fun hlong => ?_, fun hblock hmax => ?_, fun hblock hbad => ?_⟩,
    fun p hp hsound => ⟨fun hno => ?_, fun htag hcode howed hbytes => ?_⟩⟩
  · rw [hexec, takeCommandBlock_unheld hheld, takeFresh_full hheld hfull]
    rfl
  · rw [hexec, takeCommandBlock_ready hready, dispatchBody_unknown hcode, finish_reply]
  · rw [hexec, takeCommandBlock_ready hready, dispatchBody_known hcode, lengthStep_long hlong, finish_badValue]
  · rw [hexec, takeCommandBlock_ready hready, dispatchBody_known hcode, lengthStep_continues hblock hmax, finish_partly]
    rfl
  · rw [hexec, takeCommandBlock_ready hready, dispatchBody_known hcode, lengthStep_short hblock, runCommand_wrongLength hbad, finish_badValue]
  · rw [hexec, takeCommandBlock_drops hp hno]
    exact (htakes (State.replied { s with mgt := { s.mgt with held := none } } p.tag p.code .badValue []) hr rfl).symm
  · rw [hexec, takeCommandBlock_completes hp htag hcode howed hbytes]
    generalize p.bytes ++ b.bytes = q
    refine ⟨fun h1 h2 => ?_, fun k rest hq m text hrest h11 => ⟨fun slot hslot hm hmax => ?_, fun hbad => ?_⟩, fun k text hq h12 => ⟨fun hk hmax => ?_, fun hbad => ?_⟩⟩
    · rw [takeCompleted_other h1 h2, finish_badValue]
    · subst hq hrest
      rw [h11, takeCompleted_loadMessage, cmdLoadMessage_taken hslot hm hmax, finish_done]
    · subst hq hrest
      rw [h11, takeCompleted_loadMessage]
      rcases hbad with h | h | h
      · rw [cmdLoadMessage_badValue (.inl h), finish_badValue]
      · rw [cmdLoadMessage_badValue (.inr h), finish_badValue]
      · rw [cmdLoadMessage_long h, finish_badValue]
    · subst hq
      rw [h12, takeCompleted_broadcast, cmdBroadcast_taken hk hmax, finish_reply]
      refine ⟨_, rfl, rfl, fun l => ?_⟩
      refine (State.line_ofFn s _ l).trans ?_
      simp only [State.mem_listeners]
      rfl
    · subst hq
      rw [h12, takeCompleted_broadcast]
      rcases hbad with h | h
      · rw [cmdBroadcast_badValue h, finish_badValue]
      · rw [cmdBroadcast_long h, finish_badValue]

end Sys2Proof.Machine
end
